-- ==== Sys2Proof/Word.lean ====
section
/-! DEFINITION. The word types of the part: memory words, bytes and word addresses (00_scope, "Memory and words"). -/

namespace Sys2Proof

/-- A 16-bit memory word. -/
abbrev Word := BitVec 16

/-- One byte lane of a word, or one character on the line. -/
abbrev Byte := BitVec 8

/-- A 20-bit word address on the P-side or M-side bus. -/
abbrev Addr := BitVec 20

end Sys2Proof
end

