-- ==== Sys2Proof/Syntax.lean ====
section
/-! DEFINITION. The commands of the part: one constructor of `Instr` per row of spec/opcode_table.json, with its operands. -/

namespace Sys2Proof

/-- The two screens (R111, R129). -/
inductive Screen
  | a
  | b
deriving DecidableEq, Repr

/-- The path that delivers an update image: an UPDATE frame (LINE) or an intake slot (LOCAL) (R6). -/
inductive Source
  | line
  | loc
deriving DecidableEq, Repr

/-- The byte lanes a host write enables (R176). -/
inductive Lanes
  | both
  | high
  | low
deriving DecidableEq, Repr

/-- The request codes of a sale post word (R61, R206). -/
inductive SaleCode
  | quote
  | issue
  | release
deriving DecidableEq, Repr

/-- The command codes of the report block's command word (R177, R206). -/
inductive CommandCode
  | setClock
  | calibrate
  | reseed
  | play
  | localNotice
  | selectionDone
  | journalPush
deriving DecidableEq, Repr

/-- The two notice records of the composer (R121). -/
inductive NoticeKind
  | line
  | own
deriving DecidableEq, Repr

/-- Whether a good frame carries the part's halt id or 255 (R157). -/
inductive Dest
  | addressed
  | broadcast
deriving DecidableEq, Repr

/-- What a FRAME_ERROR brings: characters whose stop bit is good, and then, when `bad`, one whose stop bit is low
(R155, R156; log 22). -/
structure FrameFault where
  chars : List Byte
  bad : Bool
deriving DecidableEq, Repr

/-- The commands, one constructor per row of the opcode table, in the table's order. FRAME_GAP_EXPIRY carries the sub-ticks of
idle line beyond those the uptime has counted since the last stop bit (R156; log 22). -/
inductive Instr
  | powerOn (backupKept : Bool)
  | mainPowerLoss
  | backupSecond
  | hostLineReset
  | supplyLowChange (asserted : Bool)
  | haltSecond
  | stalenessRetest
  | quoteLapse (slot : Fin 4)
  | idleDeadline
  | dueFlash
  | noticeExpiry (notice : NoticeKind)
  | lossDeadline
  | stuckTimeout (channel : Fin 8)
  | leaveDeadline
  | handedDeadline
  | scrollDeadline (screen : Screen)
  | sampleRound (counts : List Nat)
  | frameStart (screen : Screen)
  | lineStart (screen : Screen)
  | fetchUrgent (screen : Screen)
  | samplePeriod
  | partCycle (hostRead : Option Addr)
  | rowBuild
  | cellRender
  | hostWrite (addr : Addr) (value : Word) (lanes : Lanes)
  | clearWord (value : Word) (lanes : Lanes)
  | mask (value : Word) (lanes : Lanes)
  | globalEnable (value : Word) (lanes : Lanes)
  | inputReadIndex (value : Word) (lanes : Lanes)
  | clockGroupRead (word : Fin 3)
  | load
  | descriptorRejection
  | firstAcceptance
  | reloadAcceptance
  | submit (slot : Fin 16)
  | record (src : Source)
  | delete (src : Source)
  | cancel (src : Source)
  | reinstate (src : Source)
  | report (src : Source)
  | departed (src : Source)
  | saleSlotPost (slot : Fin 4) (code : SaleCode)
  | quote
  | issue
  | commit
  | release
  | commandPost (code : CommandCode)
  | setClock
  | calibrate
  | reseed
  | play
  | localNotice
  | selectionDone
  | journalPush
  | frameError (cause : FrameFault)
  | frameGapExpiry (gap : Nat)
  | foreignFrame (kind halt : Byte) (seq : Fin 8) (payload : List Word)
  | poll (seq : Fin 8) (payload : List Word)
  | update (seq : Fin 8) (payload : List Word)
  | clock (dest : Dest) (seq : Fin 8) (payload : List Word)
  | notice (dest : Dest) (seq : Fin 8) (payload : List Word)
  | journalConfirm (seq : Fin 8) (payload : List Word)
  | statusRequest (seq : Fin 8) (payload : List Word)
  | forward (seq : Fin 8) (payload : List Word)
  | unknownKindFrame (kind : Byte) (seq : Fin 8) (payload : List Word)
  | replySend
  | replyEnd
  | hostResetAsserted
deriving DecidableEq, Repr

end Sys2Proof
end

