-- ==== Sys2Proof/Decode.lean ====
section
/-! DEFINITION. Decoding of table words: no row of the opcode table gives bits, so no word spells a command (log 39). -/

namespace Sys2Proof

/-- The command a word spells by the table's bits: none, as the table gives none to any row. -/
def decodeTableWord (_nbits _w : Nat) : Option Instr := none

end Sys2Proof
end

