-- ==== Sys2Proof/Config.lean ====
section
/-! DEFINITION. What an implementation or an occasion fixes and the spec leaves open (free values, without a body), and
the addresses the spec fixes for every part. -/

namespace Sys2Proof.Config

/-- FREE VALUE. Which of two events that fall together is taken first (R152; log 23, 25). -/
opaque freeFirst : Nat → Bool

/-- FREE VALUE. Where a command due at a crystal cycle stands among the others due there (R27, R47; log 3). -/
opaque freePlace : Nat → Nat

/-- FREE VALUE. The count of the backup divider when it takes over, or after its supply was lost (R30; log 11). -/
opaque freeDivider : Nat → Nat

/-- FREE VALUE. The uptime second that follows the last one of its range (R29; log 33). -/
opaque freeUptime : Nat → Nat

/-- FREE VALUE. The value written into a command argument word at the first write of the report block (R183; log 27). -/
opaque freeArgument : Nat → Word

/-- The load word, where the site descriptor begins (R192). -/
def loadWord : Nat := 0x00400

/-- The last word of the load area, 0x00400..0x00BFF (R177). -/
def loadAreaEnd : Nat := 0x00BFF

/-- The highest word address. -/
def maxAddr : Nat := 0xFFFFF

/-- The number of entries the departure table holds at most (R5). -/
def tableSize : Nat := 48

/-- The end of the axis of expected times (R43). -/
def axisEnd : Nat := 107999

/-- What a byte of memory that nothing has written reads as (log 6). -/
def unlistedByte : Byte := 0

end Sys2Proof.Config
end

