-- ==== Sys2Proof/Machine/State.lean ====
section
/-! DEFINITION. The state of the part as plain data: every register, FIFO, buffer, counter and mode the spec names, the
memory the part works in, the queue of waiting commands, and the state right after reset. -/

namespace Sys2Proof.Machine

/-! ### Codes that several blocks share -/

/-- Clock state (R32). -/
inductive ClockState
  | unset
  | set
deriving DecidableEq, Repr

/-- Direction of a departure (R1). -/
inductive Direction
  | up
  | down
deriving DecidableEq, Repr

/-- Direction filter of a screen (R113). -/
inductive Filter
  | up
  | down
  | both
deriving DecidableEq, Repr

/-- Phase of an entry (R49). -/
inductive Phase
  | waiting
  | due
  | departed
  | cancelled
deriving DecidableEq, Repr

/-- Timeliness of an entry (R46). -/
inductive Timeliness
  | noReport
  | onTime
  | late
  | stale
deriving DecidableEq, Repr

/-- Relation of an entry to the service day (R3); a tag two days off is never held. -/
inductive Relation
  | previous
  | current
  | next
  | unheld
deriving DecidableEq, Repr

/-- Ticket products (R62). -/
inductive Product
  | single
  | ret
  | day
deriving DecidableEq, Repr

/-- Activity modes (R135). -/
inductive Mode
  | active
  | quiet
  | dormant
deriving DecidableEq, Repr

/-- Link states (R158). -/
inductive LinkState
  | silent
  | up
  | lost
deriving DecidableEq, Repr

/-- Load states (R192). -/
inductive LoadState
  | unconfigured
  | loading
  | configured
deriving DecidableEq, Repr

/-- The pair that names an entry: train number and day tag (R1). -/
structure TrainId where
  train : Nat
  tag : Nat
deriving DecidableEq, Repr

/-! ### Power, pins, battery domain and clock -/

/-- Main power, the host reset input and the supply-low input (R30, R139, R199). -/
structure Power where
  main : Bool
  reset : Bool
  supplyLow : Bool
deriving DecidableEq, Repr

/-- The fiscal count and cents of one product (R76). -/
structure Fiscal where
  count : Nat
  cents : Nat
deriving DecidableEq, Repr

/-- The journal geometry: the window base and J (R79). -/
structure Geometry where
  base : Nat
  size : Nat
deriving DecidableEq, Repr

/-- The battery domain (R30, R31, R76, R79, R84). -/
structure Battery where
  marker : Bool
  civil : Nat
  day : Word
  clock : ClockState
  hour : Nat
  divider : Nat
  nextSerial : Nat
  single : Fiscal
  ret : Fiscal
  dayTicket : Fiscal
  geometry : Option Geometry
  write : Nat
  send : Nat
  confirm : Nat
deriving DecidableEq, Repr

/-- The snapshot latch of the clock group (R39). -/
structure Snapshot where
  day : Word
  minute : Nat
  second : Nat
  clock : ClockState
deriving DecidableEq, Repr

/-- The halt clock's main-domain state (R27, R29, R39). `early` is the model's own: the uptime second before the one that fell
at the same crystal cycle, while a halt second drawn ahead of that uptime second waits to be taken (R47; log 3). -/
structure HaltClock where
  prescaler : Nat
  hold : Nat
  slew : Int
  upSec : Nat
  upSub : Nat
  upCyc : Nat
  snapshot : Option Snapshot
  early : Option Nat
deriving DecidableEq, Repr

/-! ### The active settings (R195, R201, R202) -/

/-- The windows a descriptor gives (R175). -/
structure Windows where
  intake : Nat
  sale : Nat
  report : Nat
  journal : Nat
  jsize : Nat
  frameA : Nat
  strideA : Nat
  frameB : Nat
  strideB : Nat
deriving DecidableEq, Repr

/-- Day-start hour, projection and retirement parameters (R22, R46, R49, R55). -/
structure ProjParams where
  hour : Nat
  late : Nat
  window : Nat
  grace : Nat
  stale : Nat
  step : Nat
  retention : Nat
  abandon : Nat
deriving DecidableEq, Repr

/-- Fare parameters (R63, R66, R69, R70). -/
structure FareParams where
  fares : List Nat
  halt : Nat
  zone : Nat
  retFactor : Nat
  dayFactor : Nat
  offStart : Nat
  offEnd : Nat
  offPct : Nat
  concPct : Nat
  childPct : Nat
  unit : Nat
  cap : Nat
  saleClose : Nat
  grace : Nat
  quoteLife : Nat
deriving DecidableEq, Repr

/-- The colours of one screen: five (foreground, background) pairs and the alert foreground (R118). -/
structure Colours where
  rows : List (Nat × Nat)
  alert : Nat
deriving DecidableEq, Repr

/-- Screen settings (R113, R116, R118, R125, R133, R144). -/
structure ScreenParams where
  filterA : Filter
  filterB : Filter
  platUp : Nat
  platDown : Nat
  countdown : Nat
  palA : List Nat
  palB : List Nat
  colA : Colours
  colB : Colours
  fracQuiet : Nat
  fracDormant : Nat
  scrollStep : Nat
  scrollPeriod : Nat
deriving DecidableEq, Repr

/-- The currency format (R120). -/
structure Currency where
  lead : List Nat
  sep : Nat
  places : Nat
deriving DecidableEq, Repr

/-- Panel parameters (R88, R90, R91, R93, R97, R105, R107). -/
structure PanelParams where
  target : Nat
  filter : Nat
  shiftActive : Nat
  shiftQuiet : Nat
  prox : Nat
  touch : Nat
  wet : Nat
  debounce : Nat
  stuck : Nat
  tap : Nat
  swipe : Nat
  distance : Nat
  leave : Nat
  handed : Nat
deriving DecidableEq, Repr

/-- Activity times (R135). -/
structure ActivityTimes where
  quiet : Nat
  dormant : Nat
deriving DecidableEq, Repr

/-- Announcer volumes and bases (R142, R144). -/
structure AnnParams where
  volActive : Nat
  volQuiet : Nat
  volDormant : Nat
  platform : Nat
  hour : Nat
  minute : Nat
  delay : Nat
  reason : Nat
deriving DecidableEq, Repr

/-- Link parameters (R37, R155, R156, R157, R159, R162). -/
structure LinkParams where
  baud : Nat
  gap : Nat
  turnaround : Nat
  loss : Nat
  haltId : Nat
  authority : Bool
deriving DecidableEq, Repr

/-- What is copied of a stop entry: the present mark and the zone (R195, R201). -/
structure Stop where
  present : Bool
  zone : Nat
deriving DecidableEq, Repr

/-- The active settings (R195); `len` is the descriptor's length in words, which R171 measures by. -/
structure Settings where
  len : Nat
  win : Windows
  glyph : Nat
  chain : Nat
  proj : ProjParams
  fare : FareParams
  scr : ScreenParams
  money : Currency
  panel : PanelParams
  times : ActivityTimes
  ann : AnnParams
  link : LinkParams
  stops : List Stop
  clips : Nat
deriving DecidableEq, Repr

/-! ### Waiting writes -/

/-- What the landing of a waiting write brings about beside the word in memory (R60, R73, R76, R171, R179, R190, R197). -/
inductive Landing
  | plain
  | intakePost (slot : Nat)
  | salePost (slot : Nat)
  | expiredReason (slot : Nat)
  | expiredPost (slot : Nat)
  | journalState
  | restartIntake (slot : Nat)
  | restartSale (slot : Nat)
  | accepted
  | rejected
  | commandPost
  | chainFull (nextPos : Nat)
deriving DecidableEq, Repr

/-- One word write a requester has waiting for the port (R182). -/
structure Acc where
  addr : Nat
  val : Word
  land : Landing
deriving DecidableEq, Repr

/-! ### The departure table -/

/-- A delay report (R2). -/
structure Report where
  delay : Int
  point : Nat
  final : Bool
  arrival : Nat
deriving DecidableEq, Repr

/-- An entry of the departure table (R1, R2, R40). -/
structure Entry where
  train : Nat
  tag : Nat
  dir : Direction
  sched : Nat
  dest : Nat
  calling : List Nat
  recovery : Nat
  noSale : Bool
  version : Nat
  source : Source
  report : Option Report
  cancel : Option Nat
  hm : Nat
  phase : Phase
  timeliness : Timeliness
  exp : Nat
  dueAnn : Bool
  delayAnn : Option Nat
deriving DecidableEq, Repr

/-- Where the intake job stands with the slot at the head of its FIFO (R7). -/
inductive IntakeStage
  | idle
  | fetching (got : List Word)
  | ready (image : List Word)
  | answering (accs : List Acc)
deriving DecidableEq, Repr

/-- The intake job (R7, R26). -/
structure Intake where
  fifo : List Nat
  stage : IntakeStage
deriving DecidableEq, Repr

/-! ### The issue unit -/

/-- Why a quote was voided (R62). -/
inductive VoidReason
  | none
  | departureGone
  | reconfigured
deriving DecidableEq, Repr

/-- The passenger counts of a request (R62). -/
structure Counts where
  adults : Nat
  conc : Nat
  children : Nat
deriving DecidableEq, Repr

/-- The content of a quote (R62). -/
structure Quote where
  product : Product
  counts : Counts
  dest : Nat
  bound : Option TrainId
  fare : Nat
  validity : Nat
  expiry : Nat
deriving DecidableEq, Repr

/-- A quote record: NONE, LIVE or VOIDED (R62). -/
inductive QuoteRec
  | empty
  | live (q : Quote)
  | voided (q : Quote) (why : VoidReason)
deriving DecidableEq, Repr

/-- A ticket between its issue check and its commit (R74, R75). -/
structure Ticket where
  product : Product
  counts : Counts
  dest : Nat
  train : Nat
  fare : Nat
  validity : Nat
  day : Word
  second : Nat
deriving DecidableEq, Repr

/-- Where the issue unit stands with the slot at the head of the sale FIFO (R61, R75). -/
inductive SaleStage
  | idle
  | fetching (got : List Word)
  | ready (request : List Word)
  | answering
  | ticket (t : Ticket)
deriving DecidableEq, Repr

/-- The issue unit's main-domain state (R61, R62). -/
structure IssueUnit where
  records : List QuoteRec
  fifo : List Nat
  stage : SaleStage
  accs : List Acc
deriving DecidableEq, Repr

/-! ### Panel and selection -/

/-- State of a panel channel (R86). -/
inductive ChanState
  | uncalibrated
  | calibrating
  | idle
  | active
  | failed
deriving DecidableEq, Repr

/-- A panel channel record (R86). -/
structure Channel where
  state : ChanState
  gain : Nat
  filtered : Int
  baseline : Int
  delta : Int
  debounce : Nat
  onset : Option Nat
  calStep : Nat
deriving DecidableEq, Repr

/-- The gesture tracker while it follows a touch (R97). -/
structure Tracker where
  onsetPos : Nat
  onsetAt : Nat
  startPos : Nat
  startAt : Nat
  swiped : Bool
  held : Bool
deriving DecidableEq, Repr

/-- The panel unit (R86, R87, R89, R96, R97, R100). -/
structure Panel where
  chans : List Channel
  pos : Nat
  touched : Bool
  tracker : Option Tracker
  lastRound : Option Nat
  roundNo : Nat
  calMask : Option Nat
  dests : List Nat
deriving DecidableEq, Repr

/-- States of the selection machine (R101). -/
inductive SelState
  | idle
  | browse
  | choose
  | confirm
  | handed
deriving DecidableEq, Repr

/-- The selection machine (R101). -/
structure Selection where
  state : SelState
  cursor : Option Nat
  product : Product
  page : Nat
  leave : Option Nat
  handed : Option Nat
deriving DecidableEq, Repr

/-- Events handed to the selection machine by the panel (R99). -/
inductive SelEvent
  | presence
  | absence
  | swipeFwd
  | swipeBack
  | tap
  | hold
  | ok
  | back
deriving DecidableEq, Repr

/-! ### Composer and screens -/

/-- A cell record (R111). -/
structure Cell where
  char : Option Nat
  next : Nat
  shift : Nat
  fg : Nat
  bg : Nat
  dirty : Bool
deriving DecidableEq, Repr

/-- A part of a row's text: characters known at the start of the build, or characters to be fetched (R123). -/
inductive Piece
  | text (chars : List Nat)
  | fetch (addr len : Nat) (trim : Bool)
deriving DecidableEq, Repr

/-- The colours of a row under build; a flashing row takes its foreground at completion (R118). -/
inductive Paint
  | steady (fg bg : Nat)
  | flashing (fg alert bg : Nat)
deriving DecidableEq, Repr

/-- A row build in progress (R123). -/
structure Build where
  screen : Screen
  row : Nat
  pieces : List Piece
  trimAll : Bool
  paint : Paint
  entry : Option TrainId
  got : List Word
deriving DecidableEq, Repr

/-- A cell render in progress, working from its copy of the record (R126, R127). -/
structure Render where
  screen : Screen
  index : Nat
  cell : Cell
  glyphs : List Word
  written : Nat
deriving DecidableEq, Repr

/-- The text side of one screen (R111). -/
structure TextScreen where
  cells : List Cell
  marks : List Bool
  entries : List (Option TrainId)
  strip : List Nat
  offset : Nat
  scrollAt : Option Nat
deriving DecidableEq, Repr

/-- A notice record (R121). -/
structure Notice where
  text : List Nat
  expiry : Nat
deriving DecidableEq, Repr

/-- The text fetch of a LOCAL_NOTICE (R121). -/
structure NoticeFetch where
  addr : Nat
  len : Nat
  duration : Nat
  got : List Word
deriving DecidableEq, Repr

/-- The composer (R111, R121, R123, R127). -/
structure Board where
  a : TextScreen
  b : TextScreen
  lineNotice : Option Notice
  ownNotice : Option Notice
  noticeFetch : Option NoticeFetch
  build : Option Build
  render : Option Render
  lastRendered : Screen
  lastN : Nat
deriving DecidableEq, Repr

/-- Where a screen channel is in its frame (R129, R130). -/
inductive ScanPos
  | none
  | blanking
  | line (y : Nat)
deriving DecidableEq, Repr

/-- The settings latched for a frame (R130). -/
structure Latched where
  base : Nat
  stride : Nat
  palette : List Nat
  fraction : Nat
  rate : Nat
deriving DecidableEq, Repr

/-- A screen channel (R129, R131). -/
structure Scan where
  scanning : Bool
  latched : Option Latched
  shown : List Word
  fill : List Word
  pos : ScanPos
  fetch : Option Nat
  lastShown : Option (List Word)
  urgent : Bool
deriving DecidableEq, Repr

/-! ### Activity, announcer, link -/

/-- The activity controller (R135). -/
structure Activity where
  mode : Mode
  deadline : Option Nat
  floor : Bool
  supplyLow : Bool
deriving DecidableEq, Repr

/-- Kinds of announcement requests (R145, R146). -/
inductive AnnKind
  | cancel
  | due
  | delay
  | play
deriving DecidableEq, Repr

/-- A queued request; a PLAY carries its clip list, the others name an entry (R145, R146). -/
structure AnnReq where
  kind : AnnKind
  who : Option TrainId
  clips : List Nat
deriving DecidableEq, Repr

/-- The fetch position within a clip: its entry is being read, its samples are, or no clip is left (R143, R149). -/
inductive ClipFetch
  | entry (got : List Word)
  | samples (addr left : Nat)
  | done
deriving DecidableEq, Repr

/-- Why an announcement is cut (R151). -/
inductive CutCause
  | preempted
  | withdrawn
deriving DecidableEq, Repr

/-- The current announcement (R142). -/
structure Announcement where
  kind : AnnKind
  who : Option TrainId
  playing : Bool
  clips : List Nat
  rest : List Nat
  fetch : ClipFetch
  out : List (Nat × Nat)
  cut : Option CutCause
deriving DecidableEq, Repr

/-- The announcer (R142, R143). -/
structure Announcer where
  queue : List AnnReq
  current : Option Announcement
  fifo : List Byte
  level : Int
  driven : Int
  supplyLow : Bool
  volume : Nat
  pacing : Nat
deriving DecidableEq, Repr

/-- The receiver and its phase (R155, R156). In HEADER and BODY it holds the bytes collected after START and the uptime, in
sub-ticks, at the last stop bit, from which the gap is counted. -/
inductive Receiver
  | disabled
  | hunt
  | header (got : List Byte) (since : Nat)
  | body (got : List Byte) (since : Nat)
deriving DecidableEq, Repr

/-- The content of a frame between START and the check word (R156). -/
structure Frame where
  kind : Byte
  seq : Nat
  halt : Byte
  payload : List Word
deriving DecidableEq, Repr

/-- How far the build of a reply has come (R161, R163, R167, R171). -/
inductive ReplyBuild
  | built (bytes : List Byte)
  | updating (images : List (List Word)) (outcomes : List Nat)
  | journal (todo : List Nat) (got : List Word)
  | chainRead (pos : Nat) (payload : List Word) (got : List Word)
  | chainWrite (accs : List Acc)
deriving DecidableEq, Repr

/-- A pending reply: the instant of the answered frame's last stop bit, the settings it is sent under, its build (R162, R173). -/
structure Reply where
  since : Nat
  turnaround : Nat
  haltId : Nat
  seq : Nat
  build : ReplyBuild
deriving DecidableEq, Repr

/-- The line link (R158, R162). -/
structure Link where
  receiver : Receiver
  state : LinkState
  lossAt : Option Nat
  history : Option (Nat × Word)
  lastReply : Option (List Byte)
  pending : Option Reply
  sending : Option (List Byte)
  chainPos : Option Nat
  push : Bool
deriving DecidableEq, Repr

/-! ### Memory path, report unit, loader -/

/-- The busy mark of a post word: clear, set with the request code taken, or set at start-up on a slot a reset left busy
(R174, R177, R197). -/
inductive Mark (α : Type)
  | clear
  | post (code : α)
  | restart
deriving DecidableEq, Repr

/-- A host cycle as presented to the memory path (R174, R176). -/
inductive HostCycle
  | read (addr : Addr)
  | write (addr : Addr) (value : Word) (lanes : Lanes)
deriving DecidableEq, Repr

/-- The memory path (R174, R181). -/
structure Path where
  load : Mark Unit
  command : Mark CommandCode
  intake : List (Mark Unit)
  sale : List (Mark SaleCode)
  hold : Nat
  waiting : List HostCycle
  readData : Word
deriving DecidableEq, Repr

/-- The command in work (R190); one posted while a reload waits for a ticket is held (R175). -/
inductive CommandStage
  | idle
  | held (code : CommandCode)
  | fetching (code : CommandCode) (got : List Word)
  | ready (code : CommandCode) (args : List Word)
  | owned (code : CommandCode)
  | answering (accs : List Acc)
deriving DecidableEq, Repr

/-- The report unit (R183); `unshown` counts the input events placed since the write index last landed (R189). -/
structure ReportUnit where
  flags : Word
  shown : Option Word
  mask : Word
  enable : Word
  counters : List Nat
  inWrite : Nat
  inRead : Nat
  entries : List (List Word)
  unshown : Nat
  written : List (Option Word)
  extra : List Nat
  probe : Bool
  command : CommandStage
deriving DecidableEq, Repr

/-- What the loader is doing (R193, R194, R197, R198); while a reload waits for a ticket, with the intake slots posted since its
acceptance began (R175). -/
inductive LoaderStage
  | idle
  | fetching (got : List Word)
  | fetched (got : List Word)
  | scanning (slot : Nat)
  | firstReport
  | reloadTicket (next : Settings) (late : List Nat)
  | reloadFinish (next : Settings)
deriving DecidableEq, Repr

/-- The descriptor loader (R192, R193). -/
structure Loader where
  state : LoadState
  stage : LoaderStage
  accs : List Acc
deriving DecidableEq, Repr

/-! ### The whole state -/

/-- The state of the part, of the memory it works in, and of the queue of waiting commands. -/
structure State where
  pending : List Instr
  free : Nat
  mem : List Host.Cell
  power : Power
  bat : Battery
  clk : HaltClock
  cfg : Option Settings
  table : List Entry
  dueCount : Nat
  intake : Intake
  issue : IssueUnit
  panel : Panel
  sel : Selection
  board : Board
  scrA : Scan
  scrB : Scan
  act : Activity
  ann : Announcer
  link : Link
  path : Path
  rep : ReportUnit
  loader : Loader
deriving DecidableEq, Repr

/-- The part has no fault that stops it: the spec describes none, so nothing raises one (safe: no run ends here). -/
inductive Fault
deriving DecidableEq, Repr

/-- The reasons a command is turned away without a meaning. -/
inductive Refusal
  /-- Raised only by an arm of `exec` that has no meaning yet; none has, so nothing raises it (safe). -/
  | notModelled (mnemonic : String)
deriving DecidableEq, Repr

/-! ### Reset values -/

/-- The battery domain after backup-domain loss, given the divider's count (R31, R84). -/
def Battery.initial (divider : Nat) : Battery :=
  { marker := true, civil := 0, day := 0, clock := .unset, hour := 3, divider := divider, nextSerial := 1,
    single := ⟨0, 0⟩, ret := ⟨0, 0⟩, dayTicket := ⟨0, 0⟩, geometry := none, write := 0, send := 0, confirm := 0 }

/-- A channel after reset (R86). -/
def Channel.initial : Channel :=
  { state := .uncalibrated, gain := 0, filtered := 0, baseline := 0, delta := 0, debounce := 0, onset := none, calStep := 0 }

/-- The panel unit after reset (R86, R96, R97, R100). -/
def Panel.initial : Panel :=
  { chans := List.replicate 8 Channel.initial, pos := 0, touched := false, tracker := none, lastRound := none,
    roundNo := 0, calMask := none, dests := [] }

/-- The selection machine after reset (R101). -/
def Selection.initial : Selection :=
  { state := .idle, cursor := none, product := .single, page := 0, leave := none, handed := none }

/-- An empty, clear cell record (R111); the colours of an empty cell are the model's choice (log 58). -/
def Cell.initial : Cell :=
  { char := none, next := 32, shift := 0, fg := 0, bg := 0, dirty := false }

/-- The text side of a screen after reset (R111). -/
def TextScreen.initial : TextScreen :=
  { cells := List.replicate 160 Cell.initial, marks := List.replicate 5 false, entries := List.replicate 3 none,
    strip := [], offset := 0, scrollAt := none }

/-- The composer after reset (R111, R113). -/
def Board.initial : Board :=
  { a := TextScreen.initial, b := TextScreen.initial, lineNotice := none, ownNotice := none, noticeFetch := none,
    build := none, render := none, lastRendered := .b, lastN := 0 }

/-- A screen channel after reset (R129). -/
def Scan.initial : Scan :=
  { scanning := false, latched := none, shown := [], fill := [], pos := .none, fetch := none, lastShown := none,
    urgent := false }

/-- The activity controller after reset, given the supply-low input (R135). -/
def Activity.initial (supplyLow : Bool) : Activity :=
  { mode := if supplyLow then .quiet else .active, deadline := none, floor := false, supplyLow := supplyLow }

/-- The announcer after reset, given the supply-low input (R142, R143). -/
def Announcer.initial (supplyLow : Bool) : Announcer :=
  { queue := [], current := none, fifo := [], level := 128, driven := 128, supplyLow := supplyLow, volume := 16, pacing := 0 }

/-- The line link after reset (R155, R158). -/
def Link.initial : Link :=
  { receiver := .disabled, state := .silent, lossAt := none, history := none, lastReply := none, pending := none,
    sending := none, chainPos := none, push := false }

/-- The memory path after reset (R174). -/
def Path.initial : Path :=
  { load := .clear, command := .clear, intake := List.replicate 16 .clear, sale := List.replicate 4 .clear, hold := 0,
    waiting := [], readData := 0 }

/-- The report unit after reset, given the flags then pending (R183). -/
def ReportUnit.initial (flags : Word) : ReportUnit :=
  { flags := flags, shown := none, mask := 0, enable := 0, counters := List.replicate 11 0, inWrite := 0, inRead := 0,
    entries := List.replicate 8 [0, 0, 0, 0], unshown := 0, written := List.replicate 64 none, extra := [],
    probe := false, command := .idle }

/-- The loader after reset (R192). -/
def Loader.initial : Loader :=
  { state := .unconfigured, stage := .idle, accs := [] }

/-- The issue unit after reset (R62). -/
def IssueUnit.initial : IssueUnit :=
  { records := List.replicate 4 .empty, fifo := [], stage := .idle, accs := [] }

/-- The halt clock's main-domain state after a reset, given what the prescaler goes on from (R29, R30, R39). -/
def HaltClock.initial (prescaler hold : Nat) : HaltClock :=
  { prescaler := prescaler, hold := hold, slew := 0, upSec := 0, upSub := 0, upCyc := 0, snapshot := none,
    early := none }

/-- The machine right after reset: a first power-on that finds the backup domain lost (R31, R183, R199; log 5), so that
RESET_SEEN (bit 0) and BACKUP_LOST (bit 1) are pending. -/
def State.reset : State :=
  { pending := [], free := 0, mem := [], power := { main := true, reset := false, supplyLow := false },
    bat := Battery.initial 0, clk := HaltClock.initial 0 0, cfg := none, table := [], dueCount := 0,
    intake := { fifo := [], stage := .idle }, issue := IssueUnit.initial, panel := Panel.initial, sel := Selection.initial,
    board := Board.initial, scrA := Scan.initial, scrB := Scan.initial, act := Activity.initial false,
    ann := Announcer.initial false, link := Link.initial, path := Path.initial, rep := ReportUnit.initial 3,
    loader := Loader.initial }

end Sys2Proof.Machine
end

