-- ==== Sys2Proof/Machine/Ops.lean ====
section
/-! DEFINITION. The named operations that the blocks share: updates of one block of the state, the memory, words and
texts, check words, the uptime, and the drawing of free values. -/

namespace Sys2Proof.Machine

/-! ### Updates of one block -/

/-- Update the block `bat`. -/
def State.modBat (s : State) (f : Battery → Battery) : State := { s with bat := f s.bat }

/-- Update the block `clk`. -/
def State.modClk (s : State) (f : HaltClock → HaltClock) : State := { s with clk := f s.clk }

/-- Update the block `intake`. -/
def State.modIntake (s : State) (f : Intake → Intake) : State := { s with intake := f s.intake }

/-- Update the block `issue`. -/
def State.modIssue (s : State) (f : IssueUnit → IssueUnit) : State := { s with issue := f s.issue }

/-- Update the block `panel`. -/
def State.modPanel (s : State) (f : Panel → Panel) : State := { s with panel := f s.panel }

/-- Update the block `sel`. -/
def State.modSel (s : State) (f : Selection → Selection) : State := { s with sel := f s.sel }

/-- Update the block `board`. -/
def State.modBoard (s : State) (f : Board → Board) : State := { s with board := f s.board }

/-- Update the block `scrA`. -/
def State.modScrA (s : State) (f : Scan → Scan) : State := { s with scrA := f s.scrA }

/-- Update the block `scrB`. -/
def State.modScrB (s : State) (f : Scan → Scan) : State := { s with scrB := f s.scrB }

/-- Update the block `act`. -/
def State.modAct (s : State) (f : Activity → Activity) : State := { s with act := f s.act }

/-- Update the block `ann`. -/
def State.modAnn (s : State) (f : Announcer → Announcer) : State := { s with ann := f s.ann }

/-- Update the block `link`. -/
def State.modLink (s : State) (f : Link → Link) : State := { s with link := f s.link }

/-- Update the block `path`. -/
def State.modPath (s : State) (f : Path → Path) : State := { s with path := f s.path }

/-- Update the block `rep`. -/
def State.modRep (s : State) (f : ReportUnit → ReportUnit) : State := { s with rep := f s.rep }

/-- Update the block `loader`. -/
def State.modLoader (s : State) (f : Loader → Loader) : State := { s with loader := f s.loader }

/-- Update the block `power`. -/
def State.modPower (s : State) (f : Power → Power) : State := { s with power := f s.power }

/-- Put a table in place. -/
def State.setTable (s : State) (t : List Entry) : State := { s with table := t }

/-- Put a DUE count in place. -/
def State.setDueCount (s : State) (n : Nat) : State := { s with dueCount := n }

/-- Put the active settings in place. -/
def State.setCfg (s : State) (c : Option Settings) : State := { s with cfg := c }

/-- One more free value has been drawn. -/
def State.drawn (s : State) : State := { s with free := s.free + 1 }

/-! ### Memory (00_scope, "Memory and words"; log 6) -/

/-- Read the byte cell `k`. -/
def Memory.readByte : List Host.Cell → Nat → Byte
  | [], _ => Config.unlistedByte
  | (a, b) :: rest, k => if a = k then b else Memory.readByte rest k

/-- Write the byte cell `k`, keeping the canonical form. -/
def Memory.writeByte : List Host.Cell → Nat → Byte → List Host.Cell
  | [], k, v => if v = Config.unlistedByte then [] else [(k, v)]
  | (a, b) :: rest, k, v =>
    if k < a then (if v = Config.unlistedByte then (a, b) :: rest else (k, v) :: (a, b) :: rest)
    else if k = a then (if v = Config.unlistedByte then rest else (k, v) :: rest)
    else (a, b) :: Memory.writeByte rest k v

/-- Every cell address is above `lo`, addresses rise strictly, and no cell holds the unlisted byte. -/
def Memory.wfAbove : Nat → List Host.Cell → Bool
  | _, [] => true
  | lo, (a, b) :: rest => decide (lo ≤ a) && decide (b ≠ Config.unlistedByte) && Memory.wfAbove (a + 1) rest

/-- The canonical form of memory. -/
def Memory.wf (m : List Host.Cell) : Bool := Memory.wfAbove 0 m

/-- Read the word at a word address: the high byte lane is cell `2a`, the low one `2a + 1`. -/
def Memory.readWord (m : List Host.Cell) (a : Nat) : Word :=
  Memory.readByte m (2 * a) ++ Memory.readByte m (2 * a + 1)

/-- The high byte of a word. -/
def hiByte (w : Word) : Byte := w.extractLsb' 8 8

/-- The low byte of a word. -/
def loByte (w : Word) : Byte := w.extractLsb' 0 8

/-- Write the lanes enabled of the word at a word address (R176). -/
def Memory.writeLanes (m : List Host.Cell) (a : Nat) (v : Word) : Lanes → List Host.Cell
  | .both => Memory.writeByte (Memory.writeByte m (2 * a) (hiByte v)) (2 * a + 1) (loByte v)
  | .high => Memory.writeByte m (2 * a) (hiByte v)
  | .low => Memory.writeByte m (2 * a + 1) (loByte v)

/-- Read a word of memory. -/
def State.peek (s : State) (a : Nat) : Word := Memory.readWord s.mem a

/-- Write a whole word of memory. -/
def State.poke (s : State) (a : Nat) (v : Word) : State := { s with mem := Memory.writeLanes s.mem a v .both }

/-- Write the enabled lanes of a word of memory. -/
def State.pokeLanes (s : State) (a : Nat) (v : Word) (l : Lanes) : State := { s with mem := Memory.writeLanes s.mem a v l }

/-- One word access an internal requester asks the port for (R181, R182). -/
inductive Access
  | read (addr : Nat)
  | write (addr : Nat) (value : Word)
deriving DecidableEq, Repr

/-- The next access of a list of waiting writes. -/
def nextWrite (accs : List Acc) : Option Access := accs.head?.map fun a => .write a.addr a.val

/-- What an access does to memory (R182). -/
def State.landed (s : State) : Access → State
  | .read _ => s
  | .write a v => s.poke a v

/-- The word an access reads; 0 for a write. -/
def State.fetched (s : State) : Access → Word
  | .read a => s.peek a
  | .write _ _ => 0

/-! ### Words, bytes and texts (R200) -/

/-- The more significant of the two words that hold a value. -/
def highWord (n : Nat) : Word := BitVec.ofNat 16 (n / 65536)

/-- The less significant of the two words that hold a value. -/
def lowWord (n : Nat) : Word := BitVec.ofNat 16 n

/-- The value two words hold, the more significant first. -/
def pairVal (hi lo : Word) : Nat := hi.toNat * 65536 + lo.toNat

/-- The 20-bit address two words hold: bits 19..16 in the low four bits of the first. -/
def pairAddr (hi lo : Word) : Nat := (hi.toNat % 16) * 65536 + lo.toNat

/-- Bits `lo .. lo + n - 1` of a word, as a number. -/
def bits (w : Word) (lo n : Nat) : Nat := (w.toNat >>> lo) % 2 ^ n

/-- The bytes of words, high byte first. -/
def wordBytes (ws : List Word) : List Byte := ws.flatMap fun w => [hiByte w, loByte w]

/-- The first `len` characters packed in words, high byte first. -/
def wordChars (ws : List Word) (len : Nat) : List Nat := ((wordBytes ws).take len).map BitVec.toNat

/-- A character as a cell record stores it: a code outside 32..127 becomes 63 (R111). -/
def cellChar (c : Nat) : Nat := if 32 ≤ c ∧ c ≤ 127 then c else 63

/-- Division rounded up. -/
def ceilDiv (a b : Nat) : Nat := (a + b - 1) / b

/-- Remove trailing spaces. -/
def trimEnd (t : List Nat) : List Nat := (t.reverse.dropWhile (· == 32)).reverse

/-- Pad with spaces, or cut, to `n` characters. -/
def padTo (n : Nat) (t : List Nat) : List Nat := (t ++ List.replicate n 32).take n

/-- Exactly `n` decimal digits of a number, as character codes. -/
def digits : Nat → Nat → List Nat
  | 0, _ => []
  | n + 1, v => digits n (v / 10) ++ [48 + v % 10]

/-- A number in decimal without leading zeros, a single 0 when it is 0. -/
def decimal (v : Nat) : List Nat :=
  match (digits 10 v).dropWhile (· == 48) with
  | [] => [48]
  | ds => ds

/-- The clock text "hh:mm" of a civil second (R112, R114). -/
def clockText (civil : Nat) : List Nat :=
  digits 2 (civil / 3600) ++ [58] ++ digits 2 (civil % 3600 / 60)

/-! ### Check words (00_scope, "Check words"; R200) -/

/-- One bit of the CRC-16 with generator 0x1021. -/
def crcBit (c : Nat) : Nat := if 32768 ≤ c then (2 * c % 65536) ^^^ 4129 else 2 * c

/-- One byte of the CRC, most significant bit first. -/
def crcByte (c b : Nat) : Nat :=
  crcBit (crcBit (crcBit (crcBit (crcBit (crcBit (crcBit (crcBit (c ^^^ (b * 256)))))))))

/-- The check word of bytes. -/
def crcBytes (bs : List Byte) : Word := BitVec.ofNat 16 (bs.foldl (fun c b => crcByte c b.toNat) 65535)

/-- The check word of words, each taken high byte first. -/
def crcWords (ws : List Word) : Word := crcBytes (wordBytes ws)

/-! ### Lists -/

/-- Put `x` before the first element that `lt` does not place before it. -/
def insertBy {α : Type} (lt : α → α → Bool) (x : α) : List α → List α
  | [] => [x]
  | y :: ys => if lt x y then x :: y :: ys else y :: insertBy lt x ys

/-- Sort by insertion; elements that tie keep their order. -/
def sortBy {α : Type} (lt : α → α → Bool) (l : List α) : List α := l.foldl (fun acc x => insertBy lt x acc) []

/-- Put `x` at place `n` of a list, at its end when it is shorter. -/
def insertAt {α : Type} (n : Nat) (x : α) : List α → List α
  | [] => [x]
  | y :: ys =>
    match n with
    | 0 => x :: y :: ys
    | m + 1 => y :: insertAt m x ys

/-! ### Free values -/

/-- Lay a list out in an order drawn from free values, one draw an element (log 3). -/
def shuffle {α : Type} (n : Nat) : List α → List α
  | [] => []
  | x :: xs => insertAt (Config.freePlace n % (xs.length + 1)) x (shuffle (n + 1) xs)

/-! ### Uptime (R29) -/

/-- The uptime in whole seconds. -/
def State.nowSec (s : State) : Nat := s.clk.upSec

/-- The uptime in sub-ticks of 1/1024 second. -/
def State.nowSub (s : State) : Nat := s.clk.upSec * 1024 + s.clk.upSub

/-- A deadline in uptime seconds has been set and reached (R29). -/
def State.reached (s : State) (d : Option Nat) : Bool :=
  match d with
  | some t => decide (t ≤ s.nowSec)
  | none => false

/-- The sub-ticks after which a period in milliseconds is reached: elapsed · 1000 ≥ period · 1024 (R125, R162). -/
def subTicksOf (ms : Nat) : Nat := ceilDiv (ms * 1024) 1000

/-! ### Stages of an acceptance (R197, R198) -/

/-- A reload is finishing the slots at their old place (R198). -/
def LoaderStage.finishing : LoaderStage → Bool
  | .reloadFinish _ => true
  | _ => false

/-- The issue unit takes no slot from its FIFO: a reload's acceptance has begun (R198). -/
def LoaderStage.stopsIssue : LoaderStage → Bool
  | .reloadTicket _ _ => true
  | .reloadFinish _ => true
  | _ => false

/-- A reload waits for a ticket (R198, stage 1). -/
def LoaderStage.ticketWait (g : LoaderStage) : Bool := g.stopsIssue && !g.finishing

/-- An intake slot has been posted: a reload that waits for a ticket notes it (R175). -/
def LoaderStage.noteSlot (slot : Nat) : LoaderStage → LoaderStage
  | .reloadTicket next late => .reloadTicket next (late ++ [slot])
  | g => g

/-- An intake slot waits for a reload's stage 2: it was posted during stage 1 (R175, R198). -/
def LoaderStage.holds (slot : Nat) : LoaderStage → Bool
  | .reloadTicket _ late => late.contains slot
  | _ => false

/-- The jobs that a first acceptance starts have not been started yet (R197). -/
def LoaderStage.starting : LoaderStage → Bool
  | .scanning _ => true
  | _ => false

end Sys2Proof.Machine
end

