-- ==== Sys2Proof/Machine/Flags.lean ====
section
/-! DEFINITION. The report unit's flags and counters, the attention line, and the input queue's events
(chapter 10: R183 to R189). -/

namespace Sys2Proof.Machine

/-- The 16 report flags in the order of their bits (R203). -/
inductive Flag
  | resetSeen
  | backupLost
  | config
  | intake
  | sale
  | command
  | input
  | inputLost
  | link
  | forward
  | journalLow
  | writeDropped
  | underrun
  | panelFault
  | clock
  | tableLost
deriving DecidableEq, Repr

/-- The bit of a flag in the pending, mask and clear words (R203). -/
def Flag.bit : Flag → Nat
  | .resetSeen => 0
  | .backupLost => 1
  | .config => 2
  | .intake => 3
  | .sale => 4
  | .command => 5
  | .input => 6
  | .inputLost => 7
  | .link => 8
  | .forward => 9
  | .journalLow => 10
  | .writeDropped => 11
  | .underrun => 12
  | .panelFault => 13
  | .clock => 14
  | .tableLost => 15

/-- The word with only a flag's bit set. -/
def Flag.word (f : Flag) : Word := (1 : Word) <<< f.bit

/-- Raise a flag: set it pending whatever the mask and the enable (R184). -/
def State.raise (s : State) (f : Flag) : State := s.modRep fun r => { r with flags := r.flags ||| f.word }

/-- A flag is pending. -/
def State.flagged (s : State) (f : Flag) : Bool := s.rep.flags &&& f.word != 0

/-- The 11 report block counters in the order of the counter table (R186). -/
inductive Counter
  | tableLoss
  | panelFault
  | screenUnderrun
  | audioUnderrun
  | annDrop
  | inputLost
  | frameError
  | foreignFrame
  | duplicateFrame
  | busyWrite
  | protectedWrite
deriving DecidableEq, Repr

/-- The place of a counter in the counter table (R186, R203). -/
def Counter.index : Counter → Nat
  | .tableLoss => 0
  | .panelFault => 1
  | .screenUnderrun => 2
  | .audioUnderrun => 3
  | .annDrop => 4
  | .inputLost => 5
  | .frameError => 6
  | .foreignFrame => 7
  | .duplicateFrame => 8
  | .busyWrite => 9
  | .protectedWrite => 10

/-- Increase a counter, holding at 65535 (R186). -/
def State.count (s : State) (c : Counter) (n : Nat) : State :=
  s.modRep fun r => { r with counters := r.counters.set c.index (min 65535 (r.counters.getD c.index 0 + n)) }

/-- The value of a counter. -/
def State.counter (s : State) (c : Counter) : Nat := s.rep.counters.getD c.index 0

/-- The attention line: the enable is on and some flag is unmasked, pending and shown (R185). -/
def State.attention (s : State) : Bool :=
  match s.rep.shown with
  | none => false
  | some w => s.rep.enable != 0 && (s.rep.flags &&& s.rep.mask &&& w) != 0

/-- The number of input events outstanding (R189). -/
def State.outstanding (s : State) : Nat := (s.rep.inWrite + 16 - s.rep.inRead) % 16

/-- Kinds of input event (R110, R206). -/
inductive InputKind
  | select
  | unselect
  | timeout
  | left
deriving DecidableEq, Repr

/-- The code of an input kind (R206). -/
def InputKind.code : InputKind → Nat
  | .select => 1
  | .unselect => 2
  | .timeout => 3
  | .left => 4

/-- The code of a product (R206). -/
def Product.code : Product → Nat
  | .single => 1
  | .ret => 2
  | .day => 3

/-- The four words of an input entry (R203). -/
def inputEntry (k : InputKind) (dest : Option Nat) (p : Product) (fare uptime : Nat) : List Word :=
  [BitVec.ofNat 16 (k.code * 256 + dest.getD 255),
   BitVec.ofNat 16 (p.code * 256 + fare / 65536 % 256),
   lowWord fare,
   BitVec.ofNat 16 uptime]

/-- Take an input event: place it in the entry at the write index, or drop it with INPUT_LOST when 8 are outstanding (R189). -/
def State.pushInput (s : State) (k : InputKind) (dest : Option Nat) (p : Product) (fare : Nat) : State :=
  if s.outstanding < 8 then
    s.modRep fun r =>
      { r with entries := r.entries.set (r.inWrite % 8) (inputEntry k dest p fare s.nowSec)
               inWrite := (r.inWrite + 1) % 16, unshown := r.unshown + 1 }
  else (s.count .inputLost 1).raise .inputLost

/-- The code of a mode (R206). -/
def Mode.code : Mode → Nat
  | .active => 0
  | .quiet => 1
  | .dormant => 2

/-- The code of a link state (R206). -/
def LinkState.code : LinkState → Nat
  | .silent => 0
  | .up => 1
  | .lost => 2

/-- The code of a clock state (R206). -/
def ClockState.code : ClockState → Nat
  | .unset => 0
  | .set => 1

/-- Channel 7 is WET (R86, R94). -/
def State.wet (s : State) : Bool :=
  match s.panel.chans[7]? with
  | some c => c.state == .active
  | none => false

/-- Free journal entries: J − (write − confirm) mod 2J; 0 while there is no geometry (R80). -/
def Battery.unconfirmed (b : Battery) : Nat :=
  match b.geometry with
  | some g => (b.write + 2 * g.size - b.confirm) % (2 * g.size)
  | none => 0

/-- Free journal entries (R80). -/
def Battery.freeEntries (b : Battery) : Nat :=
  match b.geometry with
  | some g => g.size - b.unconfirmed
  | none => 0

/-- Bits 5..0 of the first summary word: mode, supply-low, link state, clock state (R187, R203). -/
def State.summaryLow (s : State) : Nat :=
  s.act.mode.code + (if s.act.supplyLow then 4 else 0) + 8 * s.link.state.code + 32 * s.bat.clock.code

/-- The first summary word (R187, R203). -/
def State.summary0 (s : State) : Word :=
  BitVec.ofNat 16 (s.summaryLow + (if s.wet then 64 else 0) + 256 * s.table.length)

/-- The second summary word: the free journal entries (R187). -/
def State.summary1 (s : State) : Word := BitVec.ofNat 16 s.bat.freeEntries

end Sys2Proof.Machine
end

