-- ==== Sys2Proof/Machine/Operands.lean ====
section
/-! DEFINITION. Code values and the forms of operands: update images, sale requests, and the site descriptor with its
validation (chapters 11 and 12: R192, R194, R200 to R206). -/

namespace Sys2Proof.Machine

/-! ### Code values (R206) -/

namespace Code
def load : Word := 0x4C01
def submit : Word := 0x5301
def busy : Word := 0x0001
def loading : Word := 0x0002
def done : Word := 0x0010
def refused : Word := 0x0011
def accepted : Word := 0x0012
def rejected : Word := 0x0013
def quoted : Word := 0x0020
def issued : Word := 0x0021
def expired : Word := 0x0022
def empty : Word := 0x0023
/-- "None" in a reason word or load result (R200). -/
def noReason : Word := 0x00
/-- "None" in an entry word or report word (R200). -/
def noEntry : Word := 0xFFFF
def added : Word := 0x01
def replaced : Word := 0x02
def applied : Word := 0x03
def duplicate : Word := 0x04
def staleVersion : Word := 0x05
def notFound : Word := 0x06
def tooLate : Word := 0x07
def alreadyCancelled : Word := 0x08
def badField : Word := 0x10
def wrongDay : Word := 0x11
def tableFull : Word := 0x12
def clockUnset : Word := 0x20
def noPassenger : Word := 0x21
def tooMany : Word := 0x22
def sameStop : Word := 0x23
def noService : Word := 0x24
def trainNotSellable : Word := 0x25
def journalFull : Word := 0x26
def totalFull : Word := 0x27
def notQuoted : Word := 0x28
def departureGone : Word := 0x29
def authority : Word := 0x30
def queueFull : Word := 0x31
def notHanded : Word := 0x32
def noRecords : Word := 0x33
def reconfigured : Word := 0x3E
def restart : Word := 0x3F
def badFormat : Word := 0x40
def badLength : Word := 0x41
def badCheck : Word := 0x42
def badWindow : Word := 0x43
def badValue : Word := 0x44
def journalBusy : Word := 0x45
/-- Journal states (R206). -/
def unsent : Word := 1
def sent : Word := 2
def confirmed : Word := 3
/-- ACK status (R206). -/
def ackOk : Word := 0
def ackNoBuffer : Word := 1
def ackBadFrame : Word := 2
end Code

/-- The request code of a sale post word (R206). -/
def saleWord : SaleCode → Word
  | .quote => 0x5101
  | .issue => 0x5102
  | .release => 0x5103

/-- The sale request a word is the code of. -/
def saleOfWord (w : Word) : Option SaleCode :=
  if w = saleWord .quote then some .quote
  else if w = saleWord .issue then some .issue
  else if w = saleWord .release then some .release
  else none

/-- The code of a command (R206). -/
def commandWord : CommandCode → Word
  | .setClock => 0x4301
  | .calibrate => 0x4302
  | .reseed => 0x4303
  | .play => 0x4304
  | .localNotice => 0x4305
  | .selectionDone => 0x4306
  | .journalPush => 0x4307

/-- The command a word is the code of. -/
def commandOfWord (w : Word) : Option CommandCode :=
  [CommandCode.setClock, .calibrate, .reseed, .play, .localNotice, .selectionDone, .journalPush].find?
    fun c => commandWord c = w

/-- The product a code names (R206). -/
def productOf (n : Nat) : Option Product :=
  if n = 1 then some .single else if n = 2 then some .ret else if n = 3 then some .day else none

/-- The code of a source (R206). -/
def sourceCode : Source → Nat
  | .line => 0
  | .loc => 1

/-- The code of a phase (R206). -/
def Phase.code : Phase → Nat
  | .waiting => 0
  | .due => 1
  | .departed => 2
  | .cancelled => 3

/-- The code of a timeliness (R206). -/
def Timeliness.code : Timeliness → Nat
  | .noReport => 0
  | .onTime => 1
  | .late => 2
  | .stale => 3

/-! ### Frames on the line (R156, R204) -/

/-- The bytes a frame's check word covers: KIND through the last payload byte (R156). -/
def Frame.body (f : Frame) : List Byte :=
  [f.kind, BitVec.ofNat 8 f.seq, f.halt, BitVec.ofNat 8 f.payload.length] ++ wordBytes f.payload

/-- The check word of a frame (R156). -/
def Frame.check (f : Frame) : Word := crcBytes f.body

/-- All the bytes of a frame, from START to the check word (R156). -/
def Frame.bytes (f : Frame) : List Byte := [0xC5] ++ f.body ++ wordBytes [f.check]

/-- The halt reply kinds ACK, STATUS, JOURNAL, IDLE (R157, R204). -/
def isReplyKind (k : Byte) : Bool := k == 0x81 || k == 0x82 || k == 0x83 || k == 0x84

/-- The seven inbound kinds (R204). -/
def isInboundKind (k : Byte) : Bool := decide (1 ≤ k.toNat) && decide (k.toNat ≤ 7)

/-! ### Update images (R203) -/

/-- The six update kinds (R206). -/
inductive UpdateKind
  | record
  | delete
  | cancel
  | reinstate
  | report
  | departed
deriving DecidableEq, Repr

/-- The update kind of an image's word 0, or none for an unknown code (R11, R206). -/
def imageKind (im : List Word) : Option UpdateKind :=
  match bits (im.getD 0 0) 8 8 with
  | 1 => some .record
  | 2 => some .delete
  | 3 => some .cancel
  | 4 => some .reinstate
  | 5 => some .report
  | 6 => some .departed
  | _ => none

/-- The fields of an image, as its words give them (R203). -/
structure Image where
  tag : Nat
  train : Nat
  sched : Nat
  direction : Nat
  noSale : Bool
  recovery : Nat
  version : Nat
  dest : Nat
  nCalling : Nat
  calling : List Nat
  delay : Int
  final : Bool
  point : Nat
  reason : Nat
deriving DecidableEq, Repr

/-- Read the fields of an image (R203). Of the two calling stops in a word the earlier is the high byte, the model's choice (log 82). -/
def readImage (im : List Word) : Image :=
  let w := fun i => im.getD i 0
  { tag := bits (w 0) 0 8, train := (w 1).toNat, sched := pairVal (w 2) (w 3), direction := bits (w 4) 14 2,
    noSale := bits (w 4) 13 1 == 1, recovery := bits (w 4) 8 4, version := bits (w 4) 0 8, dest := bits (w 5) 8 8,
    nCalling := bits (w 5) 0 8, calling := (wordBytes [w 6, w 7, w 8]).map BitVec.toNat |>.take (bits (w 5) 0 8),
    delay := (w 2).toInt, final := bits (w 3) 15 1 == 1, point := bits (w 3) 0 8, reason := (w 2).toNat }

/-- The identity an image names (R1). -/
def Image.who (im : Image) : TrainId := ⟨im.train, im.tag⟩

/-- A stop code is marked present in the active stop table (R11, R202). -/
def Settings.present (c : Settings) (code : Nat) : Bool :=
  match c.stops[code]? with
  | some st => st.present
  | none => false

/-- The zone the stop table gives a code (R66). -/
def Settings.zoneOf (c : Settings) (code : Nat) : Nat :=
  match c.stops[code]? with
  | some st => st.zone
  | none => 0

/-- No element stands twice. -/
def noRepeats : List Nat → Bool
  | [] => true
  | x :: xs => !xs.contains x && noRepeats xs

/-- The checks of R11 that need no table. -/
def imageFieldsOk (c : Settings) (k : UpdateKind) (im : Image) : Bool :=
  decide (1 ≤ im.train) && decide (im.tag ≤ 3) &&
  match k with
  | .record =>
    decide (im.direction ≤ 1) && decide (im.sched ≤ 86399) && decide (im.nCalling ≤ 6) &&
    c.present im.dest && im.dest != c.fare.halt &&
    im.calling.all (fun s => c.present s && s != c.fare.halt) &&
    noRepeats im.calling && !im.calling.contains im.dest
  | .cancel => decide (im.reason ≤ 15)
  | .report => true
  | .delete => true
  | .reinstate => true
  | .departed => true

/-! ### The site descriptor (R201, R202) -/

/-- Word `i` of a descriptor, of which the words from 1 on have been fetched. -/
def dword (d : List Word) (i : Nat) : Word := if i = 0 then 0 else d.getD (i - 1) 0

/-- Word `i` of a descriptor as a number. -/
def dnat (d : List Word) (i : Nat) : Nat := (dword d i).toNat

/-- The value in words `i` and `i + 1`. -/
def dpair (d : List Word) (i : Nat) : Nat := pairVal (dword d i) (dword d (i + 1))

/-- The address in words `i` and `i + 1`. -/
def daddr (d : List Word) (i : Nat) : Nat := pairAddr (dword d i) (dword d (i + 1))

/-- `n` words from word `i` on. -/
def dslice (d : List Word) (i n : Nat) : List Word := (List.range n).map fun k => dword d (i + k)

/-- The windows of a descriptor; a base is given as its address divided by 256 (R201). -/
def readWindows (d : List Word) : Windows :=
  { intake := 256 * dnat d 4, sale := 256 * dnat d 5, report := 256 * dnat d 6, journal := 256 * dnat d 7, jsize := dnat d 8,
    frameA := daddr d 9, strideA := dnat d 11, frameB := daddr d 12, strideB := dnat d 14 }

/-- The four levels of a palette word (R201). -/
def readPalette (w : Word) : List Nat := [bits w 12 4, bits w 8 4, bits w 4 4, bits w 0 4]

/-- The colours of two colour words (R201). -/
def readColours (w v : Word) : Colours :=
  { rows := [(bits w 14 2, bits w 12 2), (bits w 10 2, bits w 8 2), (bits w 6 2, bits w 4 2), (bits w 2 2, bits w 0 2),
             (bits v 14 2, bits v 12 2)],
    alert := bits v 10 2 }

/-- A direction filter (R206); an unlisted code is refused before this is used. -/
def readFilter (n : Nat) : Filter := if n = 0 then .up else if n = 1 then .down else .both

/-- The word after the stop table, which holds the clip count (R201). -/
def clipCountAt (stops : Nat) : Nat := 217 + 9 * stops

/-- The currency prefix of up to four characters: it ends before the first character code 0 (R120, R201; log 40). -/
def prefixText (ws : List Word) : List Nat := (wordChars ws 4).takeWhile (· != 0)

/-- The settings of a descriptor (R195, R201). -/
def readSettings (d : List Word) : Settings :=
  { len := dnat d 2, win := readWindows d, glyph := daddr d 15, chain := daddr d 17,
    proj := { hour := dnat d 19, late := dnat d 20, window := dnat d 21, grace := dnat d 22, stale := dnat d 23,
              step := dnat d 24, retention := dnat d 25, abandon := dnat d 26 },
    fare := { fares := (dslice d 27 16).map BitVec.toNat, halt := bits (dword d 43) 8 8, zone := bits (dword d 43) 0 8,
              retFactor := dnat d 44, dayFactor := dnat d 45, offStart := dpair d 46, offEnd := dpair d 48, offPct := dnat d 50,
              concPct := dnat d 51, childPct := dnat d 52, unit := dnat d 53, cap := dnat d 54, saleClose := dnat d 55,
              grace := dnat d 56, quoteLife := dnat d 57 },
    scr := { filterA := readFilter (dnat d 58), filterB := readFilter (dnat d 59), platUp := dnat d 60, platDown := dnat d 61,
             countdown := dnat d 62, palA := readPalette (dword d 63), palB := readPalette (dword d 64),
             colA := readColours (dword d 65) (dword d 66), colB := readColours (dword d 67) (dword d 68),
             fracQuiet := bits (dword d 69) 8 8, fracDormant := bits (dword d 69) 0 8, scrollStep := dnat d 70,
             scrollPeriod := dnat d 71 },
    money := { lead := prefixText (dslice d 72 2), sep := bits (dword d 74) 8 8, places := bits (dword d 74) 0 8 },
    panel := { target := dnat d 146, filter := dnat d 147, shiftActive := dnat d 148, shiftQuiet := dnat d 149,
               prox := dnat d 150, touch := dnat d 151, wet := dnat d 152, debounce := dnat d 153, stuck := dnat d 154,
               tap := dnat d 155, swipe := dnat d 156, distance := dnat d 157, leave := dnat d 158, handed := dnat d 159 },
    times := { quiet := dnat d 160, dormant := dnat d 161 },
    ann := { volActive := dnat d 162, volQuiet := dnat d 163, volDormant := dnat d 164, platform := dnat d 165,
             hour := dnat d 166, minute := dnat d 167, delay := dnat d 168, reason := dnat d 169 },
    link := { baud := dnat d 197, gap := dnat d 198, turnaround := dnat d 199, loss := dnat d 200, haltId := dnat d 201,
              authority := dword d 202 != 0 },
    stops := (List.range (dnat d 216)).map fun k =>
      { present := bits (dword d (217 + 9 * k)) 15 1 == 1, zone := bits (dword d (217 + 9 * k)) 8 4 },
    clips := dnat d (clipCountAt (dnat d 216)) }

/-- A stretch of memory: its first word and its length. -/
abbrev Region := Nat × Nat

/-- The last word of a frame window is frame base + 79·stride + 31 (R175). -/
def frameRegion (base stride : Nat) : Region := (base, 79 * stride + 32)

/-- The windows of a descriptor as the memory path measures them (R175, R194). -/
def Windows.regions (w : Windows) : List Region :=
  [(w.intake, 256), (w.sale, 64), (w.report, 64), (w.journal, 16 + 14 * w.jsize), frameRegion w.frameA w.strideA,
   frameRegion w.frameB w.strideB]

/-- The load area (R177, R194). -/
def loadRegion : Region := (Config.loadWord, 2048)

/-- A region lies within the address space. -/
def regionFits (r : Region) : Bool := decide (r.1 + r.2 ≤ Config.maxAddr + 1)

/-- Two regions share no word. -/
def regionsApart (r t : Region) : Bool := decide (r.1 + r.2 ≤ t.1) || decide (t.1 + t.2 ≤ r.1)

/-- The regions of a list are apart, each from each. -/
def allApart : List Region → Bool
  | [] => true
  | r :: rs => rs.all (regionsApart r) && allApart rs

/-- The window test of R194. -/
def windowsOk (w : Windows) : Bool := w.regions.all regionFits && allApart (loadRegion :: w.regions)

/-- `lo ≤ n ≤ hi`. -/
def within (lo n hi : Nat) : Bool := decide (lo ≤ n) && decide (n ≤ hi)

/-- A template: a count of 0..8 items, each counted one of a listed kind; the words past the count are not tested (R201, R202;
log 77). -/
def templateOk (d : List Word) (at_ : Nat) : Bool :=
  decide (dnat d at_ ≤ 8) && (dslice d (at_ + 1) (dnat d at_)).all fun w => decide (bits w 8 8 ≤ 6)

/-- The value test of R194: every setting lies in the range its chapter gives it, and the tables fit (R202). -/
def valuesOk (d : List Word) : Bool :=
  let c := readSettings d
  let len := dnat d 2
  within 16 c.win.jsize 4096 && within 32 c.win.strideA 512 && within 32 c.win.strideB 512 &&
  decide (c.glyph + 767 ≤ Config.maxAddr) && within 1 c.chain 0xFFFF8 &&
  within 0 c.proj.hour 6 && within 1 c.proj.late 10 && within 0 c.proj.window 300 && within 0 c.proj.grace 600 &&
  within 60 c.proj.stale 1800 && within 1 c.proj.step 30 && within 0 c.proj.retention 1800 &&
  within 600 c.proj.abandon 21600 &&
  decide (c.fare.zone ≤ 15) && within 16 c.fare.retFactor 48 && within 16 c.fare.dayFactor 96 &&
  decide (c.fare.offStart ≤ 86400) && decide (c.fare.offEnd ≤ 86400) && decide (c.fare.offStart ≤ c.fare.offEnd) &&
  decide (c.fare.offPct ≤ 100) && decide (c.fare.concPct ≤ 100) && decide (c.fare.childPct ≤ 100) &&
  [1, 5, 10, 50].contains c.fare.unit && decide (c.fare.cap ≤ 9) && decide (c.fare.saleClose ≤ 600) &&
  decide (c.fare.grace ≤ 7200) && within 30 c.fare.quoteLife 600 &&
  decide (dnat d 58 ≤ 2) && decide (dnat d 59 ≤ 2) && decide (c.scr.platUp ≤ 15) && decide (c.scr.platDown ≤ 15) &&
  decide (c.scr.countdown ≤ 30) && decide (c.scr.fracQuiet ≤ 16) && decide (c.scr.fracDormant ≤ 16) &&
  within 1 c.scr.scrollStep 8 && within 50 c.scr.scrollPeriod 1000 && decide (c.money.places ≤ 3) &&
  within 256 c.panel.target 3000 && decide (c.panel.filter ≤ 4) && within 6 c.panel.shiftActive 10 &&
  within 5 c.panel.shiftQuiet 9 && within 2 c.panel.prox 255 && within 2 c.panel.touch 255 && within 2 c.panel.wet 255 &&
  within 1 c.panel.debounce 4 && within 5 c.panel.stuck 255 && within 100 c.panel.tap 1000 &&
  within 100 c.panel.swipe 1000 && within 16 c.panel.distance 255 && within 5 c.panel.leave 60 &&
  within 30 c.panel.handed 600 &&
  within 5 c.times.quiet 600 && within 5 c.times.dormant 600 &&
  decide (c.ann.volActive ≤ 16) && decide (c.ann.volQuiet ≤ 16) && decide (c.ann.volDormant ≤ 16) &&
  decide (c.ann.platform ≤ 127) && decide (c.ann.hour ≤ 127) && decide (c.ann.minute ≤ 127) &&
  decide (c.ann.delay ≤ 127) && decide (c.ann.reason ≤ 127) &&
  templateOk d 170 && templateOk d 179 && templateOk d 188 &&
  decide (c.link.baud ≤ 4) && within 2 c.link.gap 100 && within 2 c.link.turnaround 50 && within 10 c.link.loss 600 &&
  within 1 c.link.haltId 254 &&
  within 1 (dnat d 216) 64 && decide (c.clips ≤ 128) &&
  decide (clipCountAt (dnat d 216) + 3 * c.clips < len - 1) &&
  c.present c.fare.halt

/-- The check word test of R192 and R194: computed over words 1 to length − 2 with word 3 taken as 0. -/
def checkOk (d : List Word) : Bool :=
  let len := dnat d 2
  crcWords ((d.take (len - 2)).set 2 0) == dword d (len - 1)

/-- The journal geometry a descriptor gives (R84). -/
def Settings.geometry (c : Settings) : Geometry := ⟨c.win.journal, c.win.jsize⟩

/-- The journal test of R194: a geometry change while unconfirmed records are held. -/
def journalFails (b : Battery) (c : Settings) : Bool :=
  match b.geometry with
  | none => false
  | some g => g != c.geometry && decide (0 < b.unconfirmed)

/-- The tests of R194 that look at the fetched words alone, in order; the first that fails gives the reason. -/
def descriptorFault (d : List Word) : Option Word :=
  if dnat d 1 ≠ 1 then some Code.badFormat
  else if ¬ (256 ≤ dnat d 2 ∧ dnat d 2 ≤ 2048) then some Code.badLength
  else if ¬ checkOk d then some Code.badCheck
  else if ¬ windowsOk (readWindows d) then some Code.badWindow
  else if ¬ valuesOk d then some Code.badValue
  else none

/-! ### Places of the memory-read items in the descriptor area (R195, R201) -/

/-- Address of descriptor word `i`. -/
def descAddr (i : Nat) : Nat := Config.loadWord + i

/-- The station name. -/
def stationNameAt : Nat := descAddr 203

/-- The name of a stop. -/
def stopNameAt (code : Nat) : Nat := descAddr (218 + 9 * code)

/-- The first word of a stop entry, whose bits 6..0 are the stop's clip number. -/
def stopEntryAt (code : Nat) : Nat := descAddr (217 + 9 * code)

/-- The entry of a clip. -/
def Settings.clipEntryAt (c : Settings) (clip : Nat) : Nat := descAddr (clipCountAt c.stops.length + 1 + 3 * clip)

/-- The twelve status texts in the order of the table of R115. -/
inductive TextName
  | cancelled
  | delayed
  | due
  | onTime
  | expected
  | minutes
  | to
  | noTrains
  | single
  | ret
  | day
  | callingAt
deriving DecidableEq, Repr

/-- A status text's place in the descriptor and its field length in characters (R115, R201). -/
def TextName.field : TextName → Nat × Nat
  | .cancelled => (75, 9)
  | .delayed => (80, 9)
  | .due => (85, 9)
  | .onTime => (90, 9)
  | .expected => (95, 3)
  | .minutes => (97, 6)
  | .to => (100, 8)
  | .noTrains => (104, 32)
  | .single => (120, 12)
  | .ret => (126, 12)
  | .day => (132, 12)
  | .callingAt => (138, 16)

/-- The text as a piece of a row to be fetched. -/
def TextName.piece (t : TextName) (trim : Bool) : Piece := .fetch (descAddr t.field.1) t.field.2 trim

/-! ### Windows of the active descriptor (R174, R175) -/

/-- The window map: the windows of the active descriptor, none before the first acceptance and, as no word is watched then,
while the host reset input is asserted (R174, R199). -/
def State.map? (s : State) : Option Windows :=
  if s.power.reset then none else s.cfg.map Settings.win

/-- Word `o` of an intake slot (R203). -/
def Windows.intakeWord (w : Windows) (slot o : Nat) : Nat := w.intake + 16 * slot + o

/-- Word `o` of a sale slot (R203). -/
def Windows.saleWord (w : Windows) (slot o : Nat) : Nat := w.sale + 16 * slot + o

/-- Word `o` of the report block (R203). -/
def Windows.reportWord (w : Windows) (o : Nat) : Nat := w.report + o

/-- Word `o` of the journal entry of index `i` (R79). -/
def Geometry.entryWord (g : Geometry) (i o : Nat) : Nat := g.base + 16 + 14 * (i % g.size) + o

end Sys2Proof.Machine
end

