-- ==== Sys2Proof/Machine/Board.lean ====
section
/-! DEFINITION. The composer's cache: rebuild marks, cell records, the notice strip and its scroll
(chapter 6: R111, R118, R123 to R125). -/

namespace Sys2Proof.Machine

/-- The text side of a screen. -/
def Board.text (b : Board) : Screen → TextScreen
  | .a => b.a
  | .b => b.b

/-- Update the text side of a screen. -/
def Board.modText (b : Board) (scr : Screen) (f : TextScreen → TextScreen) : Board :=
  match scr with
  | .a => { b with a := f b.a }
  | .b => { b with b := f b.b }

/-- Set the rebuild marks of rows. -/
def TextScreen.mark (t : TextScreen) (rows : List Nat) : TextScreen :=
  { t with marks := rows.foldl (fun ms r => ms.set r true) t.marks }

/-- Mark rows of a screen for rebuilding; the composer takes no mark before the first acceptance (R111, R123). -/
def State.markRows (s : State) (scr : Screen) (rows : List Nat) : State :=
  if s.cfg.isSome then s.modBoard fun b => b.modText scr (·.mark rows) else s

/-- Mark rows of both screens for rebuilding. -/
def State.markBoth (s : State) (rows : List Nat) : State := (s.markRows .a rows).markRows .b rows

/-- Rows 1..4 of both screens, for a change that can alter the shown departures (R123). -/
def State.markDepartures (s : State) : State := s.markBoth [1, 2, 3, 4]

/-- Row 4 of both screens, for a change of a notice (R121). -/
def State.markNotices (s : State) : State := s.markBoth [4]

/-- Whether a strip text is long enough to scroll (R125). -/
def scrolls (strip : List Nat) : Bool := decide (32 < strip.length)

/-- The length of a scrolling strip in pixel columns (R125). -/
def stripLength (strip : List Nat) : Nat := 8 * (strip.length + 8)

/-- Strip character `i`: a character of the text, or a space of the gap (R125). -/
def stripChar (strip : List Nat) (i : Nat) : Nat := cellChar (strip.getD i 32)

/-- Character, next character and shift of cell `c` of row 4 for a strip at an offset (R119, R125). -/
def stripCell (strip : List Nat) (offset c : Nat) : Nat × Nat × Nat :=
  if scrolls strip then
    let col := (8 * c + offset) % stripLength strip
    (stripChar strip (col / 8), stripChar strip ((col / 8 + 1) % (strip.length + 8)), col % 8)
  else (stripChar strip c, 32, 0)

/-- The 32 (character, next character, shift) triples of row 4. -/
def stripRow (strip : List Nat) (offset : Nat) : List (Nat × Nat × Nat) :=
  (List.range 32).map (stripCell strip offset)

/-- Put a cell record in place of a triple, keeping its colours and marking it dirty. -/
def Cell.retext (c : Cell) (t : Nat × Nat × Nat) : Cell :=
  { c with char := some t.1, next := t.2.1, shift := t.2.2, dirty := true }

/-- Change the scroll offset: every cell of row 4 is recomputed and marked dirty, without a build (R125). -/
def TextScreen.scrollTo (t : TextScreen) (offset : Nat) : TextScreen :=
  { t with
    offset := offset
    cells := t.cells.take 128 ++ (t.cells.drop 128).zipWith Cell.retext (stripRow t.strip offset) }

/-- On entering DORMANT the offset becomes 0 and the deadline none (R125). -/
def TextScreen.stopScroll (t : TextScreen) : TextScreen :=
  { (if scrolls t.strip && t.offset != 0 then t.scrollTo 0 else t) with scrollAt := none }

/-- A scroll deadline one period ahead, for a strip that scrolls (R125). -/
def TextScreen.startScroll (t : TextScreen) (now period : Nat) : TextScreen :=
  if scrolls t.strip then { t with scrollAt := some (now + subTicksOf period) } else t

/-- The scroll period of the active settings (R125). -/
def State.scrollPeriod (s : State) : Nat :=
  match s.cfg with
  | some c => c.scr.scrollPeriod
  | none => 100

/-- The composer takes a mode change (R125, R140). -/
def State.boardMode (s : State) (old new : Mode) : State :=
  match new with
  | .dormant => s.modBoard fun b => { b with a := b.a.stopScroll, b := b.b.stopScroll }
  | .active | .quiet =>
    if old = .dormant then
      s.modBoard fun b =>
        { b with a := b.a.startScroll s.nowSub s.scrollPeriod, b := b.b.startScroll s.nowSub s.scrollPeriod }
    else s

end Sys2Proof.Machine
end

