-- ==== Sys2Proof/Machine/Activity.lean ====
section
/-! DEFINITION. The activity controller (chapter 7: R135 to R141). -/

namespace Sys2Proof.Machine

/-- The announcer's volume in a mode; 16 before the first acceptance (R142, R149). -/
def volumeOf (cfg : Option Settings) (m : Mode) : Nat :=
  match cfg with
  | none => 16
  | some c =>
    match m with
    | .active => c.ann.volActive
    | .quiet => c.ann.volQuiet
    | .dormant => c.ann.volDormant

/-- The mode's ceiling: QUIET while supply-low is asserted, ACTIVE otherwise (R136, R139). -/
def Activity.ceiling (a : Activity) : Mode := if a.supplyLow then .quiet else .active

/-- The dormant step time ahead of now, in uptime seconds (R135). -/
def State.dormantAhead (s : State) : Option Nat := s.cfg.map fun c => s.nowSec + c.times.dormant

/-- The step time of a mode ahead of now: quiet step time in ACTIVE, dormant step time in QUIET (R136). -/
def State.stepAhead (s : State) (m : Mode) : Option Nat :=
  match m with
  | .active => s.cfg.map fun c => s.nowSec + c.times.quiet
  | .quiet => s.dormantAhead
  | .dormant => none

/-- Change the mode and hand the change to the panel unit, the composer and the announcer; the screen channels take it at
their next blanking interval (R140). A mode that does not change hands nothing out. -/
def State.setMode (s : State) (m : Mode) : State :=
  if s.act.mode = m then s
  else
    ((s.modAct fun a => { a with mode := m }).boardMode s.act.mode m
      |>.modPanel fun p => if m = .dormant then { p with roundNo := 0 } else p)
      |>.modAnn fun n => { n with volume := volumeOf s.cfg m }

/-- Put the idle deadline in place. -/
def State.setDeadline (s : State) (d : Option Nat) : State := s.modAct fun a => { a with deadline := d }

/-- An activity event: the mode becomes the ceiling and the deadline is set afresh (R136). -/
def State.activityEvent (s : State) : State :=
  if s.cfg.isSome then (s.setMode s.act.ceiling).setDeadline (s.stepAhead s.act.ceiling) else s

/-- The idle deadline is reached: step down once, unless the DUE floor holds QUIET (R137). -/
def State.idleStep (s : State) : State :=
  match s.act.mode with
  | .active => (s.setMode .quiet).setDeadline s.dormantAhead
  | .quiet => (if s.act.floor then s else s.setMode .dormant).setDeadline none
  | .dormant => s.setDeadline none

/-- "DUE floor on" (R138). -/
def State.floorOn (s : State) : State :=
  let s := s.modAct fun a => { a with floor := true }
  match s.act.mode with
  | .dormant => (s.setMode .quiet).setDeadline none
  | .quiet => s
  | .active => s

/-- "DUE floor off" (R138). -/
def State.floorOff (s : State) : State :=
  let s := s.modAct fun a => { a with floor := false }
  match s.act.mode, s.act.deadline with
  | .quiet, none => s.setDeadline s.dormantAhead
  | .quiet, some _ => s
  | .active, _ => s
  | .dormant, _ => s

/-- The controller's own part of a supply-low change (R139). -/
def State.supplyMode (s : State) (asserted : Bool) : State :=
  let s := s.modAct fun a => { a with supplyLow := asserted }
  if asserted && s.act.mode == .active then (s.setMode .quiet).setDeadline s.dormantAhead else s

end Sys2Proof.Machine
end

