-- ==== Sys2Proof/Machine/Announcer.lean ====
section
/-! DEFINITION. The announcer: the queue, the start and the resolving of a phrase, fetching, playing and cutting
(chapter 8: R142 to R154). -/

namespace Sys2Proof.Machine

/-- Priorities of requests (R145, R146). -/
def AnnKind.priority : AnnKind → Nat
  | .cancel => 3
  | .due => 2
  | .play => 2
  | .delay => 1

/-- Two requests are the same request: same kind for the same train and day tag; never two PLAYs (R146, R147). -/
def AnnReq.same (r t : AnnReq) : Bool := r.kind == t.kind && r.who.isSome && r.who == t.who

/-- Put a request in its place in queue order: by priority, and by arrival among equals (R147). -/
def enqueue (q : List AnnReq) (r : AnnReq) : List AnnReq :=
  insertBy (fun x y => decide (y.kind.priority < x.kind.priority)) r q

/-- What R147 does with a newcomer: the queue after it, whether it is in the queue, and how many requests it counts. -/
def placeRequest (q : List AnnReq) (r : AnnReq) : List AnnReq × Bool × Nat :=
  if q.any (·.same r) then (q.map fun t => if t.same r then r else t, true, 0)
  else if q.length < 4 then (enqueue q r, true, 0)
  else
    match q.getLast? with
    | some l => if l.kind.priority < r.kind.priority then (enqueue q.dropLast r, true, 1) else (q, false, 1)
    | none => (q, false, 1)

/-- The entry an identity names. -/
def State.entry? (s : State) (who : TrainId) : Option Entry :=
  s.table.find? fun e => e.train == who.train && e.tag == who.tag

/-- The civil second of a service second (00_scope, "Time"). -/
def civilOf (hour t : Nat) : Nat := (t + 3600 * hour) % 86400

/-! ### Resolving a phrase (R144; log 18) -/

/-- The clip number of a template item for an entry, or none when the item is left out; an item of an unlisted kind, which
memory may hold after a host write, is left out (log 62). -/
def State.itemClip (s : State) (c : Settings) (e : Option Entry) (item : Word) : Option Nat :=
  let clip : Option Nat :=
    match bits item 8 8 with
    | 0 => some (bits item 0 8)
    | 1 => e.map fun e => c.ann.platform + (match e.dir with | .up => c.scr.platUp | .down => c.scr.platDown)
    | 2 => e.map fun e => c.ann.hour + civilOf s.bat.hour e.exp / 3600
    | 3 => e.map fun e => c.ann.minute + civilOf s.bat.hour e.exp % 3600 / 60
    | 4 => e.bind fun e => if e.dest < c.stops.length then some (bits (s.peek (stopEntryAt e.dest)) 0 7) else none
    | 5 => e.map fun e => c.ann.delay + min e.hm 59
    | 6 => e.bind fun e => e.cancel.map fun r => c.ann.reason + r
    | _ => none
  clip.filter fun n => decide (n ≤ 127)

/-- The descriptor word at which a kind's template begins (R201). -/
def templateAt : AnnKind → Nat
  | .due => 170
  | .delay => 179
  | .cancel => 188
  | .play => 0

/-- The clip list of a request at its start: a PLAY's own, or its template resolved for its entry (R144, R146); a count above 8,
which memory may hold after a host write, is taken as 8 (log 62). -/
def State.resolve (s : State) (c : Settings) (r : AnnReq) : List Nat :=
  match r.kind with
  | .play => r.clips
  | k =>
    let at_ := descAddr (templateAt k)
    let e := r.who.bind s.entry?
    ((List.range (min 8 (s.peek at_).toNat)).filterMap fun i => s.itemClip c e (s.peek (at_ + 1 + i)))

/-! ### Starting and ending (R148) -/

/-- A request made the current announcement, in stage STARTING, if some clip of its list has an entry (R143, R148). -/
def startOf (c : Settings) (r : AnnReq) (clips : List Nat) : Option Announcement :=
  match clips.dropWhile (fun n => decide (c.clips ≤ n)) with
  | [] => none
  | rest =>
    some { kind := r.kind, who := r.who, playing := false, clips := clips, rest := rest, fetch := .entry [], out := [],
           cut := none }

/-- Start the first request of a queue whose clip list has an entry; a list without one ends at once (R148). -/
def State.startFrom (s : State) (c : Settings) : List AnnReq → State
  | [] => s.modAnn fun n => { n with queue := [] }
  | r :: rs =>
    match startOf c r (s.resolve c r) with
    | some a => s.modAnn fun n => { n with queue := rs, current := some a }
    | none => s.startFrom c rs

/-- When no announcement is current and the queue is not empty, start the head of the queue (R148). -/
def State.startNext (s : State) : State :=
  match s.cfg, s.ann.current with
  | some c, none => s.startFrom c s.ann.queue
  | _, _ => s

/-- End the current announcement: the FIFO is emptied, the output returns to 128, and the next request starts (R148). -/
def State.endAnnouncement (s : State) : State :=
  (s.modAnn fun n => { n with current := none, fifo := [], level := 128 }).startNext

/-! ### Cutting, placing and withdrawing (R151 to R154) -/

/-- Set the cut mark with its cause; a first cause stands, and a STARTING announcement ends at once (R151). -/
def State.cut (s : State) (why : CutCause) : State :=
  match s.ann.current with
  | none => s
  | some a =>
    match a.cut with
    | some _ => s
    | none =>
      let s := if why = .preempted then s.count .annDrop 1 else s
      let s := s.modAnn fun n => { n with current := some { a with cut := some why } }
      if a.playing then s else s.endAnnouncement

/-- The queue holds a request of higher priority than the current announcement's (R151). -/
def State.outranked (s : State) : Bool :=
  match s.ann.current with
  | none => false
  | some a => s.ann.queue.any fun r => decide (a.kind.priority < r.kind.priority)

/-- Take a handed request: place it, test it for pre-emption, and start it when the announcer is idle (R145, R147, R148, R151). -/
def State.takeRequest (s : State) (r : AnnReq) : State :=
  let p := placeRequest s.ann.queue r
  let s := (s.modAnn fun n => { n with queue := p.1 }).count .annDrop p.2.2
  let s := if p.2.1 && s.outranked then s.cut .preempted else s
  s.startNext

/-- A request of the projection unit; a DELAY is dropped on arrival and counted while supply-low is asserted (R145, R153). -/
def State.handRequest (s : State) (k : AnnKind) (who : TrainId) : State :=
  if k = .delay ∧ s.ann.supplyLow then s.count .annDrop 1
  else s.takeRequest { kind := k, who := some who, clips := [] }

/-- Withdraw the queued requests of some kinds for an entry (R152). -/
def State.withdrawQueued (s : State) (who : TrainId) (kinds : List AnnKind) : State :=
  s.modAnn fun n => { n with queue := n.queue.filter fun r => !(r.who == some who && kinds.contains r.kind) }

/-- Cut the current announcement when it is one of some kinds for an entry (R152). -/
def State.cutFor (s : State) (who : TrainId) (kinds : List AnnKind) : State :=
  match s.ann.current with
  | some a => if a.who == some who && kinds.contains a.kind then s.cut .withdrawn else s
  | none => s

/-- The entry has been removed: every request of it is withdrawn and its announcement is cut (R10, R152). -/
def State.annRemoved (s : State) (who : TrainId) : State :=
  (s.withdrawQueued who [.cancel, .due, .delay]).cutFor who [.cancel, .due, .delay]

/-- The entry has entered CANCELLED: DUE and DELAY withdrawn, a DUE or DELAY announcement cut (R56, R152). -/
def State.annCancelled (s : State) (who : TrainId) : State :=
  (s.withdrawQueued who [.due, .delay]).cutFor who [.due, .delay]

/-- Clear the queue, uncounted, and cut the current announcement (R154). -/
def State.annClear (s : State) : State :=
  (s.modAnn fun n => { n with queue := [] }).cut .withdrawn

/-- The announcer takes a change of supply-low: on assertion every queued DELAY is removed and counted (R153). -/
def State.annSupply (s : State) (asserted : Bool) : State :=
  let n := (s.ann.queue.filter fun r => r.kind == .delay).length
  let s := s.modAnn fun a => { a with supplyLow := asserted }
  if asserted then
    (s.modAnn fun a => { a with queue := a.queue.filter fun r => r.kind != .delay }).count .annDrop n
  else s

/-! ### Fetching and playing (R143, R148 to R150) -/

/-- The output for a sample at a volume (R149). -/
def scaled (sample : Byte) (vol : Nat) : Int := 128 + (((sample.toNat : Int) - 128) * vol).tdiv 16

/-- Output the sample at the head of the FIFO; the announcement ends at its last sample or at a cut clip boundary (R149, R151). -/
def State.outputSample (s : State) : State :=
  match s.ann.current, s.ann.fifo with
  | some a, b :: rest =>
    let v := scaled b s.ann.volume
    let s := s.modAnn fun n => { n with fifo := rest, level := v, driven := v }
    match a.out with
    | [] => s
    | (clip, left) :: more =>
      if 1 < left then s.modAnn fun n => { n with current := some { a with out := (clip, left - 1) :: more } }
      else if a.cut.isSome || (more.isEmpty && a.fetch == .done) then s.endAnnouncement
      else s.modAnn fun n => { n with current := some { a with out := more } }
  | _, _ => s

/-- Move the fetch position to the next clip that has an entry, or to the end (R143, R149). -/
def Announcement.nextClip (a : Announcement) (c : Settings) : Announcement :=
  match a.rest.tail.dropWhile (fun n => decide (c.clips ≤ n)) with
  | [] => { a with rest := [], fetch := .done }
  | rest => { a with rest := rest, fetch := .entry [] }

/-- A clip entry's three words have been read: take its samples, or skip it (R143; log 17). -/
def Announcement.takeEntry (a : Announcement) (c : Settings) (got : List Word) : Announcement :=
  let start := pairAddr (got.getD 0 0) (got.getD 1 0)
  let len := (got.getD 2 0).toNat
  if len = 0 ∨ Config.maxAddr < start + ceilDiv len 2 - 1 then a.nextClip c
  else { a with fetch := .samples start len, out := a.out ++ [(a.rest.headD 0, len)] }

/-- The announcer has an access waiting: a clip table word, or a sample word for which the FIFO has room (R149). -/
def State.annWants (s : State) : Option Nat :=
  match s.cfg, s.ann.current with
  | some c, some a =>
    match a.fetch with
    | .entry got => some (c.clipEntryAt (a.rest.headD 0) + got.length)
    | .samples addr _ => if s.ann.fifo.length + 2 ≤ 32 then some addr else none
    | .done => none
  | _, _ => none

/-- The announcer is urgent: fewer than 8 samples in the FIFO and samples left to fetch (R149, R181). -/
def State.annUrgent (s : State) : Bool :=
  match s.ann.current with
  | some a => a.fetch != .done && decide (s.ann.fifo.length < 8)
  | none => false

/-- After a fetched word: PLAYING begins when the FIFO holds 8 samples or the whole list, with the first sample and an
activity event; an announcement with nothing left ends (R148). -/
def State.annAdvance (s : State) : State :=
  match s.ann.current with
  | none => s
  | some a =>
    if a.playing then
      if a.fetch == .done && a.out.isEmpty then s.endAnnouncement else s
    else if 8 ≤ s.ann.fifo.length ∨ (a.fetch = .done ∧ s.ann.fifo ≠ []) then
      ((s.modAnn fun n => { n with current := some { a with playing := true } }).outputSample).activityEvent
    else if a.fetch = .done then s.endAnnouncement
    else s

/-- The announcer takes the word of its access (R143, R149). -/
def State.annServed (s : State) (w : Word) : State :=
  match s.cfg, s.ann.current with
  | some c, some a =>
    match a.fetch with
    | .entry got =>
      let got := got ++ [w]
      let a := if got.length < 3 then { a with fetch := .entry got } else a.takeEntry c got
      (s.modAnn fun n => { n with current := some a }).annAdvance
    | .samples addr left =>
      let new := if 2 ≤ left then [hiByte w, loByte w] else [hiByte w]
      let a := if 2 < left then { a with fetch := .samples (addr + 1) (left - 2) } else a.nextClip c
      (s.modAnn fun n => { n with current := some a, fifo := n.fifo ++ new }).annAdvance
    | .done => s
  | _, _ => s

/-- A reload may leave the fetch position at a clip that has no entry any more; it is skipped without a read (R143, R202). Words
already read of a clip's entry are kept, and the rest is read in the new clip table (R154; log 67). -/
def State.annSkip (s : State) (c : Settings) : State :=
  match s.ann.current with
  | none => s
  | some a =>
    match a.fetch with
    | .entry _ =>
      if c.clips ≤ a.rest.headD 0 then (s.modAnn fun n => { n with current := some (a.nextClip c) }).annAdvance else s
    | .samples _ _ => s
    | .done => s

/-- A sample period: a PLAYING announcement outputs a sample, or has an underrun when the FIFO is empty (R149, R150). -/
def State.annPeriod (s : State) : State :=
  match s.ann.current with
  | none => s
  | some a =>
    if a.playing then
      match s.ann.fifo with
      | [] => (s.count .audioUnderrun 1).raise .underrun
      | _ :: _ => s.outputSample
    else s

end Sys2Proof.Machine
end

