-- ==== Sys2Proof/Machine/Times.lean ====
section
/-! DEFINITION. Service time, an entry's relation and its own now, and the listing order
(00_scope, "Time"; R3, R4, R53). -/

namespace Sys2Proof.Machine

/-- The service second N of a civil time of day for a day-start hour (00_scope, "Time"). -/
def serviceSecond (civil hour : Nat) : Nat := (civil + 86400 - 3600 * hour) % 86400

/-- The service second of now (R28). -/
def Battery.now (b : Battery) : Nat := serviceSecond b.civil b.hour

/-- The relation of a day tag to a service day number (R3). -/
def relationOf (day : Word) (tag : Nat) : Relation :=
  match (tag + 4 - day.toNat % 4) % 4 with
  | 0 => .current
  | 1 => .next
  | 2 => .unheld
  | _ => .previous

/-- The relation of an entry (R3). -/
def Entry.relation (e : Entry) (b : Battery) : Relation := relationOf b.day e.tag

/-- A relation's own now, N_e (R3). -/
def nowFor (n : Nat) : Relation → Int
  | .previous => (n : Int) + 86400
  | .current => n
  | .next => (n : Int) - 86400
  | .unheld => n

/-- An entry's own now (R3). -/
def Entry.now (e : Entry) (b : Battery) : Int := nowFor b.now (e.relation b)

/-- The entry is CURRENT or PREVIOUS. -/
def Entry.today (e : Entry) (b : Battery) : Bool :=
  match e.relation b with
  | .current => true
  | .previous => true
  | .next => false
  | .unheld => false

/-- PREVIOUS before CURRENT before NEXT (R4). -/
def Relation.rank : Relation → Nat
  | .previous => 0
  | .current => 1
  | .next => 2
  | .unheld => 3

/-- Listing order: relation, then E, then train number (R4). -/
def listedBefore (b : Battery) (x y : Entry) : Bool :=
  let rx := (x.relation b).rank
  let ry := (y.relation b).rank
  if rx ≠ ry then decide (rx < ry)
  else if x.exp ≠ y.exp then decide (x.exp < y.exp)
  else decide (x.train < y.train)

/-- Put an entry in its place in listing order (R4). -/
def listEntry (b : Battery) (t : List Entry) (e : Entry) : List Entry := insertBy (listedBefore b) e t

/-- The table without the entry of an identity. -/
def withoutEntry (t : List Entry) (who : TrainId) : List Entry :=
  t.filter fun e => !(e.train == who.train && e.tag == who.tag)

/-- The identity of an entry (R1). -/
def Entry.who (e : Entry) : TrainId := ⟨e.train, e.tag⟩

/-- Minutes to go: ceil((E − N_e)/60) while E > N_e, and 0 after (R53). -/
def minutesToGo (exp : Nat) (now : Int) : Nat :=
  if now < exp then ceilDiv ((exp : Int) - now).toNat 60 else 0

/-- The entry's direction passes a screen's filter (R113). -/
def Filter.passes (f : Filter) (d : Direction) : Bool :=
  match f, d with
  | .both, _ => true
  | .up, .up => true
  | .down, .down => true
  | .up, .down => false
  | .down, .up => false

/-- The direction filter of a screen. -/
def Settings.filter (c : Settings) : Screen → Filter
  | .a => c.scr.filterA
  | .b => c.scr.filterB

/-- A departure is shown on a screen (R113). -/
def Entry.shownOn (e : Entry) (b : Battery) (c : Settings) (scr : Screen) : Bool :=
  e.today b && e.phase != .departed && (c.filter scr).passes e.dir

/-- The shown departures of a screen, in listing order (R113). -/
def State.shownOn (s : State) (c : Settings) (scr : Screen) : List Entry :=
  s.table.filter fun e => e.shownOn s.bat c scr

end Sys2Proof.Machine
end

