-- ==== Sys2Proof/Machine/Sale.lean ====
section
/-! DEFINITION. What the issue unit decides from the table: sellable departures, binding, fares, validity, and the
voiding of quotes (chapter 4: R63, R65 to R69, R72). -/

namespace Sys2Proof.Machine

/-- A departure is sellable (R63). -/
def Entry.sellable (e : Entry) (b : Battery) (c : Settings) : Bool :=
  b.clock == .set && e.today b && (e.phase == .waiting || e.phase == .due) && !e.noSale &&
  (decide (e.now b < (e.exp : Int) - c.fare.saleClose) || e.timeliness == .stale)

/-- A departure serves a destination (R63). -/
def Entry.serves (e : Entry) (code : Nat) : Bool := e.dest == code || e.calling.contains code

/-- Binding: the first sellable departure in listing order serving the destination, with the named train when one is named (R65). -/
def State.bind? (s : State) (c : Settings) (code train : Nat) : Option Entry :=
  s.table.find? fun e => e.sellable s.bat c && e.serves code && (train == 0 || e.train == train)

/-- Some sellable departure exists (R65, R74). -/
def State.anySellable (s : State) (c : Settings) : Bool := s.table.any fun e => e.sellable s.bat c

/-! ### Fares (R66, R67) -/

/-- The zone count k (R66). -/
def zoneCount (zd zh : Nat) : Nat := ((zd : Int) - zh).natAbs + 1

/-- The product factor p in sixteenths (R66). -/
def FareParams.factor (f : FareParams) : Product → Nat
  | .single => 16
  | .ret => f.retFactor
  | .day => f.dayFactor

/-- The time percentage t at a reference time (R66). -/
def FareParams.timePct (f : FareParams) (ref : Nat) : Nat := if f.offStart ≤ ref ∧ ref < f.offEnd then f.offPct else 100

/-- The one-passenger fare for an exact product x and a payable percentage q (R66). -/
def fareOf (x q u : Nat) : Nat := u * ((x * q + 80000 * u) / (160000 * u))

/-- The exact product x (R66). -/
def Settings.exactFare (c : Settings) (dest : Nat) (p : Product) (ref : Nat) : Nat :=
  c.fare.fares.getD (zoneCount (c.zoneOf dest) c.fare.zone - 1) 0 * c.fare.factor p * c.fare.timePct ref

/-- The one-adult fare A (R66). -/
def Settings.adultFare (c : Settings) (dest : Nat) (p : Product) (ref : Nat) : Nat :=
  fareOf (c.exactFare dest p ref) 100 c.fare.unit

/-- The number of passengers of a request. -/
def Counts.total (n : Counts) : Nat := n.adults + n.conc + n.children

/-- The total fare T (R67). -/
def Settings.totalFare (c : Settings) (dest : Nat) (p : Product) (ref : Nat) (n : Counts) : Nat :=
  let x := c.exactFare dest p ref
  let a := fareOf x 100 c.fare.unit
  let t := n.adults * a + n.conc * fareOf x c.fare.concPct c.fare.unit + n.children * fareOf x c.fare.childPct c.fare.unit
  if 3 ≤ n.total ∧ 0 < c.fare.cap then min t (c.fare.cap * a) else t

/-- The shown one-adult fare of a destination and product, when there is one (R68). -/
def State.shownFare (s : State) (c : Settings) (dest : Nat) (p : Product) : Option Nat :=
  match p with
  | .day => if s.anySellable c then some (c.adultFare dest .day s.bat.now) else none
  | .single => (s.bind? c dest 0).map fun e => c.adultFare dest .single e.sched
  | .ret => (s.bind? c dest 0).map fun e => c.adultFare dest .ret e.sched

/-- The validity end of a ticket (R69). -/
def validityEnd (b : Battery) (c : Settings) (p : Product) (e : Option Entry) : Nat :=
  match p, e with
  | .single, some e =>
    let base : Int := if e.timeliness = .stale ∧ (e.exp : Int) < e.now b then e.now b else e.exp
    let fin := min (base.toNat + c.fare.grace) Config.axisEnd
    if e.relation b = .previous then fin - 86400 else fin
  | .single, none => 86399
  | .ret, _ => 86399
  | .day, _ => 86399

/-- The fiscal record of a product (R76). -/
def Battery.fiscal (b : Battery) : Product → Fiscal
  | .single => b.single
  | .ret => b.ret
  | .day => b.dayTicket

/-- A fare could be committed: no total and no serial would pass 4,294,967,295 (R76). -/
def Battery.couldCommit (b : Battery) (p : Product) (fare : Nat) : Bool :=
  decide ((b.fiscal p).cents + fare ≤ 4294967295) && decide ((b.fiscal p).count + 1 ≤ 4294967295) &&
  decide (b.nextSerial + 1 ≤ 4294967295)

/-! ### Quote records and voiding (R62, R72, R73) -/

/-- The quote record of a slot. -/
def IssueUnit.record (u : IssueUnit) (slot : Nat) : QuoteRec := u.records.getD slot .empty

/-- Put a quote record in place. -/
def State.setRecord (s : State) (slot : Nat) (r : QuoteRec) : State :=
  s.modIssue fun u => { u with records := u.records.set slot r }

/-- Queue writes of the issue unit behind those it has waiting (R182). -/
def State.issueWrites (s : State) (accs : List Acc) : State := s.modIssue fun u => { u with accs := u.accs ++ accs }

/-- The sale slot's busy mark is clear. -/
def State.saleIdle (s : State) (slot : Nat) : Bool := s.path.sale.getD slot .clear == .clear

/-- The reason code of a void reason (R62, R206). -/
def VoidReason.code : VoidReason → Word
  | .none => Code.noReason
  | .departureGone => Code.departureGone
  | .reconfigured => Code.reconfigured

/-- The two writes that end a quote: the reason word, then EXPIRED (R71 to R73). -/
def expiredWrites (w : Windows) (slot : Nat) (why : VoidReason) : List Acc :=
  [⟨w.saleWord slot 8, why.code, .expiredReason slot⟩, ⟨w.saleWord slot 0, Code.expired, .expiredPost slot⟩]

/-- Void the live quote of a slot; the EXPIRED writes follow only when the slot is idle (R70 to R73). -/
def State.voidSlot (s : State) (slot : Nat) (why : VoidReason) : State :=
  match s.cfg, s.issue.record slot with
  | some c, .live q =>
    let s := s.setRecord slot (.voided q why)
    if s.saleIdle slot then s.issueWrites (expiredWrites c.win slot why) else s
  | _, _ => s

/-- The slot holds a live quote bound to an entry. -/
def State.boundTo (s : State) (slot : Nat) (who : TrainId) : Bool :=
  match s.issue.record slot with
  | .live q => q.bound == some who
  | .voided _ _ => false
  | .empty => false

/-- Void the live quotes bound to an entry with DEPARTURE_GONE, slot 0 first (R72; log 64). -/
def State.voidBound (s : State) (who : TrainId) : State :=
  [0, 1, 2, 3].foldl (fun s slot => if s.boundTo slot who then s.voidSlot slot .departureGone else s) s

/-- Void every live quote with DEPARTURE_GONE, slot 0 first, for a clock step that empties the table (R25, R72; log 64). -/
def State.voidAll (s : State) : State :=
  [0, 1, 2, 3].foldl (fun s slot => s.voidSlot slot .departureGone) s

end Sys2Proof.Machine
end

