-- ==== Sys2Proof/Machine/Selection.lean ====
section
/-! DEFINITION. The destination list and the selection machine (chapter 5: R100 to R110). -/

namespace Sys2Proof.Machine

/-! ### The destination list (R100) -/

/-- The stop codes to which a ticket can be bought now, ascending (R100). -/
def State.destinations (s : State) (c : Settings) : List Nat :=
  (List.range 64).filter fun code =>
    c.present code && code != c.fare.halt && s.table.any fun e => e.sellable s.bat c && e.serves code

/-- The first-choice stop (R103). -/
def State.firstChoice (s : State) (c : Settings) : Option Nat :=
  match s.table.find? fun e => e.sellable s.bat c with
  | some e =>
    if s.panel.dests.contains e.dest then some e.dest
    else
      match s.panel.dests.find? e.serves with
      | some code => some code
      | none => s.panel.dests.head?
  | none => s.panel.dests.head?

/-! ### Presence, touch and the leave deadline (R98, R107) -/

/-- The state of a channel. -/
def Panel.chanActive (p : Panel) (ch : Nat) : Bool :=
  match p.chans[ch]? with
  | some c => c.state == .active
  | none => false

/-- Presence holds: channel 0 is in PROX (R98). -/
def State.presence (s : State) : Bool := s.panel.chanActive 0

/-- No presence and none of channels 1..6 in TOUCH (R107). -/
def State.away (s : State) : Bool := !s.presence && [1, 2, 3, 4, 5, 6].all fun ch => !s.panel.chanActive ch

/-- The states in which a leave deadline is kept (R107). -/
def SelState.leaves : SelState → Bool
  | .browse => true
  | .choose => true
  | .confirm => true
  | .idle => false
  | .handed => false

/-- Bring the leave deadline up to date; `entered` says that one of its states has just been entered (R107). -/
def State.syncLeave (s : State) (entered : Bool) : State :=
  match s.cfg with
  | none => s
  | some c =>
    if s.sel.state.leaves && s.away then
      if entered || s.sel.leave.isNone then s.modSel fun m => { m with leave := some (s.nowSec + c.panel.leave) } else s
    else s.modSel fun m => { m with leave := none }

/-! ### Changes of the selection (R101) -/

/-- A new-fare event: row 4 of screen A is to be rebuilt (R120). -/
def State.fareEvent (s : State) : State := s.markRows .a [4]

/-- Two selections show the same: state, cursor, product and page (R101). -/
def Selection.sameShow (x y : Selection) : Bool :=
  x.state == y.state && x.cursor == y.cursor && x.product == y.product && x.page == y.page

/-- Put a selection in place: the leave deadline follows, and a change is handed to the composer and, unless it is a return
to IDLE, to the activity controller (R101, R107); a new cursor or product brings a new shown fare (R68). -/
def State.setSel (s : State) (new : Selection) : State :=
  let old := s.sel
  let s := (s.modSel fun _ => new).syncLeave (old.state != new.state)
  if old.sameShow new then s
  else
    let s := s.markRows .a [1, 2, 3, 4]
    let s := if old.cursor = new.cursor ∧ old.product = new.product then s else s.fareEvent
    if new.state = .idle then s else s.activityEvent

/-- The last page for n shown departures: max(0, ceil(n/3) − 1) (R101). -/
def lastPage (n : Nat) : Nat := ceilDiv n 3 - 1

/-- The composer hands a new n: a page offset above the new last page is cut to it (R101, R113). -/
def State.handCount (s : State) (n : Nat) : State :=
  if s.board.lastN = n then s
  else
    let s := s.modBoard fun b => { b with lastN := n }
    if lastPage n < s.sel.page then s.setSel { s.sel with page := lastPage n } else s

/-- The machine at rest in IDLE with page 0, no cursor and SINGLE (R101, R107). -/
def State.selIdle (s : State) : State :=
  s.setSel { state := .idle, cursor := none, product := .single, page := 0, leave := none, handed := none }

/-- The next higher code of a list, or the next lower when none is higher (R109). -/
def nearestIn (l : List Nat) (x : Nat) : Option Nat :=
  match l.find? fun y => decide (x < y) with
  | some y => some y
  | none => (l.filter fun y => decide (y < x)).getLast?

/-- The adjustment of the machine to the destination list (R109). -/
def State.adjustSel (s : State) (c : Settings) : State :=
  let l := s.panel.dests
  match s.sel.state with
  | .idle => s
  | .browse => s
  | .handed => s
  | .choose =>
    if l.isEmpty then s.setSel { s.sel with cursor := none }
    else
      match s.sel.cursor with
      | none => s.setSel { s.sel with cursor := s.firstChoice c }
      | some x => if l.contains x then s else s.setSel { s.sel with cursor := nearestIn l x }
  | .confirm =>
    if l.isEmpty then s.setSel { s.sel with state := .choose, cursor := none, product := .single }
    else
      match s.sel.cursor with
      | none => s.setSel { s.sel with cursor := s.firstChoice c }
      | some x => if l.contains x then s else s.setSel { s.sel with cursor := nearestIn l x }

/-- Recompute the destination list, adjust the machine to it, and recompute the shown fare (R68, R100, R109). -/
def State.recomputeList (s : State) : State :=
  match s.cfg with
  | none => s
  | some c => ((s.modPanel fun p => { p with dests := s.destinations c }).adjustSel c).fareEvent

/-! ### The machine's events (R102 to R106) -/

/-- The next product of a swipe (R105). -/
def Product.after : Product → Product
  | .single => .ret
  | .ret => .day
  | .day => .single

/-- The previous product of a swipe (R105). -/
def Product.before : Product → Product
  | .single => .day
  | .day => .ret
  | .ret => .single

/-- An event in BROWSE (R103). -/
def State.selBrowse (s : State) (c : Settings) : SelEvent → State
  | .swipeFwd => s.setSel { s.sel with page := min (s.sel.page + 1) (lastPage s.board.lastN) }
  | .swipeBack => s.setSel { s.sel with page := s.sel.page - 1 }
  | .back => s.setSel { s.sel with page := 0 }
  | .ok => s.setSel { s.sel with state := .choose, cursor := s.firstChoice c }
  | .tap => s.setSel { s.sel with state := .choose, cursor := s.firstChoice c }
  | .hold => s
  | .presence => s
  | .absence => s

/-- Forward from CHOOSE: CONFIRM with product SINGLE, unless the list is empty (R104). -/
def State.chooseForward (s : State) : State :=
  if s.panel.dests.isEmpty then s else s.setSel { s.sel with state := .confirm, product := .single }

/-- An event in CHOOSE (R104). -/
def State.selChoose (s : State) : SelEvent → State
  | .swipeFwd =>
    match s.sel.cursor.bind fun x => s.panel.dests.find? fun y => decide (x < y) with
    | some y => s.setSel { s.sel with cursor := some y }
    | none => s
  | .swipeBack =>
    match s.sel.cursor.bind fun x => (s.panel.dests.filter fun y => decide (y < x)).getLast? with
    | some y => s.setSel { s.sel with cursor := some y }
    | none => s
  | .ok => s.chooseForward
  | .tap => s.chooseForward
  | .back => s.setSel { s.sel with state := .browse, cursor := none }
  | .hold => s
  | .presence => s
  | .absence => s

/-- The shown fare of the selection's cursor and product, 0 when there is none (R105). -/
def State.selFare (s : State) (c : Settings) : Nat :=
  match s.sel.cursor with
  | some code => (s.shownFare c code s.sel.product).getD 0
  | none => 0

/-- Forward from CONFIRM: SELECT is written and the machine enters HANDED (R105). -/
def State.confirmForward (s : State) (c : Settings) : State :=
  (s.pushInput .select s.sel.cursor s.sel.product (s.selFare c)).setSel
    { s.sel with state := .handed, handed := some (s.nowSec + c.panel.handed) }

/-- An event in CONFIRM (R105). -/
def State.selConfirm (s : State) (c : Settings) : SelEvent → State
  | .swipeFwd => s.setSel { s.sel with product := s.sel.product.after }
  | .swipeBack => s.setSel { s.sel with product := s.sel.product.before }
  | .ok => s.confirmForward c
  | .tap => s.confirmForward c
  | .back => s.setSel { s.sel with state := .choose }
  | .hold => s
  | .presence => s
  | .absence => s

/-- An event in HANDED: BACK writes UNSELECT and returns to CONFIRM, adjusted to the list (R106). -/
def State.selHanded (s : State) (c : Settings) : SelEvent → State
  | .back =>
    ((s.pushInput .unselect s.sel.cursor s.sel.product 0).setSel
      { s.sel with state := .confirm, handed := none }).adjustSel c
  | .swipeFwd => s
  | .swipeBack => s
  | .ok => s
  | .tap => s
  | .hold => s
  | .presence => s
  | .absence => s

/-- Wake from IDLE to BROWSE with page 0, no cursor and SINGLE (R102). -/
def State.selWake (s : State) : State :=
  s.setSel { s.sel with state := .browse, page := 0, cursor := none, product := .single }

/-- The selection machine takes an event (R102 to R106). -/
def State.selEvent (s : State) (ev : SelEvent) : State :=
  match s.cfg with
  | none => s
  | some c =>
    match s.sel.state with
    | .idle => if ev = .absence then s else s.selWake
    | .browse => s.selBrowse c ev
    | .choose => s.selChoose ev
    | .confirm => s.selConfirm c ev
    | .handed => s.selHanded c ev

/-- The leave deadline is reached: IDLE, with LEFT when the state was CHOOSE or CONFIRM (R107). -/
def State.selLeave (s : State) : State :=
  match s.sel.state with
  | .choose => (s.pushInput .left s.sel.cursor s.sel.product 0).selIdle
  | .confirm => (s.pushInput .left s.sel.cursor s.sel.product 0).selIdle
  | .browse => s.selIdle
  | .idle => s
  | .handed => s

/-- The handed deadline is reached: TIMEOUT is written and the machine returns to IDLE (R106). -/
def State.selTimeout (s : State) : State :=
  (s.pushInput .timeout s.sel.cursor s.sel.product 0).setSel { s.sel with state := .idle, page := 0, handed := none, leave := none }

/-- SELECTION_DONE in HANDED: BROWSE with page 0 if presence holds, IDLE otherwise (R106); the page is 0 in IDLE too, the model's
choice (log 89). -/
def State.selDone (s : State) : State :=
  s.setSel { s.sel with state := if s.presence then .browse else .idle, page := 0, handed := none }

end Sys2Proof.Machine
end

