-- ==== Sys2Proof/Machine/Projection.lean ====
section
/-! DEFINITION. The projection unit: pending delay, shown delay, timeliness, phase, and the events of an evaluation
(chapter 3: R40 to R59), with the removal of entries (R10) and the DUE count (R57). -/

namespace Sys2Proof.Machine

/-! ### From report to expected time (R42 to R45) -/

/-- The whole minutes of the pending delay, before the cap (R42). -/
def pendingMinutes (delay : Int) (recovery : Nat) : Nat := (delay - 60 * recovery).toNat / 60

/-- The cap of an entry in minutes (R43). -/
def capMinutes (sched : Nat) : Nat := (Config.axisEnd - sched) / 60

/-- The hysteresis of the shown delay, with the second cap (R44). -/
def shownDelay (sched recovery held : Nat) (rep : Option Report) (first : Bool) : Nat :=
  match rep with
  | none => 0
  | some r =>
    let pm := min (pendingMinutes r.delay recovery) (capMinutes sched)
    let hm := if first ∨ held < pm ∨ pm + 2 ≤ held ∨ r.final then pm else held
    min hm (capMinutes sched)

/-- The projection step (R45). -/
def Entry.project (e : Entry) (first : Bool) : Entry :=
  let hm := shownDelay e.sched e.recovery e.hm e.report first
  { e with hm := hm, exp := e.sched + 60 * hm }

/-! ### Timeliness and phase (R46 to R51) -/

/-- The age of a report in whole uptime seconds (R47); 0 for a report whose arrival lies above the present uptime, as one may once the
uptime has passed its range: the model's choice (log 86). -/
def Report.age (r : Report) (now : Nat) : Nat := now - r.arrival

/-- The timeliness class of an entry (R46, R48). -/
def Entry.classify (e : Entry) (b : Battery) (p : ProjParams) (now : Nat) : Timeliness :=
  match e.report with
  | none => .noReport
  | some r =>
    if b.clock = .set ∧ p.stale < r.age now then .stale
    else if p.late ≤ e.hm then .late
    else .onTime

/-- What an evaluation follows, as far as the phase tests care (R50, R51). -/
inductive EvalAfter
  | plain
  | report
  | reinstate
deriving DecidableEq, Repr

/-- The phase tests of an evaluation, on an entry whose timeliness has been classified (R48, R50, R51). A DUE entry outside its
window returns to WAITING after a REPORT, whether or not the report has moved its E (log 63). Only the evaluation of the REINSTATE
itself leaves out the departure test: one of another cause before the next halt second applies it, the model's choice (log 84). -/
def Entry.phaseAfter (e : Entry) (b : Battery) (p : ProjParams) (after : EvalAfter) : Phase :=
  match e.phase with
  | .departed => .departed
  | .cancelled => .cancelled
  | ph =>
    if b.clock = .unset then .waiting
    else if after ≠ .reinstate ∧ e.timeliness ≠ .stale ∧ (e.exp : Int) + p.grace ≤ e.now b then .departed
    else if (e.exp : Int) - p.window ≤ e.now b then .due
    else if after = .report then .waiting
    else ph

/-! ### The DUE count (R40, R57) -/

/-- The number of CURRENT and PREVIOUS entries in phase DUE (R40). -/
def dueEntries (b : Battery) (t : List Entry) : Nat := (t.filter fun e => e.phase == .due && e.today b).length

/-- Bring the DUE count up to date and hand the floor events (R57). -/
def State.syncDue (s : State) : State :=
  let n := dueEntries s.bat s.table
  let old := s.dueCount
  let s := s.setDueCount n
  if old = 0 ∧ 0 < n then s.floorOn
  else if 0 < old ∧ n = 0 then s.floorOff
  else s

/-! ### Putting entries in place and removing them (R4, R10) -/

/-- Put a changed entry in place; it moves only when its E has changed (R4). -/
def replaceEntry (b : Battery) (t : List Entry) (old new : Entry) : List Entry :=
  if old.exp = new.exp then t.map fun e => if e.train = old.train ∧ e.tag = old.tag then new else e
  else listEntry b (withoutEntry t old.who) new

/-- Remove an entry, with the effects of R10 but for the destination list. -/
def State.removeEntry (s : State) (who : TrainId) : State :=
  (((s.setTable (withoutEntry s.table who)).voidBound who).annRemoved who).syncDue.markDepartures

/-- Remove entries one after another. -/
def State.removeAll (s : State) (l : List Entry) : State := l.foldl (fun s e => s.removeEntry e.who) s

/-- Count losses and raise TABLE_LOST once, when there are any (R21). -/
def State.countLost (s : State) (n : Nat) : State :=
  if n = 0 then s else (s.count .tableLoss n).raise .tableLost

/-! ### The events of an evaluation (R54 to R58) -/

/-- The DUE announced mark after an evaluation (R51, R54, R56). -/
def dueMark (old : Phase) (new : Phase) (mark : Bool) : Bool :=
  if new = .due ∧ old ≠ .due then true
  else if new = .waiting ∧ old = .due then false
  else if new = .cancelled ∧ old ≠ .cancelled then false
  else mark

/-- A DELAY request is due after a projection step (R55; log 24). The conditions of R55's list are the whole test: a step that lowers
Hm and still meets them makes the request and sets the mark, the model's choice (log 85). -/
def delayDue (p : ProjParams) (oldHm : Nat) (e : Entry) : Bool :=
  e.hm != oldHm && (e.phase == .waiting || e.phase == .due) && !e.dueAnn &&
  decide (e.delayAnn.getD 0 + p.step ≤ min e.hm 59)

/-- What an evaluation makes of an entry whose update and projection step are done: timeliness, phase and marks. -/
def Entry.evaluated (cur : Entry) (b : Battery) (p : ProjParams) (now : Nat) (old : Entry) (after : EvalAfter)
    (stepped : Bool) : Entry :=
  let e := { cur with timeliness := cur.classify b p now }
  let e := { e with phase := e.phaseAfter b p after }
  let e := { e with dueAnn := dueMark old.phase e.phase e.dueAnn }
  if stepped && delayDue p old.hm e then { e with delayAnn := some (min e.hm 59) } else e

/-- The phase events for an entry that was `old` and is `new` (R51, R54, R56); `mark` is its DUE announced mark before. -/
def State.phaseEvents (s : State) (old : Phase) (mark : Bool) (new : Entry) : State :=
  if old = new.phase then s
  else
    match new.phase with
    | .due => (if mark then s else s.handRequest .due new.who).activityEvent
    | .waiting => if old = .due then s.withdrawQueued new.who [.due] else s
    | .departed => (s.voidBound new.who).withdrawQueued new.who [.due, .delay]
    | .cancelled =>
      let s := (s.voidBound new.who).drawn
      if Config.freeFirst s.free then (s.handRequest .cancel new.who).annCancelled new.who
      else (s.annCancelled new.who).handRequest .cancel new.who

/-- An evaluation as one event: the entry is put in place, the DUE count follows, and the events are handed (R41, R54 to R58).
`old` is the entry before the update, `cur` after it and after any projection step (`stepped`). A DUE request withdrawn by the
return to WAITING leaves the queue before a DELAY request of the same evaluation enters it (log 53). -/
def State.evalEntry (s : State) (c : Settings) (old cur : Entry) (after : EvalAfter) (stepped : Bool) : State :=
  let new := cur.evaluated s.bat c.proj s.nowSec old after stepped
  let s := (s.setTable (replaceEntry s.bat s.table old new)).syncDue
  let s := s.phaseEvents old.phase cur.dueAnn new
  let s := if stepped && delayDue c.proj old.hm { new with delayAnn := cur.delayAnn } then s.handRequest .delay new.who else s
  if old.exp ≠ new.exp ∨ old.hm ≠ new.hm ∨ old.timeliness ≠ new.timeliness ∨ old.phase ≠ new.phase then s.markDepartures
  else s

/-- Evaluate every entry once, in listing order (R41). -/
def State.evalAll (s : State) (c : Settings) : State :=
  s.table.foldl
    (fun s e =>
      match s.entry? e.who with
      | some cur => s.evalEntry c cur cur .plain false
      | none => s)
    s

/-! ### Retirement and day changes (R22 to R25) -/

/-- Retired at the end of retention, not counted (R22). -/
def Entry.retires (e : Entry) (b : Battery) (p : ProjParams) : Bool :=
  (e.phase == .departed || e.phase == .cancelled) && decide ((e.exp : Int) + p.retention ≤ e.now b)

/-- Retired as lost, counted (R22). -/
def Entry.abandoned (e : Entry) (b : Battery) (p : ProjParams) : Bool :=
  (e.phase == .waiting || e.phase == .due) && e.timeliness == .stale && decide ((e.sched : Int) + p.abandon ≤ e.now b)

/-- At the PREVIOUS limit: lost, counted (R23). -/
def Entry.pastLimit (e : Entry) (b : Battery) : Bool := e.relation b == .previous && decide (21600 ≤ b.now)

/-- The retirement test and the limit on PREVIOUS entries (R22, R23): the ended entries go first, then the abandoned and those past
the limit together, each group in listing order (log 70). -/
def State.retire (s : State) (c : Settings) : State :=
  let ended := s.table.filter fun e => e.retires s.bat c.proj
  let lost := s.table.filter fun e => !e.retires s.bat c.proj && (e.abandoned s.bat c.proj || e.pastLimit s.bat)
  ((s.removeAll ended).removeAll lost).countLost lost.length

/-- The day rollover at the table, before the evaluation: entries two days off are lost, relations shift, the listing order is
rebuilt (R24). R24 gives the lost entries no order: they are removed in listing order, the model's choice (log 78). -/
def State.rollTable (s : State) : State :=
  let lost := s.table.filter fun e => e.relation s.bat == .unheld
  let s := (s.removeAll lost).countLost lost.length
  (s.setTable (sortBy (listedBefore s.bat) s.table)).syncDue.markDepartures

/-- Evaluations, retirement and the destination list, as a halt second and the end of a step take them: the list is recomputed once,
after the pass (R22, R35, R58; log 57). -/
def State.evalPass (s : State) (c : Settings) : State := ((s.evalAll c).retire c).recomputeList

/-- A clock step empties the table at one instant: the announcer's queue is cleared, which withdraws every entry's requests,
every quote is voided, the DUE count becomes 0, and the losses are counted (R10, R25, R57). -/
def State.emptyTable (s : State) : State :=
  ((((s.annClear.setTable []).syncDue.countLost s.table.length).voidAll).markDepartures).recomputeList

/-! ### The staleness re-test (R47) -/

/-- The re-test makes an entry STALE. -/
def Entry.goesStale (e : Entry) (b : Battery) (p : ProjParams) (now : Nat) : Bool :=
  match e.report with
  | none => false
  | some r => b.clock == .set && decide (p.stale < r.age now) && e.timeliness != .stale

/-- Re-test the age of every report (R47). -/
def State.retestStale (s : State) (c : Settings) : State :=
  if s.table.any fun e => e.goesStale s.bat c.proj s.nowSec then
    ((s.setTable (s.table.map fun e =>
      if e.goesStale s.bat c.proj s.nowSec then { e with timeliness := .stale } else e)).markDepartures).recomputeList
  else s

/-! ### What a halt second changes on the board (R58) -/

/-- A shown entry whose row depends on the time: a WAITING one whose minutes to go changed, or a flashing DUE one (R58; log 35). -/
def State.rowsMove (s : State) (c : Settings) : Bool :=
  s.table.any fun e =>
    (e.shownOn s.bat c .a || e.shownOn s.bat c .b) &&
    ((e.phase == .waiting && minutesToGo e.exp (e.now s.bat) != minutesToGo e.exp (e.now s.bat - 1)) ||
     (e.phase == .due && e.timeliness != .stale))

end Sys2Proof.Machine
end

