-- ==== Sys2Proof/Machine/Table.lean ====
section
/-! DEFINITION. The departure table's updates: the checks, the six kinds, eviction, and the intake job's answers
(chapter 1: R6 to R20). -/

namespace Sys2Proof.Machine

/-- The service-day check (R12). -/
def dayOk (b : Battery) (tag : Nat) (held : Bool) : Bool :=
  match relationOf b.day tag with
  | .current => true
  | .next => true
  | .previous => held
  | .unheld => false

/-! ### RECORD (R13, R14, R20) -/

/-- The direction an image's code names, once R11 has passed. -/
def directionOf (n : Nat) : Direction := if n = 0 then .up else .down

/-- A new entry with the timetable facts of an image (R13). -/
def newEntry (src : Source) (im : Image) : Entry :=
  { train := im.train, tag := im.tag, dir := directionOf im.direction, sched := im.sched, dest := im.dest,
    calling := im.calling, recovery := im.recovery, noSale := im.noSale, version := im.version, source := src,
    report := none, cancel := none, hm := 0, phase := .waiting, timeliness := .noReport, exp := im.sched,
    dueAnn := false, delayAnn := none }

/-- An entry with its timetable facts replaced (R14). -/
def replaceFacts (e : Entry) (src : Source) (im : Image) : Entry :=
  { e with
    dir := directionOf im.direction, sched := im.sched, dest := im.dest, calling := im.calling,
    recovery := im.recovery, noSale := im.noSale, version := im.version, source := src }

/-- The entry a full table gives up for a newcomer of a relation and S (R20). -/
def evictee (b : Battery) (t : List Entry) (rel : Relation) (sched : Nat) : Option Entry :=
  match t.find? fun e => e.phase == .departed || e.phase == .cancelled with
  | some e => some e
  | none =>
    if rel = .current then
      match (t.filter fun e => e.relation b == .next).getLast? with
      | some e => some e
      | none =>
        ((t.filter fun e => e.relation b == .current && e.phase == .waiting && e.report.isNone).getLast?).filter
          fun e => decide (sched < e.sched)
    else none

/-- Make room for a newcomer: nothing while there is room, an eviction, or none (R20). The destination list is recomputed once, after
the newcomer has entered (log 57). -/
def State.makeRoom (s : State) (rel : Relation) (sched : Nat) : Option State :=
  if s.table.length < Config.tableSize then some s
  else (evictee s.bat s.table rel sched).map fun e => (s.removeEntry e.who).countLost 1

/-- Add an entry to the table and evaluate it (R13). -/
def State.addEntry (s : State) (c : Settings) (e : Entry) : State :=
  let s := (s.setTable (listEntry s.bat s.table e)).markDepartures
  (s.evalEntry c e (e.project false) .plain true).recomputeList

/-- A RECORD on an entry the table holds, judged by version (R14). -/
def State.recordOver (s : State) (c : Settings) (src : Source) (im : Image) (e : Entry) : State × Word :=
  let diff := (im.version + 256 - e.version) % 256
  if diff = 0 then (s, Code.duplicate)
  else if diff ≤ 127 then
    let new := (replaceFacts e src im).project false
    let s := (s.evalEntry c e new .plain true).markDepartures
    let s := if im.noSale then s.voidBound im.who else s
    (s.recomputeList, Code.replaced)
  else (s, Code.staleVersion)

/-- The effect of a RECORD (R13, R14, R20). -/
def State.applyRecord (s : State) (c : Settings) (src : Source) (im : Image) : State × Word :=
  match s.entry? im.who with
  | some e => s.recordOver c src im e
  | none =>
    match s.makeRoom (relationOf s.bat.day im.tag) im.sched with
    | none => (s, Code.tableFull)
    | some s => (s.addEntry c (newEntry src im), Code.added)

/-! ### The other kinds (R15 to R19) -/

/-- The effect of a DELETE (R15). -/
def State.applyDelete (s : State) (im : Image) : State × Word :=
  match s.entry? im.who with
  | none => (s, Code.notFound)
  | some e => ((s.removeEntry e.who).recomputeList, Code.applied)

/-- Evaluate an updated entry, with the sellable-set event when a phase, a timeliness or an E has changed (R58). -/
def State.updateEntry (s : State) (c : Settings) (old cur : Entry) (after : EvalAfter) (stepped : Bool) : State :=
  let new := cur.evaluated s.bat c.proj s.nowSec old after stepped
  let s := s.evalEntry c old cur after stepped
  if old.exp ≠ new.exp ∨ old.timeliness ≠ new.timeliness ∨ old.phase ≠ new.phase then s.recomputeList else s

/-- The effect of a CANCEL (R16). -/
def State.applyCancel (s : State) (c : Settings) (im : Image) : State × Word :=
  match s.entry? im.who with
  | none => (s, Code.notFound)
  | some e =>
    let new := { e with cancel := some im.reason, phase := Phase.cancelled }
    match e.phase with
    | .waiting => (s.updateEntry c e new .plain false, Code.applied)
    | .due => (s.updateEntry c e new .plain false, Code.applied)
    | .cancelled =>
      if e.cancel = some im.reason then (s, Code.duplicate)
      else ((s.updateEntry c e new .plain false).handRequest .cancel e.who, Code.applied)
    | .departed => (s, Code.tooLate)

/-- The effect of a REINSTATE (R17, R48). -/
def State.applyReinstate (s : State) (c : Settings) (im : Image) : State × Word :=
  match s.entry? im.who with
  | none => (s, Code.notFound)
  | some e =>
    if e.phase = .cancelled then
      (s.updateEntry c e { e with cancel := none, phase := Phase.waiting } .reinstate false, Code.applied)
    else (s, Code.duplicate)

/-- The report an image carries, with D clamped and the arrival uptime set (R2, R18). -/
def Image.report (im : Image) (now : Nat) : Report :=
  { delay := max (-900) im.delay, point := im.point, final := im.final, arrival := now }

/-- The effect of a REPORT (R18). -/
def State.applyReport (s : State) (c : Settings) (im : Image) : State × Word :=
  match s.entry? im.who with
  | none => (s, Code.notFound)
  | some e =>
    if e.phase = .departed then (s, Code.tooLate)
    else
      let new := { e with report := some (im.report s.nowSec) }.project e.report.isNone
      (s.updateEntry c e new .report true, Code.applied)

/-- The effect of a DEPARTED update (R19). -/
def State.applyDeparted (s : State) (c : Settings) (im : Image) : State × Word :=
  match s.entry? im.who with
  | none => (s, Code.notFound)
  | some e =>
    match e.phase with
    | .waiting => (s.updateEntry c e { e with phase := Phase.departed } .plain false, Code.applied)
    | .due => (s.updateEntry c e { e with phase := Phase.departed } .plain false, Code.applied)
    | .departed => (s, Code.duplicate)
    | .cancelled => (s, Code.alreadyCancelled)

/-- The application of an image of a known kind: the checks of R11 and R12, then the effect of the kind (R6). -/
def State.applyImage (s : State) (c : Settings) (src : Source) (k : UpdateKind) (im : Image) : State × Word :=
  if ¬ imageFieldsOk c k im then (s, Code.badField)
  else if ¬ dayOk s.bat im.tag (s.entry? im.who).isSome then (s, Code.wrongDay)
  else
    match k with
    | .record => s.applyRecord c src im
    | .delete => s.applyDelete im
    | .cancel => s.applyCancel c im
    | .reinstate => s.applyReinstate c im
    | .report => s.applyReport c im
    | .departed => s.applyDeparted c im

/-! ### The intake job's answers (R7, R8, R203) -/

/-- The entry word of an entry (R8, R203). -/
def entryWord (e : Option Entry) : Word :=
  match e with
  | none => Code.noEntry
  | some e =>
    BitVec.ofNat 16 (e.version * 256 + sourceCode e.source * 128 + e.phase.code * 32 + e.timeliness.code * 8)

/-- The report word of an entry (R8, R203). -/
def reportWord (e : Option Entry) : Word :=
  match e.bind (·.report) with
  | none => Code.noEntry
  | some r => BitVec.ofNat 16 ((if r.final then 32768 else 0) + r.point)

/-- The writes that answer an intake slot: outcome, entry and report word, then the post word (R7, R8). -/
def intakeWrites (w : Windows) (slot : Nat) (outcome entry report post : Word) : List Acc :=
  [⟨w.intakeWord slot 13, outcome, .plain⟩, ⟨w.intakeWord slot 14, entry, .plain⟩,
   ⟨w.intakeWord slot 15, report, .plain⟩, ⟨w.intakeWord slot 0, post, .intakePost slot⟩]

/-- Answer the slot in work after its application (R7, R8). -/
def State.answerIntake (s : State) (c : Settings) (im : Image) (outcome : Word) : State :=
  match s.intake.fifo with
  | [] => s
  | slot :: _ =>
    let e := s.entry? im.who
    s.modIntake fun j =>
      { j with stage := .answering (intakeWrites c.win slot outcome (entryWord e) (reportWord e) Code.done) }

/-- The intake job goes on to the slot at the head of its FIFO: a fetch, or, while a reload is finishing the slots, REFUSED
with RECONFIGURED (R7, R26). While the reload waits for a ticket it goes on with the slots posted before (log 15), and those posted
since wait for that answer (R175); before a first acceptance has started the jobs the slot waits (R197, stage 4; log 14). -/
def State.intakeNext (s : State) : State :=
  match s.cfg, s.intake.fifo with
  | some c, slot :: _ =>
    let refused := IntakeStage.answering (intakeWrites c.win slot Code.reconfigured Code.noEntry Code.noEntry Code.refused)
    let refuse := if s.loader.stage.finishing then s.modIntake fun j => { j with stage := refused } else s
    match s.intake.stage with
    | .idle =>
      if s.loader.stage.finishing then s.modIntake fun j => { j with stage := refused }
      else if s.loader.stage.starting || s.loader.stage.holds slot then s
      else s.modIntake fun j => { j with stage := .fetching [] }
    | .fetching _ => refuse
    | .ready _ => refuse
    | .answering _ => s
  | _, _ => s

/-- The image the intake job has fetched is complete: an image of an unknown kind is applied at once, with BAD_FIELD and no
change (R11; log 20); any other waits for its application. -/
def State.intakeFetched (s : State) (c : Settings) (image : List Word) : State :=
  match imageKind image with
  | none => s.answerIntake c (readImage image) Code.badField
  | some _ => s.modIntake fun j => { j with stage := .ready image }

end Sys2Proof.Machine
end

