-- ==== Sys2Proof/Machine/Clock.lean ====
section
/-! DEFINITION. The halt clock: counting, settings, slew and step, and the change of the day-start hour (chapter 2: R27 to R38);
with the taking and answering of a command of the report block (R190). -/

namespace Sys2Proof.Machine

/-! ### Commands of the report block (R190) -/

/-- The arguments of a command that has been fetched and waits for its owner. -/
def State.commandArgs (s : State) (code : CommandCode) : Option (List Word) :=
  match s.rep.command with
  | .ready k args => if k = code then some args else none
  | _ => none

/-- The owner hands back a command's result: the result word, then the command word, are to be written (R190). -/
def State.answerCommand (s : State) (c : Settings) (post value : Word) : State :=
  s.modRep fun r =>
    { r with command := .answering [⟨c.win.reportWord 13, value, .plain⟩, ⟨c.win.reportWord 4, post, .commandPost⟩] }

/-- The command finishes DONE with a returned value. -/
def State.commandDone (s : State) (c : Settings) (value : Word) : State := s.answerCommand c Code.done value

/-- The command finishes REFUSED with a reason. -/
def State.commandRefused (s : State) (c : Settings) (reason : Word) : State := s.answerCommand c Code.refused reason

/-! ### Counting (R27, R28) -/

/-- Advance civil time by one second; the day number advances when C reaches 3600·H (R28). -/
def Battery.advance (b : Battery) : Battery :=
  let civil := if b.civil + 1 = 86400 then 0 else b.civil + 1
  { b with civil := civil, day := if civil = 3600 * b.hour then b.day + 1 else b.day }

/-- The advance takes the day rollover (R28). -/
def Battery.rolls (b : Battery) : Bool := (if b.civil + 1 = 86400 then 0 else b.civil + 1) == 3600 * b.hour

/-- The prescaler wraps: how the next halt second starts, and the slew remainder moved toward zero (R27). -/
def HaltClock.wrap (k : HaltClock) : HaltClock :=
  if 0 < k.slew then { k with prescaler := 2048, hold := 0, slew := k.slew - 1, early := none }
  else if k.slew < 0 then { k with prescaler := 0, hold := 2048, slew := k.slew + 1, early := none }
  else { k with prescaler := 0, hold := 0, early := none }

/-- The uptime at the last crystal cycle of an uptime second (R29). -/
def HaltClock.backTo (k : HaltClock) (sec : Nat) : HaltClock := { k with upSec := sec, upSub := 1023, upCyc := 31 }

/-- The uptime as another reading gives it. -/
def HaltClock.uptimeOf (k m : HaltClock) : HaltClock := { k with upSec := m.upSec, upSub := m.upSub, upCyc := m.upCyc }

/-- A halt second: the wrap, C, the day rollover, then the evaluations and the retirement test (R22, R27, R28, R58). -/
def State.haltTick (s : State) : State :=
  let rolls := s.bat.rolls
  let s := (s.modBat Battery.advance).modClk HaltClock.wrap
  match s.cfg with
  | none => s
  | some c =>
    let s := if rolls then s.rollTable else s
    let s := if s.bat.civil % 60 = 0 then s.markBoth [0] else s
    let s := s.evalPass c
    if s.rowsMove c then s.markDepartures else s

/-- A halt second as it is taken: one drawn ahead of the uptime second that fell at the same crystal cycle works at the uptime
before that second (R47; log 3). -/
def State.takeHalt (s : State) : State :=
  match s.clk.early with
  | none => s.haltTick
  | some sec => ((s.modClk (·.backTo sec)).haltTick).modClk (·.uptimeOf s.clk)

/-! ### Settings (R33 to R36) -/

/-- The day difference k of a setting, read as a signed value (R33). -/
def Battery.dayDiff (b : Battery) (day : Word) : Int := (day - b.day).toInt

/-- The offset Δ in seconds of a setting (R33). -/
def Battery.offset (b : Battery) (civil : Nat) (day : Word) : Int :=
  86400 * b.dayDiff day + ((serviceSecond civil b.hour : Int) - b.now)

/-- Set the clock at once: C, d, the state SET, the prescaler and the slew remainder cleared, CLOCK raised (R35). -/
def State.setClockNow (s : State) (civil : Nat) (day : Word) : State :=
  ((s.modBat fun b => { b with civil := civil, day := day, clock := .set }).modClk fun k =>
    { k with prescaler := 0, hold := 0, slew := 0 }).raise .clock

/-- How a step reaches the departure side, by its day difference (R35). -/
def State.stepTable (s : State) (c : Settings) (k : Int) : State :=
  if k = 0 then s.evalPass c
  else if k = 1 then s.rollTable.evalPass c
  else s.emptyTable

/-- A step (R35, R36); the composer rebuilds every row (R123). The service second of the new C is the formula's (R28, R33), also for
a time just after the day-start hour with the day before, of which R36 says otherwise: the model's choice (log 79). -/
def State.clockStep (s : State) (c : Settings) (civil : Nat) (day : Word) : State :=
  ((s.setClockNow civil day).stepTable c (s.bat.dayDiff day)).markBoth [0, 1, 2, 3, 4]

/-- A slew: the remainder becomes 16·Δ sixteenths (R34). -/
def State.clockSlew (s : State) (delta : Int) : State := s.modClk fun k => { k with slew := 16 * delta }

/-- The clock takes a setting in range, as a slew or a step (R33). -/
def State.applySetting (s : State) (c : Settings) (civil : Nat) (day : Word) : State :=
  let delta := s.bat.offset civil day
  if s.bat.clock = .set ∧ delta.natAbs ≤ 120 then s.clockSlew delta else s.clockStep c civil day

/-! ### A changed day-start hour (R38) -/

/-- The service day number that re-expresses the present instant for a new day-start hour (R38). -/
def Battery.dayFor (b : Battery) (hour : Nat) : Word :=
  BitVec.ofInt 16 (((86400 * b.day.toNat + b.now : Nat) + 3600 * ((b.hour : Int) - hour)) / 86400)

/-- An accepted descriptor's day-start hour (R38; log 16). -/
def State.changeHour (s : State) (c : Settings) (hour : Nat) : State :=
  if hour = s.bat.hour then s
  else
    let day := s.bat.dayFor hour
    let k := s.bat.dayDiff day
    let civil := s.bat.civil
    let set := s.bat.clock == .set
    let s := s.modBat fun b => { b with hour := hour }
    if set then ((s.setClockNow civil day).stepTable c k).markBoth [0, 1, 2, 3, 4] else s

/-! ### Meanings -/

/-- HALT_SECOND (R28). It is the wrap, whatever the prescaler's count when it is sent (log 52). -/
def execHaltSecond (s : State) : Host.Outcome State Fault Refusal :=
  .next (if s.power.main then s.takeHalt else s)

/-- BACKUP_SECOND (R30): only while main power is absent. It is the end of the divider's second, whatever its count (log 52). -/
def execBackupSecond (s : State) : Host.Outcome State Fault Refusal :=
  .next (if s.power.main then s else s.modBat fun b => { b.advance with divider := 0 })

/-- STALENESS_RETEST (R47). It is not tested for falling at an uptime second (log 52). -/
def execStalenessRetest (s : State) : Host.Outcome State Fault Refusal :=
  .next
    (match s.cfg with
    | some c => s.retestStale c
    | none => s)

/-- SET_CLOCK (R33, R37): the fetched command is refused for authority or range, or applied. -/
def execSetClock (s : State) : Host.Outcome State Fault Refusal :=
  .next
    (match s.cfg, s.commandArgs .setClock with
    | some c, some args =>
      let civil := pairVal (args.getD 0 0) (args.getD 1 0)
      if c.link.authority ∧ s.link.state = .up then s.commandRefused c Code.authority
      else if 86399 < civil then s.commandRefused c Code.badField
      else (s.applySetting c civil (args.getD 2 0)).commandDone c 0
    | _, _ => s)

end Sys2Proof.Machine
end

