-- ==== Sys2Proof/Machine/Issue.lean ====
section
/-! DEFINITION. The issue unit: QUOTE, ISSUE, the commit, RELEASE, the lapse of quotes, and the journal's indices and entry
states (chapter 4: R60 to R85). -/

namespace Sys2Proof.Machine

/-! ### The slot in work (R60, R61) -/

/-- Queue the writes that answer the slot at the head of the FIFO (R60). -/
def State.answerSale (s : State) (c : Settings) (results : List (Nat × Word)) (post : Word) : State :=
  match s.issue.fifo with
  | [] => s
  | slot :: _ =>
    (s.issueWrites ((results.map fun r => ⟨c.win.saleWord slot r.1, r.2, .plain⟩) ++
      [⟨c.win.saleWord slot 0, post, .salePost slot⟩])).modIssue fun u => { u with stage := .answering }

/-- Answer REFUSED with a reason; the slot's record becomes NONE (R60, R64, R74, R85). -/
def State.refuseSale (s : State) (c : Settings) (reason : Word) : State :=
  match s.issue.fifo with
  | [] => s
  | slot :: _ => (s.setRecord slot .empty).answerSale c [(8, reason)] Code.refused

/-- The issue unit goes on to the slot at the head of its FIFO: a fetch, or, while a reload is finishing the slots, REFUSED
with RECONFIGURED (R61, R85); before a first acceptance has started the jobs the slot waits (R197, stage 4; log 14). -/
def State.issueNext (s : State) : State :=
  match s.cfg, s.issue.fifo with
  | some c, _ :: _ =>
    match s.issue.stage with
    | .idle =>
      if s.loader.stage.finishing then s.refuseSale c Code.reconfigured
      else if s.loader.stage.starting then s
      else s.modIssue fun u => { u with stage := .fetching [] }
    | .fetching _ => if s.loader.stage.finishing then s.refuseSale c Code.reconfigured else s
    | .ready _ => if s.loader.stage.finishing then s.refuseSale c Code.reconfigured else s
    | .answering => s
    | .ticket _ => s
  | _, _ => s

/-- The slot at the head of the FIFO whose fetched request has a given code, with the words fetched (R61). -/
def State.saleReady (s : State) (code : SaleCode) : Option (Nat × List Word) :=
  match s.issue.fifo, s.issue.stage with
  | slot :: _, .ready req => if s.path.sale.getD slot .clear = .post code then some (slot, req) else none
  | _, _ => none

/-! ### QUOTE (R64, R65, R69, R70) -/

/-- The counts of a request word (R203). -/
def readCounts (w : Word) : Counts := { adults := bits w 8 4, conc := bits w 4 4, children := bits w 0 4 }

/-- The product, counts and destination of a request are in range (R64, test 2). -/
def quoteFieldsOk (c : Settings) (p : Option Product) (n : Counts) (dest : Nat) : Bool :=
  p.isSome && decide (n.adults ≤ 9) && decide (n.conc ≤ 9) && decide (n.children ≤ 9) && decide (dest ≤ 63) && c.present dest

/-- Binding of a request: the entry a SINGLE or RETURN is sold for, none for a DAY, or the reason it fails (R65). -/
def State.bindFor (s : State) (c : Settings) (p : Product) (dest train : Nat) : Except Word (Option Entry) :=
  match p with
  | .day => if s.anySellable c then .ok none else .error Code.noService
  | .single | .ret =>
    match s.bind? c dest train with
    | some e => .ok (some e)
    | none => .error (if train = 0 then Code.noService else Code.trainNotSellable)

/-- The tests of R64 in order, and the quote of a request that passes them. -/
def State.quoteDecision (s : State) (c : Settings) (req : List Word) : Except Word Quote :=
  let p? := productOf (req.getD 0 0).toNat
  let n := readCounts (req.getD 1 0)
  let dest := (req.getD 2 0).toNat
  if s.bat.clock = .unset then .error Code.clockUnset
  else if ¬ quoteFieldsOk c p? n dest then .error Code.badField
  else if n.total = 0 then .error Code.noPassenger
  else if 9 < n.total then .error Code.tooMany
  else if dest = c.fare.halt then .error Code.sameStop
  else if s.bat.freeEntries = 0 then .error Code.journalFull
  else
    let p := p?.getD .single
    match s.bindFor c p dest (req.getD 3 0).toNat with
    | .error r => .error r
    | .ok e =>
      let ref := match e with
        | some e => e.sched
        | none => s.bat.now
      let fare := c.totalFare dest p ref n
      if ¬ s.bat.couldCommit p fare then .error Code.totalFull
      else
        .ok { product := p, counts := n, dest := dest, bound := e.map Entry.who, fare := fare,
              validity := validityEnd s.bat c p e, expiry := s.nowSec + c.fare.quoteLife }

/-- The result words of a fare, bound train and validity end, and the reason word "none", in the order in which R60's table names them,
so the reason word comes last: the model's choice of order (R60, R203; log 87). -/
def saleResults (fare train validity : Nat) : List (Nat × Word) :=
  [(9, highWord fare), (10, lowWord fare), (11, BitVec.ofNat 16 train), (12, highWord validity), (13, lowWord validity),
   (8, Code.noReason)]

/-- The train number a quote or ticket shows: 0 for DAY (R70). -/
def boundTrain (b : Option TrainId) : Nat :=
  match b with
  | some who => who.train
  | none => 0

/-- A fetched QUOTE (R64, R70). -/
def State.takeQuote (s : State) (c : Settings) (slot : Nat) (req : List Word) : State :=
  let s := s.setRecord slot .empty
  match s.quoteDecision c req with
  | .error r => s.refuseSale c r
  | .ok q =>
    (s.setRecord slot (.live q)).answerSale c (saleResults q.fare (boundTrain q.bound) q.validity) Code.quoted

/-! ### ISSUE and the commit (R74 to R76) -/

/-- The entry of a quote is present, sellable and serves the quote's destination; for DAY some sellable departure exists (R74). -/
def State.quoteStands (s : State) (c : Settings) (q : Quote) : Bool :=
  match q.bound with
  | none => s.anySellable c
  | some who =>
    match s.entry? who with
    | some e => e.sellable s.bat c && e.serves q.dest
    | none => false

/-- The tests of the issue check in order (R74): the quote that passes, or the reason. -/
def State.issueCheck (s : State) (c : Settings) (slot : Nat) : Except Word Quote :=
  if s.bat.clock = .unset then .error Code.clockUnset
  else
    match s.issue.record slot with
    | .empty => .error Code.notQuoted
    | .voided _ .departureGone => .error Code.departureGone
    | .voided _ .none => .error Code.notQuoted
    | .voided _ .reconfigured => .error Code.notQuoted
    | .live q =>
      if ¬ s.quoteStands c q then .error Code.departureGone
      else if s.bat.freeEntries = 0 then .error Code.journalFull
      else if ¬ s.bat.couldCommit q.product q.fare then .error Code.totalFull
      else .ok q

/-- The ticket of a passed check: validity recomputed for a SINGLE against the E held now (R74). -/
def State.ticketOf (s : State) (c : Settings) (q : Quote) : Ticket :=
  let validity :=
    match q.product with
    | .single => validityEnd s.bat c .single (q.bound.bind s.entry?)
    | .ret => q.validity
    | .day => q.validity
  { product := q.product, counts := q.counts, dest := q.dest, train := boundTrain q.bound, fare := q.fare,
    validity := validity, day := s.bat.day, second := s.bat.now }

/-- The counts as sale slot word 2 lays them out (R203). -/
def Counts.word (n : Counts) : Nat := n.adults * 256 + n.conc * 16 + n.children

/-- The 12 checked words of a journal entry (R75, R203). -/
def Ticket.words (t : Ticket) (serial halt : Nat) : List Word :=
  [highWord serial, lowWord serial, t.day, highWord t.second, lowWord t.second,
   BitVec.ofNat 16 (t.product.code * 4096 + t.counts.word), BitVec.ofNat 16 (t.dest * 256 + halt), BitVec.ofNat 16 t.train,
   highWord t.validity, lowWord t.validity, highWord t.fare, lowWord t.fare]

/-- The writes of a ticket: 13 ticket words in address order, then the state word UNSENT (R75). -/
def ticketWrites (g : Geometry) (index : Nat) (ws : List Word) : List Acc :=
  ((ws ++ [crcWords ws]).zipIdx.map fun p => ⟨g.entryWord index p.2, p.1, .plain⟩) ++
    [⟨g.entryWord index 13, Code.unsent, .journalState⟩]

/-- A fetched ISSUE: the issue check, and on a pass the ticket's writes (R74, R75). -/
def State.takeIssue (s : State) (c : Settings) (slot : Nat) : State :=
  match s.issueCheck c slot, s.bat.geometry with
  | .ok q, some g =>
    let t := s.ticketOf c q
    ((s.setRecord slot .empty).issueWrites (ticketWrites g s.bat.write (t.words s.bat.nextSerial c.fare.halt))).modIssue
      fun u => { u with stage := .ticket t }
  | .ok _, none => s.refuseSale c Code.journalFull
  | .error r, _ => s.refuseSale c r

/-- Add a fare to a product's fiscal record (R76). -/
def Battery.addSale (b : Battery) (p : Product) (fare : Nat) : Battery :=
  match p with
  | .single => { b with single := ⟨b.single.count + 1, b.single.cents + fare⟩ }
  | .ret => { b with ret := ⟨b.ret.count + 1, b.ret.cents + fare⟩ }
  | .day => { b with dayTicket := ⟨b.dayTicket.count + 1, b.dayTicket.cents + fare⟩ }

/-- The battery domain after a commit (R76). -/
def Battery.commit (b : Battery) (g : Geometry) (t : Ticket) : Battery :=
  let b := b.addSale t.product t.fare
  { b with nextSerial := b.nextSerial + 1, write := (b.write + 1) % (2 * g.size) }

/-- The 16 words of the fiscal mirror (R83, R203). -/
def Battery.mirror (b : Battery) : List Word :=
  ([b.single, b.ret, b.dayTicket].flatMap fun f =>
    [highWord f.count, lowWord f.count, highWord f.cents, lowWord f.cents]) ++
  [highWord b.nextSerial, lowWord b.nextSerial, BitVec.ofNat 16 b.write, BitVec.ofNat 16 b.confirm]

/-- Rewrite the fiscal mirror in ascending address order, with the values as they stand when the rewrite is queued (R83; log 55). -/
def State.writeMirror (s : State) : State :=
  match s.bat.geometry with
  | some g => s.issueWrites (s.bat.mirror.zipIdx.map fun p => ⟨g.base + p.2, p.1, .plain⟩)
  | none => s

/-- Raise JOURNAL_LOW when free entries have fallen from floor(J/8) or more to below it (R80). -/
def State.testLow (s : State) (g : Geometry) (before : Nat) : State :=
  if g.size / 8 ≤ before ∧ s.bat.freeEntries < g.size / 8 then s.raise .journalLow else s

/-- The commit of the ticket in work: the battery domain in one event, then the mirror, JOURNAL_LOW and ISSUED (R76). -/
def State.commitTicket (s : State) : State :=
  match s.cfg, s.bat.geometry, s.issue.stage with
  | some c, some g, .ticket t =>
    let serial := s.bat.nextSerial
    let before := s.bat.freeEntries
    let s := ((s.modBat fun b => b.commit g t).writeMirror).testLow g before
    s.answerSale c ([(14, highWord serial), (15, lowWord serial)] ++ saleResults t.fare t.train t.validity) Code.issued
  | _, _, _ => s

/-! ### RELEASE and the lapse (R71, R78) -/

/-- A fetched RELEASE (R78). -/
def State.takeRelease (s : State) (c : Settings) (slot : Nat) : State :=
  (s.setRecord slot .empty).answerSale c [(8, Code.noReason)] Code.empty

/-- A LIVE quote on an idle slot has reached its expiry uptime (R71). -/
def State.lapses (s : State) (slot : Nat) : Bool :=
  match s.issue.record slot with
  | .live q => s.saleIdle slot && decide (q.expiry ≤ s.nowSec)
  | .voided _ _ => false
  | .empty => false

/-! ### Journal indices and entry states (R79 to R84) -/

/-- `n` journal indices from `i` on, modulo 2J (R79). -/
def Geometry.indices (g : Geometry) (i n : Nat) : List Nat := (List.range n).map fun k => (i + k) % (2 * g.size)

/-- Rewrite the state words of entries, in the order of the list: from the oldest on in every use (R80 to R82; log 71). -/
def State.writeStates (s : State) (g : Geometry) (is : List Nat) (v : Word) : State :=
  s.issueWrites (is.map fun i => ⟨g.entryWord i 13, v, .plain⟩)

/-- The ring distance from `a` to `b` (R79). -/
def Geometry.span (g : Geometry) (a b : Nat) : Nat := (b + 2 * g.size - a) % (2 * g.size)

/-- Hand up to four entries for sending: their state words are rewritten SENT and the send index passes them (R81). -/
def State.takeForSending (s : State) (g : Geometry) : List Nat × State :=
  let n := min 4 (g.span s.bat.send s.bat.write)
  let is := g.indices s.bat.send n
  (is, (s.writeStates g is Code.sent).modBat fun b => { b with send := (b.send + n) % (2 * g.size) })

/-- The revert at LOST: the send index returns to the confirm index and the entries between become UNSENT (R81). -/
def State.revertSent (s : State) : State :=
  match s.bat.geometry with
  | some g =>
    (s.writeStates g (g.indices s.bat.confirm (g.span s.bat.confirm s.bat.send)) Code.unsent).modBat fun b =>
      { b with send := b.confirm }
  | none => s

/-- Every unconfirmed entry is rewritten UNSENT, at the first accepted descriptor (R81). -/
def State.rewriteUnsent (s : State) : State :=
  match s.bat.geometry with
  | some g => s.writeStates g (g.indices s.bat.confirm (g.span s.bat.confirm s.bat.write)) Code.unsent
  | none => s

/-- How many entries a confirm of a serial covers (R82). -/
def Battery.confirmCount (b : Battery) (g : Geometry) (serial : Nat) : Nat :=
  let o := b.nextSerial - b.unconfirmed
  let sent := g.span b.confirm b.send
  if sent = 0 ∨ serial < o then 0 else min serial (o + sent - 1) - o + 1

/-- A JOURNAL_CONFIRM of a serial (R82). -/
def State.confirmSerial (s : State) (serial : Nat) : State :=
  match s.bat.geometry with
  | none => s
  | some g =>
    let n := s.bat.confirmCount g serial
    if n = 0 then s
    else
      ((s.writeStates g (g.indices s.bat.confirm n) Code.confirmed).modBat fun b =>
        { b with confirm := (b.confirm + n) % (2 * g.size) }).writeMirror

/-- An accepted descriptor's journal geometry: recorded, or replaced with every index 0; the mirror is rewritten (R83, R84). -/
def State.takeGeometry (s : State) (c : Settings) : State :=
  if s.bat.geometry = some c.geometry then s
  else s.modBat fun b => { b with geometry := some c.geometry, write := 0, send := 0, confirm := 0 }

/-- JOURNAL_LOW at an acceptance (R80). -/
def State.lowAtAcceptance (s : State) : State :=
  match s.bat.geometry with
  | some g => if s.bat.freeEntries < g.size / 8 then s.raise .journalLow else s
  | none => s

/-! ### Meanings -/

/-- QUOTE: the fetched QUOTE at the head of the sale FIFO (R64). -/
def execQuote (s : State) : Host.Outcome State Fault Refusal :=
  .next
    (match s.cfg, s.saleReady .quote with
    | some c, some (slot, req) => s.takeQuote c slot req
    | _, _ => s)

/-- ISSUE: the fetched ISSUE at the head of the sale FIFO (R74). -/
def execIssue (s : State) : Host.Outcome State Fault Refusal :=
  .next
    (match s.cfg, s.saleReady .issue with
    | some c, some (slot, _) => s.takeIssue c slot
    | _, _ => s)

/-- RELEASE: the fetched RELEASE at the head of the sale FIFO (R78). -/
def execRelease (s : State) : Host.Outcome State Fault Refusal :=
  .next
    (match s.cfg, s.saleReady .release with
    | some c, some (slot, _) => s.takeRelease c slot
    | _, _ => s)

/-- QUOTE_LAPSE (R71). -/
def execQuoteLapse (slot : Fin 4) (s : State) : Host.Outcome State Fault Refusal :=
  .next (if s.lapses slot.val then s.voidSlot slot.val .none else s)

end Sys2Proof.Machine
end

