-- ==== Sys2Proof/Machine/Panel.lean ====
section
/-! DEFINITION. The panel unit: channels, calibration, filters, thresholds, rain, slider, gestures and the sample round
(chapter 5: R86 to R99), with the commands and deadlines of chapter 5. -/

namespace Sys2Proof.Machine

/-! ### Channels (R86, R88, R92) -/

/-- The record of a channel. -/
def State.chan (s : State) (ch : Nat) : Channel := s.panel.chans.getD ch Channel.initial

/-- Put a channel record in place. -/
def State.setChan (s : State) (ch : Nat) (c : Channel) : State :=
  s.modPanel fun p => { p with chans := p.chans.set ch c }

/-- Threshold of a channel (R86). -/
def PanelParams.threshold (p : PanelParams) (ch : Nat) : Nat := if ch = 0 then p.prox else if ch = 7 then p.wet else p.touch

/-- Count `n` panel faults and raise PANEL_FAULT. -/
def State.panelFault (s : State) : State := (s.count .panelFault 1).raise .panelFault

/-- A channel at the start of its calibration (R88). -/
def Channel.calibrating (c : Channel) : Channel :=
  { c with state := .calibrating, gain := 0, calStep := 0, debounce := 0 }

/-- A count lies within floor(target/8) of the calibration target (R88, R92). -/
def inBand (target : Nat) (count : Int) : Bool := decide ((count - target).natAbs ≤ target / 8)

/-- A channel with its baseline set to its filtered count (R92). -/
def Channel.reseeded (c : Channel) : Channel := { c with baseline := c.filtered, delta := 0 }

/-- Reseed a channel, with the band check (R92). -/
def State.reseedChan (s : State) (p : PanelParams) (ch : Nat) : State :=
  let c := (s.chan ch).reseeded
  s.setChan ch (if inBand p.target (c.filtered.tdiv 16) then c else c.calibrating)

/-- WET has ended: every channel among 1..6 that is IDLE is reseeded (R95). -/
def State.wetEnd (s : State) (p : PanelParams) : State :=
  [1, 2, 3, 4, 5, 6].foldl (fun s ch => if (s.chan ch).state = .idle then s.reseedChan p ch else s) s

/-! ### Releases outside a round (R88, R91 to R93, R95, R97, R98) -/

/-- Any of channels 1..4 is in TOUCH (R96). -/
def State.sliderTouched (s : State) : Bool := [1, 2, 3, 4].any s.panel.chanActive

/-- Clear the gesture tracker (R97). -/
def State.clearTracker (s : State) : State := s.modPanel fun p => { p with tracker := none, touched := false }

/-- Take a channel out of ACTIVE. -/
def Channel.released (c : Channel) : Channel := { c with state := .idle, debounce := 0 }

/-- Release an ACTIVE channel for a cause other than its delta: ABSENCE for the plate, the end of WET for the rain reference,
and no gesture when the slider is left (R88, R92, R93, R95, R97, R98). -/
def State.releaseChan (s : State) (p : PanelParams) (ch : Nat) : State :=
  let s := s.setChan ch (s.chan ch).released
  if ch = 0 then s.selEvent .absence
  else if ch = 7 then s.wetEnd p
  else if ch ≤ 4 ∧ ¬ s.sliderTouched then s.clearTracker
  else s

/-- Start the calibration of a channel, released first when it is ACTIVE (R88). -/
def State.startCal (s : State) (p : PanelParams) (ch : Nat) : State :=
  let s := if (s.chan ch).state = .active then s.releaseChan p ch else s
  s.setChan ch (s.chan ch).calibrating

/-- The channels a mask names. -/
def maskChans (m : Nat) : List Nat := (List.range 8).filter fun ch => m.testBit ch

/-! ### Filters and calibration steps (R87, R88, R90) -/

/-- A raw count as the unit takes it (R87). -/
def clampCount (r : Nat) : Nat := min r 4095

/-- The baseline shift of a mode (R90). -/
def PanelParams.shift (p : PanelParams) : Mode → Nat
  | .active => p.shiftActive
  | .quiet => p.shiftQuiet
  | .dormant => p.shiftQuiet

/-- The filters of an IDLE or ACTIVE channel (R90). -/
def Channel.filter (c : Channel) (p : PanelParams) (m : Mode) (r : Nat) : Channel :=
  let f := c.filtered + (16 * (r : Int) - c.filtered) / 2 ^ p.filter
  let b := if c.state = .idle then c.baseline + (f - c.baseline) / 2 ^ p.shift m else c.baseline
  { c with filtered := f, baseline := b, delta := (b - f).tdiv 16 }

/-- A gain bit is tried and kept or cleared (R88, item 1). -/
def Channel.tryBit (c : Channel) (p : PanelParams) (r : Nat) : Channel :=
  { c with gain := if r ≤ p.target then c.gain + 2 ^ (5 - c.calStep) else c.gain, calStep := c.calStep + 1 }

/-- The seventh sample ends a calibration (R88, item 2). -/
def Channel.finalSample (c : Channel) (p : PanelParams) (r : Nat) : Channel :=
  if inBand p.target r then { c with state := .idle, filtered := 16 * r, baseline := 16 * r, delta := 0, debounce := 0 }
  else { c with state := .failed, debounce := 0 }

/-- A sample of a channel: a filter step or a calibration step (R88, R90). -/
def State.sampleChan (s : State) (p : PanelParams) (ch r : Nat) : State :=
  let c := s.chan ch
  match c.state with
  | .idle => s.setChan ch (c.filter p s.act.mode r)
  | .active => s.setChan ch (c.filter p s.act.mode r)
  | .calibrating =>
    if c.calStep < 6 then s.setChan ch (c.tryBit p r)
    else
      let s := s.setChan ch (c.finalSample p r)
      if inBand p.target r then s else s.panelFault
  | .uncalibrated => s
  | .failed => s

/-! ### Thresholds (R91, R94, R95) -/

/-- What a threshold test makes of a channel's state. -/
inductive Edge
  | none
  | enter
  | leave
deriving DecidableEq, Repr

/-- The debounced threshold test of R91, at an uptime in sub-ticks. -/
def Channel.test (c : Channel) (p : PanelParams) (ch now : Nat) : Channel × Edge :=
  let t := p.threshold ch
  match c.state with
  | .idle =>
    if (t : Int) ≤ c.delta then
      if p.debounce ≤ c.debounce + 1 then ({ c with state := .active, debounce := 0, onset := some now }, .enter)
      else ({ c with debounce := c.debounce + 1 }, .none)
    else ({ c with debounce := 0 }, .none)
  | .active =>
    if c.delta < (t : Int) - (t / 4 : Nat) then
      if p.debounce ≤ c.debounce + 1 then (c.released, .leave) else ({ c with debounce := c.debounce + 1 }, .none)
    else ({ c with debounce := 0 }, .none)
  | .uncalibrated => (c, .none)
  | .calibrating => (c, .none)
  | .failed => (c, .none)

/-- Channel 7 enters WET: channels 1..6 in TOUCH are released BLOCKED, their debounce counters and the tracker are cleared (R94). -/
def State.block (s : State) : State :=
  ([1, 2, 3, 4, 5, 6].foldl
    (fun s ch =>
      let c := s.chan ch
      s.setChan ch (if c.state = .active then c.released else { c with debounce := 0 }))
    s).clearTracker

/-- Channel 7's thresholds, with the blocking or the release that goes with a change (R99, step 2). -/
def State.testRain (s : State) (p : PanelParams) : State :=
  let r := (s.chan 7).test p 7 s.nowSub
  let s := s.setChan 7 r.1
  match r.2 with
  | .enter => s.block
  | .leave => s.wetEnd p
  | .none => s

/-- The thresholds of one of channels 0..6; while WET, channels 1..6 take no entry (R91, R94). -/
def State.testChan (s : State) (p : PanelParams) (ch : Nat) : State × Edge :=
  if ch ≠ 0 ∧ s.wet then (s.setChan ch { s.chan ch with debounce := 0 }, .none)
  else
    let r := (s.chan ch).test p ch s.nowSub
    (s.setChan ch r.1, r.2)

/-- The thresholds of some channels in order, with the edges found (R99, step 3). -/
def State.testChans (s : State) (p : PanelParams) : List Nat → State × List (Nat × Edge)
  | [] => (s, [])
  | ch :: rest =>
    let r := s.testChan p ch
    let t := r.1.testChans p rest
    (t.1, (ch, r.2) :: t.2)

/-! ### Slider and gestures (R96, R97) -/

/-- The part of a slider channel's delta that counts toward the position (R86, R96). -/
def State.sliderDelta (s : State) (ch : Nat) : Nat :=
  let c := s.chan ch
  if c.state = .idle ∨ c.state = .active then c.delta.toNat else 0

/-- The slider position from four deltas, the last one when their sum is 0 (R96). -/
def sliderPos (d1 d2 d3 d4 last : Nat) : Nat :=
  let sum := d1 + d2 + d3 + d4
  if sum = 0 then last else (2 * (85 * d2 + 170 * d3 + 255 * d4) + sum) / (2 * sum)

/-- An elapsed time in sub-ticks exceeds a limit in milliseconds (R97); the time elapsed since an instant above the present uptime is
taken as 0 by every caller (log 86). -/
def exceeds (elapsed limit : Nat) : Bool := decide (limit * 1024 < elapsed * 1000)

/-- Distance of two positions. -/
def posDiff (x y : Nat) : Nat := ((x : Int) - y).natAbs

/-- Steps 2 and 3 of R97: a swipe, a slow drag, or neither. -/
def Tracker.drag (t : Tracker) (p : PanelParams) (pos now : Nat) : Tracker × List SelEvent :=
  let late := exceeds (now - t.startAt) p.swipe
  if p.distance ≤ posDiff pos t.startPos ∧ ¬ late then
    ({ t with startPos := pos, startAt := now, swiped := true }, [if t.startPos < pos then .swipeFwd else .swipeBack])
  else if late then ({ t with startPos := pos, startAt := now }, [])
  else (t, [])

/-- Step 4 of R97. -/
def Tracker.hold (t : Tracker) (p : PanelParams) (now : Nat) : Tracker × List SelEvent :=
  if exceeds (now - t.onsetAt) (max p.tap p.swipe) ∧ ¬ t.swiped ∧ ¬ t.held then ({ t with held := true }, [.hold])
  else (t, [])

/-- Step 5 of R97, for a release with cause NORMAL. -/
def Tracker.release (t : Tracker) (p : PanelParams) (pos now : Nat) : List SelEvent :=
  if ¬ exceeds (now - t.onsetAt) p.tap ∧ ¬ t.swiped ∧ 2 * posDiff pos t.onsetPos < p.distance then [.tap] else []

/-- The slider position and the gesture tracker in a round that samples the slider (R96, R97; R99, step 4). -/
def State.slide (s : State) (p : PanelParams) : State × List SelEvent :=
  let now := s.nowSub
  if s.sliderTouched then
    let pos := sliderPos (s.sliderDelta 1) (s.sliderDelta 2) (s.sliderDelta 3) (s.sliderDelta 4) s.panel.pos
    match s.panel.touched, s.panel.tracker with
    | false, _ =>
      (s.modPanel fun q =>
        { q with pos := pos, touched := true
                 tracker := some { onsetPos := pos, onsetAt := now, startPos := pos, startAt := now, swiped := false, held := false } },
       [])
    | true, some t =>
      let d := t.drag p pos now
      let h := d.1.hold p now
      (s.modPanel fun q => { q with pos := pos, tracker := some h.1 }, d.2 ++ h.2)
    | true, none => (s.modPanel fun q => { q with pos := pos }, [])
  else
    match s.panel.tracker with
    | some t => (s.clearTracker, if s.panel.touched then t.release p s.panel.pos now else [])
    | none => (s.clearTracker, [])

/-! ### The round (R87, R99) -/

/-- The round period of a mode in sub-ticks (R87). -/
def Mode.period : Mode → Nat
  | .active => 20
  | .quiet => 102
  | .dormant => 256

/-- The next round is due: the first at once, each other one period after the start of the last (R87). -/
def State.roundDue (s : State) : Bool :=
  match s.panel.lastRound with
  | none => true
  | some t => decide (t + s.act.mode.period ≤ s.nowSub)

/-- The round samples all eight channels (R87). -/
def State.fullRound (s : State) : Bool := s.act.mode != .dormant || s.panel.roundNo % 8 == 0

/-- Note the start of a round and, in DORMANT, its number (R87). -/
def State.noteRound (s : State) : State :=
  let n := if s.act.mode = .dormant then s.panel.roundNo + 1 else s.panel.roundNo
  s.modPanel fun p => { p with lastRound := some s.nowSub, roundNo := n }

/-- The events of the plate in a round's edges (R98). -/
def presenceEvents (es : List (Nat × Edge)) : List SelEvent :=
  es.filterMap fun e =>
    match e with
    | (0, .enter) => some .presence
    | (0, .leave) => some .absence
    | (_, _) => none

/-- A key's PRESS among a round's edges (R98). -/
def keyEvents (es : List (Nat × Edge)) (ch : Nat) (ev : SelEvent) : List SelEvent :=
  if es.contains (ch, .enter) then [ev] else []

/-- One activity event for each onset (R98). -/
def State.onsets (s : State) (es : List (Nat × Edge)) : State :=
  es.foldl (fun s e => if e.2 = .enter then s.activityEvent else s) s

/-- The calibrations a CALIBRATE named have all ended: it finishes DONE with the mask of those that failed (R89). -/
def State.finishCal (s : State) (c : Settings) : State :=
  match s.panel.calMask, s.rep.command with
  | some m, .owned .calibrate =>
    if (maskChans m).any fun ch => (s.chan ch).state == .calibrating then s
    else
      let failed := (maskChans m).filter fun ch => (s.chan ch).state == .failed
      (s.modPanel fun p => { p with calMask := none }).commandDone c
        (BitVec.ofNat 16 (failed.foldl (fun n ch => n + 2 ^ ch) 0))
  | _, _ => s

/-- Steps 1 to 4 of R99: samples, rain, thresholds, slider; with the edges and the gestures. -/
def State.senseRound (s : State) (p : PanelParams) (counts : List Nat) : State × List (Nat × Edge) × List SelEvent :=
  let full := s.fullRound
  let chans := if full then [0, 1, 2, 3, 4, 5, 6, 7] else [0]
  let s := chans.foldl (fun s ch => s.sampleChan p ch (clampCount (counts.getD ch 0))) s.noteRound
  let s := if full then s.testRain p else s
  let t := s.testChans p (if full then [0, 1, 2, 3, 4, 5, 6] else [0])
  let g := if full then t.1.slide p else (t.1, [])
  (g.1, t.2, g.2)

/-- A sample round (R99); a CALIBRATE in work is tested for its end after the whole round (log 56). -/
def State.round (s : State) (c : Settings) (counts : List Nat) : State :=
  let r := s.senseRound c.panel counts
  let s := r.1.onsets r.2.1
  let events := presenceEvents r.2.1 ++ r.2.2 ++ keyEvents r.2.1 5 .ok ++ keyEvents r.2.1 6 .back
  ((events.foldl State.selEvent s).syncLeave false).finishCal c

/-! ### Stuck channels and commands (R89, R92, R93) -/

/-- A channel is ACTIVE and its uptime has passed its onset by more than the stuck timeout (R93). -/
def State.stuck (s : State) (p : PanelParams) (ch : Nat) : Bool :=
  let c := s.chan ch
  c.state == .active && p.stuck != 255 &&
  match c.onset with
  | some t => decide (t + 1024 * p.stuck < s.nowSub)
  | none => false

/-- A stuck channel is released and reseeded (R93). -/
def State.releaseStuck (s : State) (c : Settings) (ch : Nat) : State :=
  (((s.releaseChan c.panel ch).reseedChan c.panel ch).panelFault).syncLeave false

/-- The mask of a CALIBRATE or RESEED is acceptable (R89, R92). -/
def maskOk (m : Nat) : Bool := decide (0 < m) && decide (m < 256)

/-- Reseed the channels a RESEED names (R92). -/
def State.reseedMask (s : State) (p : PanelParams) (m : Nat) : State :=
  (maskChans m).foldl
    (fun s ch =>
      match (s.chan ch).state with
      | .idle => s.reseedChan p ch
      | .active => (s.releaseChan p ch).reseedChan p ch
      | .uncalibrated => s
      | .calibrating => s
      | .failed => s)
    s

/-- The panel unit holds a command of the report block until it finishes. -/
def State.ownCommand (s : State) (code : CommandCode) : State := s.modRep fun r => { r with command := .owned code }

/-! ### Meanings -/

/-- SAMPLE_ROUND (R87, R99): raw counts of the eight channels; a round before its time is not one. -/
def execSampleRound (counts : List Nat) (s : State) : Host.Outcome State Fault Refusal :=
  .next
    (match s.cfg with
    | some c => if s.roundDue ∧ ¬ s.loader.stage.starting then s.round c counts else s
    | none => s)

/-- STUCK_TIMEOUT (R93). It is tested for its timeout, not for falling at an uptime second (log 52). -/
def execStuckTimeout (channel : Fin 8) (s : State) : Host.Outcome State Fault Refusal :=
  .next
    (match s.cfg with
    | some c => if s.stuck c.panel channel.val then s.releaseStuck c channel.val else s
    | none => s)

/-- CALIBRATE (R89). The named channels are taken in ascending order, the model's choice (log 83). -/
def execCalibrate (s : State) : Host.Outcome State Fault Refusal :=
  .next
    (match s.cfg, s.commandArgs .calibrate with
    | some c, some args =>
      let m := (args.getD 0 0).toNat
      if maskOk m then
        (((maskChans m).foldl (fun s ch => s.startCal c.panel ch) (s.ownCommand .calibrate)).modPanel
          fun p => { p with calMask := some m }).syncLeave false
      else s.commandRefused c Code.badField
    | _, _ => s)

/-- RESEED (R92). -/
def execReseed (s : State) : Host.Outcome State Fault Refusal :=
  .next
    (match s.cfg, s.commandArgs .reseed with
    | some c, some args =>
      let m := (args.getD 0 0).toNat
      if maskOk m then ((s.reseedMask c.panel m).syncLeave false).commandDone c 0 else s.commandRefused c Code.badField
    | _, _ => s)

/-- SELECTION_DONE (R106). -/
def execSelectionDone (s : State) : Host.Outcome State Fault Refusal :=
  .next
    (match s.cfg, s.commandArgs .selectionDone with
    | some c, some _ => if s.sel.state = .handed then s.selDone.commandDone c 0 else s.commandRefused c Code.notHanded
    | _, _ => s)

/-- LEAVE_DEADLINE (R107). -/
def execLeaveDeadline (s : State) : Host.Outcome State Fault Refusal :=
  .next (if s.reached s.sel.leave then s.selLeave else s)

/-- HANDED_DEADLINE (R106). -/
def execHandedDeadline (s : State) : Host.Outcome State Fault Refusal :=
  .next (if s.sel.state = .handed ∧ s.reached s.sel.handed then s.selTimeout else s)

end Sys2Proof.Machine
end

