-- ==== Sys2Proof/Machine/Compose.lean ====
section
/-! DEFINITION. The composer: the rows, their builds, the notices, the scroll and the renders (chapter 6: R112 to R128). -/

namespace Sys2Proof.Machine

/-! ### Texts (R112 to R122) -/

/-- The clock text of a service second (R114). -/
def serviceText (hour t : Nat) : List Nat := clockText (civilOf hour t)

/-- The header's clock text, "--:--" while UNSET (R112). -/
def headerClock (b : Battery) : List Nat := if b.clock = .set then clockText b.civil else [45, 45, 58, 45, 45]

/-- A stop's 16-character name: fetched, or sixteen "?" when the stop table has no entry for the code (R114). -/
def namePiece (c : Settings) (code : Nat) (trim : Bool) : Piece :=
  if code < c.stops.length then .fetch (stopNameAt code) 16 trim else .text (List.replicate 16 63)

/-- The two countdown digits, a space for a missing one (R117). -/
def countdownText (n : Nat) : List Nat := if n < 10 then [32, 48 + n] else digits 2 n

/-- The status column of a shown entry (R116, R117). -/
def statusPieces (b : Battery) (c : Settings) (e : Entry) : List Piece :=
  let togo := minutesToGo e.exp (e.now b)
  if b.clock = .unset then [.text (List.replicate 9 32)]
  else if e.phase = .cancelled then [TextName.cancelled.piece false]
  else if e.timeliness = .stale then [TextName.delayed.piece false]
  else if e.phase = .due then [TextName.due.piece false]
  else if e.timeliness = .late then [TextName.expected.piece false, .text (32 :: serviceText b.hour e.exp)]
  else if e.phase = .waiting ∧ togo ≤ c.scr.countdown then [.text (countdownText togo ++ [32]), TextName.minutes.piece false]
  else if e.timeliness = .onTime then [TextName.onTime.piece false]
  else [.text (List.replicate 9 32)]

/-- The text of a departure row (R114). -/
def departurePieces (b : Battery) (c : Settings) (e : Entry) : List Piece :=
  [.text (serviceText b.hour e.sched ++ [32]), namePiece c e.dest false, .text [32]] ++ statusPieces b c e

/-- A fare in the currency format (R120). -/
def Currency.write (m : Currency) (fare : Nat) : List Nat :=
  m.lead ++ decimal (fare / 10 ^ m.places) ++ (if 0 < m.places then m.sep :: digits m.places (fare % 10 ^ m.places) else [])

/-- The text of a product (R115). -/
def Product.textName : Product → TextName
  | .single => .single
  | .ret => .ret
  | .day => .day

/-- The selection row, when the selection machine is in CHOOSE or CONFIRM (R120). -/
def State.selectionPieces (s : State) (c : Settings) : Option (List Piece) :=
  match s.sel.state, s.sel.cursor with
  | .choose, none => some [TextName.noTrains.piece false]
  | .choose, some code => some [TextName.to.piece true, .text [32], namePiece c code false]
  | .confirm, none => some [s.sel.product.textName.piece true]
  | .confirm, some code =>
    match s.shownFare c code s.sel.product with
    | some fare => some [s.sel.product.textName.piece true, .text (32 :: c.money.write fare)]
    | none => some [s.sel.product.textName.piece true]
  | .idle, _ => none
  | .browse, _ => none
  | .handed, _ => none

/-- The calling list's names, separated by a comma and a space (R122). -/
def callingNames (c : Settings) : List Nat → List Piece
  | [] => []
  | [x] => [namePiece c x true]
  | x :: xs => namePiece c x true :: .text [44, 32] :: callingNames c xs

/-- The calling-at text of an entry (R122). -/
def callingPieces (c : Settings) (e : Entry) : List Piece :=
  if e.calling.isEmpty then [] else [TextName.callingAt.piece true, .text [32]] ++ callingNames c e.calling

/-! ### Starting a build (R113, R118, R119, R123) -/

/-- The page a screen shows (R113). -/
def State.pageOf (s : State) : Screen → Nat
  | .a => s.sel.page
  | .b => 0

/-- The entry a departure row shows (R113). -/
def State.rowEntry (s : State) (c : Settings) (scr : Screen) (row : Nat) : Option Entry :=
  (s.shownOn c scr)[3 * s.pageOf scr + row - 1]?

/-- The colours of a screen (R118). -/
def Settings.colours (c : Settings) : Screen → Colours
  | .a => c.scr.colA
  | .b => c.scr.colB

/-- The colour pair of a row (R118). -/
def Colours.row (k : Colours) (row : Nat) : Nat × Nat := k.rows.getD row (0, 0)

/-- The foreground of a flashing row at an uptime second (R118). -/
def flashFg (upSec fg alert : Nat) : Nat := if upSec % 2 = 0 then fg else alert

/-- The entry flashes: DUE and not STALE (R118). -/
def Entry.flashes (e : Entry) : Bool := e.phase == .due && e.timeliness != .stale

/-- How a departure row is painted (R118). -/
def Entry.paint (e : Entry) (k : Colours) (row : Nat) : Paint :=
  if e.phase = .cancelled ∨ e.timeliness = .stale then .steady k.alert (k.row row).2
  else if e.flashes then .flashing (k.row row).1 k.alert (k.row row).2
  else .steady (k.row row).1 (k.row row).2

/-- The notice text of row 4, and whether it is the selection row (R119). -/
def State.noticePieces (s : State) (c : Settings) (scr : Screen) : List Piece × Bool :=
  match if scr = .a then s.selectionPieces c else none, s.board.lineNotice, s.board.ownNotice with
  | some ps, _, _ => (ps, true)
  | none, some n, _ => ([.text n.text], false)
  | none, none, some n => ([.text n.text], false)
  | none, none, none =>
    match s.rowEntry c scr 1 with
    | some e => (callingPieces c e, false)
    | none => ([], false)

/-- The build of a row from its inputs as they stand (R112 to R122). -/
def State.newBuild (s : State) (c : Settings) (scr : Screen) (row : Nat) : Build :=
  let k := c.colours scr
  let plain := Paint.steady (k.row row).1 (k.row row).2
  let b : Build := { screen := scr, row := row, pieces := [], trimAll := false, paint := plain, entry := none, got := [] }
  if row = 0 then { b with pieces := [.fetch stationNameAt 26 false, .text (32 :: headerClock s.bat)] }
  else if row = 4 then
    let n := s.noticePieces c scr
    { b with pieces := n.1, trimAll := n.2 }
  else
    match s.rowEntry c scr row with
    | some e => { b with pieces := departurePieces s.bat c e, paint := e.paint k row, entry := some e.who }
    | none => b

/-- The first marked row, screen A before screen B, row 0 before row 4 (R123). -/
def Board.nextRow (b : Board) : Option (Screen × Nat) :=
  match b.a.marks.findIdx? id, b.b.marks.findIdx? id with
  | some r, _ => some (.a, r)
  | none, some r => some (.b, r)
  | none, none => none

/-! ### Fetching and completing a build (R118, R123 to R125) -/

/-- The words a piece needs. -/
def Piece.addrs : Piece → List Nat
  | .text _ => []
  | .fetch a len _ => (List.range (ceilDiv len 2)).map fun k => a + k

/-- The words a build needs, in the order in which they stand in the row (R123; log 65). -/
def Build.addrs (b : Build) : List Nat := b.pieces.flatMap Piece.addrs

/-- The text of pieces, given the words fetched for them. -/
def formText : List Piece → List Word → List Nat
  | [], _ => []
  | .text t :: ps, got => t ++ formText ps got
  | .fetch _ len trim :: ps, got =>
    let t := wordChars got len
    (if trim then trimEnd t else t) ++ formText ps (got.drop (ceilDiv len 2))

/-- The text of a row whose fetches are complete. -/
def Build.text (b : Build) : List Nat :=
  let t := formText b.pieces b.got
  if b.trimAll then trimEnd t else t

/-- The colours at completion (R118). -/
def Paint.at (p : Paint) (upSec : Nat) : Nat × Nat :=
  match p with
  | .steady fg bg => (fg, bg)
  | .flashing fg alert bg => (flashFg upSec fg alert, bg)

/-- Compare a formed cell with its record; a difference is taken and marked dirty (R124). -/
def Cell.compare (cell : Cell) (t : Nat × Nat × Nat) (fg bg : Nat) : Cell :=
  if cell.char = some t.1 ∧ cell.next = t.2.1 ∧ cell.shift = t.2.2 ∧ cell.fg = fg ∧ cell.bg = bg then cell
  else { char := some t.1, next := t.2.1, shift := t.2.2, fg := fg, bg := bg, dirty := true }

/-- Replace the cells of a row. -/
def TextScreen.setRow (t : TextScreen) (row : Nat) (f : List Cell → List Cell) : TextScreen :=
  { t with cells := t.cells.take (32 * row) ++ f ((t.cells.drop (32 * row)).take 32) ++ t.cells.drop (32 * row + 32) }

/-- The strip at the completion of a build of row 4 (R125). -/
def TextScreen.takeStrip (t : TextScreen) (text : List Nat) (mode : Mode) (now period : Nat) : TextScreen :=
  if scrolls text then
    if t.strip = text then t
    else { t with strip := text, offset := 0, scrollAt := if mode = .dormant then none else some (now + subTicksOf period) }
  else { t with strip := text, offset := 0, scrollAt := none }

/-- The characters of a row other than the notice row, with no scroll (R111). -/
def plainRow (text : List Nat) : List (Nat × Nat × Nat) := (padTo 32 text).map fun ch => (cellChar ch, 32, 0)

/-- A finished row put into a screen's cache (R124); cells of row 4 that a new offset of 0 leaves the same stay clear (log 60). -/
def TextScreen.complete (t : TextScreen) (b : Build) (mode : Mode) (upSec now period : Nat) : TextScreen :=
  let p := b.paint.at upSec
  let t := if b.row = 4 then t.takeStrip b.text mode now period else t
  let formed := if b.row = 4 then stripRow t.strip t.offset else plainRow b.text
  let t := t.setRow b.row fun cells => cells.zipWith (fun cell f => cell.compare f p.1 p.2) formed
  if 1 ≤ b.row ∧ b.row ≤ 3 then { t with entries := t.entries.set (b.row - 1) b.entry } else t

/-- A build completes (R124). -/
def State.completeBuild (s : State) (b : Build) : State :=
  s.modBoard fun d =>
    { d.modText b.screen (·.complete b s.act.mode s.nowSec s.nowSub s.scrollPeriod) with build := none }

/-- Put a build in progress, or complete it when it needs no further word (R123). -/
def State.goOnBuild (s : State) (b : Build) : State :=
  if b.got.length = b.addrs.length then s.completeBuild b else s.modBoard fun d => { d with build := some b }

/-- Count the departures of screen A at a build of its departure rows (R113). -/
def State.countShown (s : State) (c : Settings) (scr : Screen) (row : Nat) : State :=
  if scr = .a ∧ 1 ≤ row ∧ row ≤ 3 then s.handCount (s.shownOn c .a).length else s

/-- Start the build of the next marked row (R113, R123). -/
def State.startBuild (s : State) (c : Settings) (scr : Screen) (row : Nat) : State :=
  let b := s.newBuild c scr row
  let s := s.modBoard fun d => d.modText scr fun t => { t with marks := t.marks.set row false }
  (s.countShown c scr row).goOnBuild b

/-! ### Notices (R121) -/

/-- Put the line notice in place; a change marks row 4 of both screens. -/
def State.setLineNotice (s : State) (n : Option Notice) : State :=
  if s.board.lineNotice = n then s else (s.modBoard fun b => { b with lineNotice := n }).markNotices

/-- Put the local notice in place; a change marks row 4 of both screens. -/
def State.setOwnNotice (s : State) (n : Option Notice) : State :=
  if s.board.ownNotice = n then s else (s.modBoard fun b => { b with ownNotice := n }).markNotices

/-- A notice has reached its expiry uptime (R121). -/
def noticeOver (now : Nat) (n : Option Notice) : Bool :=
  match n with
  | some n => decide (n.expiry ≤ now)
  | none => false

/-- A fetched LOCAL_NOTICE: the checks, then the clearing, or the start of the fetch (R121; log 66). -/
def State.takeLocalNotice (s : State) (c : Settings) (addr len duration : Nat) : State :=
  if 64 < len then s.commandRefused c Code.badField
  else if Config.maxAddr + 1 < addr + ceilDiv len 2 then s.commandRefused c Code.badField
  else if len = 0 ∨ duration = 0 then (s.setOwnNotice none).commandDone c 0
  else
    (s.modBoard fun b => { b with noticeFetch := some { addr := addr, len := len, duration := duration, got := [] } }).ownCommand
      .localNotice

/-- A word of the notice text has been fetched; the last one replaces the local notice (R121). -/
def State.takeNoticeWord (s : State) (c : Settings) (n : NoticeFetch) (w : Word) : State :=
  let got := n.got ++ [w]
  if got.length < ceilDiv n.len 2 then s.modBoard fun b => { b with noticeFetch := some { n with got := got } }
  else
    ((s.modBoard fun b => { b with noticeFetch := none }).setOwnNotice
      (some { text := wordChars got n.len, expiry := s.nowSec + n.duration })).commandDone c 0

/-! ### Flashing and scrolling (R118, R125) -/

/-- Recolour a row's cells; a changed cell becomes dirty (R118). -/
def Cell.recolour (cell : Cell) (fg : Nat) : Cell := if cell.fg = fg then cell else { cell with fg := fg, dirty := true }

/-- The departure row shows a flashing entry (R118; log 34). -/
def State.rowFlashes (s : State) (t : TextScreen) (row : Nat) : Bool :=
  match (t.entries.getD (row - 1) none).bind s.entry? with
  | some e => e.flashes
  | none => false

/-- Recolour the flashing rows of a screen (R118). -/
def State.flashScreen (s : State) (k : Colours) (t : TextScreen) : TextScreen :=
  [1, 2, 3].foldl
    (fun t row =>
      if s.rowFlashes t row then t.setRow row fun cells => cells.map (·.recolour (flashFg s.nowSec (k.row row).1 k.alert))
      else t)
    t

/-- A screen's scroll deadline is reached: the offset advances and the next deadline is set (R125). -/
def TextScreen.advance (t : TextScreen) (step now period : Nat) : TextScreen :=
  { t.scrollTo ((t.offset + step) % stripLength t.strip) with scrollAt := some (now + subTicksOf period) }

/-- A screen's scroll deadline has been reached. -/
def scrollDue (t : TextScreen) (now : Nat) : Bool :=
  match t.scrollAt with
  | some d => decide (d ≤ now)
  | none => false

/-! ### Rendering (R126, R127) -/

/-- The other screen. -/
def otherScreen : Screen → Screen
  | .a => .b
  | .b => .a

/-- The first dirty cell of a screen in row order (R127). -/
def TextScreen.firstDirty (t : TextScreen) : Option Nat := t.cells.findIdx? (·.dirty)

/-- The next cell to render: of the screen not rendered last if it has a dirty cell, else of the same one (R127). -/
def Board.nextCell (b : Board) : Option (Screen × Nat) :=
  match (b.text (otherScreen b.lastRendered)).firstDirty with
  | some i => some ((otherScreen b.lastRendered), i)
  | none => (b.text b.lastRendered).firstDirty.map fun i => (b.lastRendered, i)

/-- Clear the dirty mark of a cell. -/
def TextScreen.clean (t : TextScreen) (i : Nat) : TextScreen :=
  { t with cells := t.cells.modify i fun cell => { cell with dirty := false } }

/-- Start a render from a copy of the cell's record (R127). -/
def Board.startRender (b : Board) (scr : Screen) (i : Nat) : Board :=
  let cell := (b.text scr).cells.getD i Cell.initial
  { b.modText scr (·.clean i) with
    render := some { screen := scr, index := i, cell := cell, glyphs := [], written := 0 }, lastRendered := scr }

/-- How many glyph words a render fetches (R126). -/
def Render.need (r : Render) : Nat := if 0 < r.cell.shift then 16 else 8

/-- Where glyph word `k` of a render lies (R126): those of the character come first, then those of the next character, each in
ascending order, the model's choice (log 90). -/
def Render.glyphAddr (r : Render) (base k : Nat) : Nat :=
  if k < 8 then base + 8 * (r.cell.char.getD 32 - 32) + k else base + 8 * (r.cell.next - 32) + (k - 8)

/-- Line `l` of a glyph whose 8 words begin at place `from_` (R126). -/
def glyphLine (glyphs : List Word) (from_ l : Nat) : Byte :=
  let w := glyphs.getD (from_ + l / 2) 0
  if l % 2 = 0 then hiByte w else loByte w

/-- Pixel `j` of line `l` of the cell is a foreground pixel (R126). -/
def Render.pixel (r : Render) (l j : Nat) : Bool :=
  let col := j + r.cell.shift
  if col < 8 then (glyphLine r.glyphs 0 l).getLsbD (7 - col) else (glyphLine r.glyphs 8 l).getLsbD (15 - col)

/-- The frame word of line `l` (R126). -/
def Render.word (r : Render) (l : Nat) : Word :=
  BitVec.ofNat 16
    ((List.range 8).foldl (fun n j => 4 * n + (if r.pixel l j then r.cell.fg else r.cell.bg)) 0)

/-- The frame base and stride of a screen in a descriptor. -/
def Windows.frame (w : Windows) : Screen → Nat × Nat
  | .a => (w.frameA, w.strideA)
  | .b => (w.frameB, w.strideB)

/-- Where line `l` of a cell lies (R126). -/
def Windows.cellWord (w : Windows) (scr : Screen) (i l : Nat) : Nat :=
  (w.frame scr).1 + (16 * (i / 32) + l) * (w.frame scr).2 + i % 32

/-- The access a render waits for: every glyph word, then the frame words in line order (R126; log 90). -/
def Render.access (r : Render) (c : Settings) : Access :=
  if r.glyphs.length < r.need then .read (r.glyphAddr c.glyph r.glyphs.length)
  else .write (c.win.cellWord r.screen r.index r.written) (r.word r.written)

/-- A render after its access: a glyph word more, a frame word more, or the end (R126). -/
def Render.after (r : Render) (w : Word) : Option Render :=
  if r.glyphs.length < r.need then some { r with glyphs := r.glyphs ++ [w] }
  else if r.written < 15 then some { r with written := r.written + 1 }
  else none

/-! ### The composer as a requester (R123, R126, R182) -/

/-- The composer's build or render access, when one waits. -/
def State.paintWants (s : State) : Option Access :=
  match s.cfg, s.board.build, s.board.render with
  | some _, some b, _ => b.addrs[b.got.length]?.map .read
  | some c, none, some r => some (r.access c)
  | _, _, _ => none

/-- The notice text access, when one waits (R121). -/
def State.noticeWants (s : State) : Option Access :=
  s.board.noticeFetch.map fun n => .read (n.addr + n.got.length)

/-- The composer's turn goes to the notice text; open between it and a build or render (log 25). -/
def State.noticeFirst (s : State) : Bool :=
  s.noticeWants.isSome && (s.paintWants.isNone || Config.freeFirst s.free)

/-- The composer's next access. -/
def State.composerWants (s : State) : Option Access := if s.noticeFirst then s.noticeWants else s.paintWants

/-- The composer takes the word of a build or render access. -/
def State.paintServed (s : State) (w : Word) : State :=
  match s.board.build, s.board.render with
  | some b, _ => s.goOnBuild { b with got := b.got ++ [w] }
  | none, some r => s.modBoard fun d => { d with render := r.after w }
  | none, none => s

/-- The composer takes the word of its access. -/
def State.composerServed (s : State) (w : Word) : State :=
  let t := if s.noticeWants.isSome && s.paintWants.isSome then s.drawn else s
  match s.noticeFirst, s.cfg, s.board.noticeFetch with
  | true, some c, some n => t.takeNoticeWord c n w
  | _, _, _ => t.paintServed w

/-- The full recompose at an acceptance (R128); an abandoned render counts as its screen's turn (log 59). -/
def State.recompose (s : State) : State :=
  let fresh := { TextScreen.initial with marks := List.replicate 5 true }
  s.modBoard fun b => { b with a := fresh, b := fresh, build := none, render := none }

/-! ### Meanings -/

/-- ROW_BUILD (R123). -/
def execRowBuild (s : State) : Host.Outcome State Fault Refusal :=
  .next
    (match s.cfg, s.board.build, s.board.render, s.board.nextRow with
    | some c, none, none, some (scr, row) => if s.loader.stage.starting then s else s.startBuild c scr row
    | _, _, _, _ => s)

/-- CELL_RENDER (R123, R127): no render begins while a row is marked or being built; that it waits for a started build's fetches
too is the model's choice (log 80). -/
def execCellRender (s : State) : Host.Outcome State Fault Refusal :=
  .next
    (match s.cfg, s.board.build, s.board.render, s.board.nextRow, s.board.nextCell with
    | some _, none, none, none, some (scr, i) => s.modBoard fun b => b.startRender scr i
    | _, _, _, _, _ => s)

/-- DUE_FLASH (R118). It is not tested for falling at an uptime second (log 52). -/
def execDueFlash (s : State) : Host.Outcome State Fault Refusal :=
  .next
    (match s.cfg with
    | some c =>
      s.modBoard fun b => { b with a := s.flashScreen c.scr.colA b.a, b := s.flashScreen c.scr.colB b.b }
    | none => s)

/-- NOTICE_EXPIRY (R121). -/
def execNoticeExpiry (notice : NoticeKind) (s : State) : Host.Outcome State Fault Refusal :=
  .next
    (match notice with
    | .line => if noticeOver s.nowSec s.board.lineNotice then s.setLineNotice none else s
    | .own => if noticeOver s.nowSec s.board.ownNotice then s.setOwnNotice none else s)

/-- SCROLL_DEADLINE (R125). -/
def execScrollDeadline (screen : Screen) (s : State) : Host.Outcome State Fault Refusal :=
  .next
    (match s.cfg with
    | some c =>
      if scrollDue (s.board.text screen) s.nowSub then
        s.modBoard fun b => b.modText screen (·.advance c.scr.scrollStep s.nowSub c.scr.scrollPeriod)
      else s
    | none => s)

/-- LOCAL_NOTICE (R121). -/
def execLocalNotice (s : State) : Host.Outcome State Fault Refusal :=
  .next
    (match s.cfg, s.commandArgs .localNotice with
    | some c, some args =>
      s.takeLocalNotice c (pairAddr (args.getD 0 0) (args.getD 1 0)) (args.getD 2 0).toNat (args.getD 3 0).toNat
    | _, _ => s)

end Sys2Proof.Machine
end

