-- ==== Sys2Proof/Machine/Screens.lean ====
section
/-! DEFINITION. The screen channels: frames, lines, fetches, underruns, and the levels driven (chapter 7: R129 to R134). -/

namespace Sys2Proof.Machine

/-- The channel of a screen. -/
def State.scan (s : State) : Screen → Scan
  | .a => s.scrA
  | .b => s.scrB

/-- Update the channel of a screen. -/
def State.modScan (s : State) (scr : Screen) (f : Scan → Scan) : State :=
  match scr with
  | .a => s.modScrA f
  | .b => s.modScrB f

/-! ### Frames (R130, R134) -/

/-- Frames per second of a mode (R130). -/
def Mode.rate : Mode → Nat
  | .active => 60
  | .quiet => 30
  | .dormant => 15

/-- The backlight fraction of a mode (R133). -/
def ScreenParams.fraction (p : ScreenParams) : Mode → Nat
  | .active => 16
  | .quiet => p.fracQuiet
  | .dormant => p.fracDormant

/-- The palette of a screen. -/
def ScreenParams.palette (p : ScreenParams) : Screen → List Nat
  | .a => p.palA
  | .b => p.palB

/-- The settings a channel latches at a blanking interval (R130). -/
def Settings.latch (c : Settings) (scr : Screen) (m : Mode) : Latched :=
  { base := (c.win.frame scr).1, stride := (c.win.frame scr).2, palette := c.scr.palette scr, fraction := c.scr.fraction m,
    rate := m.rate }

/-- A blanking interval starts: the settings are latched and the fetch of line 0 begins (R130, R131). -/
def Scan.startFrame (x : Scan) (l : Latched) : Scan :=
  { x with latched := some l, fill := [], fetch := some 0, pos := .blanking, urgent := false }

/-- The channel starts scanning with a blanking interval (R129, R134). -/
def Scan.start (x : Scan) (l : Latched) : Scan := { x.startFrame l with scanning := true }

/-- The frame has run to its last line, or none has been begun. -/
def ScanPos.frameOver : ScanPos → Bool
  | .none => true
  | .blanking => false
  | .line y => y == 79

/-! ### Lines (R131, R132) -/

/-- The line whose period starts next, within a frame. -/
def ScanPos.nextLine : ScanPos → Option Nat
  | .none => Option.none
  | .blanking => some 0
  | .line y => if y < 79 then some (y + 1) else Option.none

/-- The fetch that begins at the start of line y (R131). -/
def fetchAfter (y : Nat) : Option Nat := if y < 79 then some (y + 1) else none

/-- The fetch of the next line is complete. -/
def Scan.ready (x : Scan) : Bool := x.fill.length == 32

/-- Line `y` starts: the fill half becomes the shown half, or, in an underrun, the last shown line stands (R131, R132). -/
def Scan.startLine (x : Scan) (y : Nat) : Scan :=
  { x with
    shown := if x.ready then x.fill else x.shown
    lastShown := if x.ready then some x.fill else x.lastShown
    fill := [], fetch := fetchAfter y, pos := .line y, urgent := false }

/-- A channel's line start, with the underrun (R131, R132). -/
def State.startLine (s : State) (scr : Screen) (y : Nat) : State :=
  let t := s.modScan scr (·.startLine y)
  if (s.scan scr).ready then t else (t.count .screenUnderrun 1).raise .underrun

/-! ### The channel as a requester (R131) -/

/-- The word the channel's line fetch reads next (R131). -/
def Scan.wants (x : Scan) : Option Nat :=
  match x.latched, x.fetch with
  | some l, some y => some (l.base + y * l.stride + x.fill.length)
  | _, _ => none

/-- The channel takes a fetched word; with the 32nd the fetch is complete (R131). -/
def Scan.served (x : Scan) (w : Word) : Scan :=
  let fill := x.fill ++ [w]
  if fill.length < 32 then { x with fill := fill } else { x with fill := fill, fetch := none, urgent := false }

/-! ### What the panel sees (R129, R133) -/

/-- The palette index of pixel `j` of a frame word. -/
def pixelIndex (w : Word) (j : Nat) : Nat := bits w (14 - 2 * j) 2

/-- The level at which a pixel is driven: floor(L·f/16) (R133). -/
def Latched.level (l : Latched) (index : Nat) : Nat := l.palette.getD index 0 * l.fraction / 16

/-- The 256 levels of the line sent to the panel: level 0 while DARK or while no line has been shown (R129, R132, R133). During a
blanking interval they are those of the last shown line (log 61). -/
def Scan.levels (x : Scan) : List Nat :=
  match x.scanning, x.latched, x.lastShown with
  | true, some l, some line => line.flatMap fun w => (List.range 8).map fun j => l.level (pixelIndex w j)
  | _, _, _ => List.replicate 256 0

/-- The backlight control (R133). -/
def Scan.backlight (x : Scan) : Bool :=
  match x.scanning, x.latched with
  | true, some l => decide (0 < l.fraction)
  | _, _ => false

/-! ### Meanings -/

/-- FRAME_START (R130). -/
def execFrameStart (screen : Screen) (s : State) : Host.Outcome State Fault Refusal :=
  .next
    (match s.cfg with
    | some c =>
      if (s.scan screen).scanning ∧ (s.scan screen).pos.frameOver then
        s.modScan screen (·.startFrame (c.latch screen s.act.mode))
      else s
    | none => s)

/-- LINE_START (R131, R132). -/
def execLineStart (screen : Screen) (s : State) : Host.Outcome State Fault Refusal :=
  .next
    (match (s.scan screen).scanning, (s.scan screen).pos.nextLine with
    | true, some y => s.startLine screen y
    | _, _ => s)

/-- FETCH_URGENT (R131). -/
def execFetchUrgent (screen : Screen) (s : State) : Host.Outcome State Fault Refusal :=
  .next
    (if (s.scan screen).scanning ∧ (s.scan screen).fetch.isSome then s.modScan screen fun x => { x with urgent := true }
     else s)

end Sys2Proof.Machine
end

