-- ==== Sys2Proof/Machine/Link.lean ====
section
/-! DEFINITION. The line link: frames, link state, replies, journal upload and forwarding (chapter 9: R155 to R173), and the
application of update images, from the line or an intake slot (chapter 1: R6, R7, R9). -/

namespace Sys2Proof.Machine

/-! ### Reception (R155 to R157) -/

/-- The receiver takes characters: it is enabled, nothing is being sent and no reply is waiting (R155, R162). -/
def State.receiving (s : State) : Bool :=
  s.link.receiver != .disabled && s.link.pending.isNone && s.link.sending.isNone

/-- A frame error (R156). -/
def State.frameError (s : State) : State := s.count .frameError 1

/-- Put a phase of reception in place. -/
def State.setReceiver (s : State) (r : Receiver) : State := s.modLink fun k => { k with receiver := r }

/-- The uptime at the last stop bit of the frame in reception, in sub-ticks; none in HUNT (R156). -/
def Receiver.since : Receiver → Option Nat
  | .disabled => none
  | .hunt => none
  | .header _ t => some t
  | .body _ t => some t

/-- A frame is in reception: the phase is HEADER or BODY (R156). -/
def Receiver.inFrame (r : Receiver) : Bool := r.since.isSome

/-- The gap since the last character of the frame in reception, `more` sub-ticks beyond the uptime's count, exceeds the frame gap
limit (R156). -/
def State.gapOver (s : State) (c : Settings) (more : Nat) : Bool :=
  match s.link.receiver.since with
  | some t => exceeds (s.nowSub - t + more) c.link.gap
  | none => false

/-- The frame in reception ends as an error: counted, back to HUNT (R156). -/
def State.breakFrame (s : State) : State := (s.setReceiver .hunt).frameError

/-- A gap that exceeds the limit ends the frame in reception (R156). -/
def State.endGap (s : State) (c : Settings) (more : Nat) : State := if s.gapOver c more then s.breakFrame else s

/-- The LENGTH among the bytes collected after START (R156). -/
def lengthOf (got : List Byte) : Nat := (got.getD 3 0).toNat

/-- The check bytes of a completed frame are the check word of its content (R156). -/
def checkHolds (got : List Byte) : Bool :=
  wordBytes [crcBytes (got.take (4 + 2 * lengthOf got))] == got.drop (4 + 2 * lengthOf got)

/-- What a character does to the reception (R156). -/
inductive CharStep
  | goes (r : Receiver)
  | error
  | complete
deriving DecidableEq, Repr

/-- A character whose stop bit is good, at an uptime in sub-ticks (R156); SEQ and LENGTH are tested at the last header byte
(log 68). -/
def Receiver.take (r : Receiver) (b : Byte) (now : Nat) : CharStep :=
  match r with
  | .disabled => .goes .disabled
  | .hunt => .goes (if b = 0xC5 then .header [] now else .hunt)
  | .header got _ =>
    if got.length < 3 then .goes (.header (got ++ [b]) now)
    else if 7 < (got.getD 1 0).toNat ∨ 60 < b.toNat then .error
    else .goes (.body (got ++ [b]) now)
  | .body got _ =>
    if got.length + 1 < 6 + 2 * lengthOf got then .goes (.body (got ++ [b]) now)
    else if checkHolds (got ++ [b]) then .complete
    else .error

/-- The phase and the number of frame errors that characters leave, the receiver back in HUNT after each error; none when one
of them completes a good frame, which has a command of its own (R156; log 22). -/
def Receiver.takeAll (now : Nat) : Receiver → List Byte → Option (Receiver × Nat)
  | r, [] => some (r, 0)
  | r, b :: bs =>
    match r.take b now with
    | .goes r => r.takeAll now bs
    | .error => (Receiver.hunt.takeAll now bs).map fun p => (p.1, p.2 + 1)
    | .complete => none

/-- Characters arrive, and then, when `bad`, one whose stop bit is low (R155, R156); in HUNT that one is discarded uncounted and
starts no frame, whatever its bits (log 73). -/
def State.hearChars (s : State) (c : Settings) (cause : FrameFault) : State :=
  let t := s.endGap c 0
  match t.link.receiver.takeAll s.nowSub cause.chars with
  | none => s
  | some (r, n) =>
    let u := t.setReceiver r
    let u := if n = 0 then u else u.count .frameError n
    if cause.bad && r.inFrame then u.breakFrame else u

/-- The bytes of a frame after START go on from those collected; from HUNT the whole frame arrives (R156; log 21). -/
def Receiver.goesOnTo (r : Receiver) (bytes : List Byte) : Bool :=
  match r with
  | .disabled => false
  | .hunt => true
  | .header got _ => got.isPrefixOf bytes
  | .body got _ => got.isPrefixOf bytes

/-- The frame in reception has ended: back to HUNT (R156). -/
def State.endFrame (s : State) : State := if s.link.receiver.inFrame then s.setReceiver .hunt else s

/-- A frame that passes its check word is counted as foreign (R157). -/
def isForeign (haltId : Nat) (kind halt : Byte) : Bool :=
  !isReplyKind kind && halt.toNat != haltId && !(halt == 255 && (kind == 0x03 || kind == 0x04))

/-! ### Link state (R159) -/

/-- A good frame: the loss deadline moves on, and the link comes UP (R159). -/
def State.linkUp (s : State) (c : Settings) : State :=
  let t := s.modLink fun k => { k with lossAt := some (s.nowSec + c.link.loss), state := .up }
  if s.link.state = .up then t else t.raise .link

/-- The loss deadline is reached (R159, R169). -/
def State.linkLost (s : State) : State :=
  ((s.modLink fun k =>
    { k with state := .lost, lossAt := none, history := none, lastReply := none, push := false }).raise .link).revertSent

/-! ### Replies (R160 to R162) -/

/-- Put the build of the pending reply in place. -/
def State.setBuild (s : State) (b : ReplyBuild) : State :=
  s.modLink fun k => { k with pending := k.pending.map fun r => { r with build := b } }

/-- The bytes of a reply of a kind and payload (R161). -/
def Reply.bytes (r : Reply) (kind : Byte) (payload : List Word) : List Byte :=
  Frame.bytes { kind := kind, seq := r.seq, halt := BitVec.ofNat 8 r.haltId, payload := payload }

/-- The pending reply is built; it becomes the last reply of the frame in the history (R158, R160). With the history emptied in the
meantime the last reply stays none, the model's choice (log 81). -/
def State.reply (s : State) (kind : Byte) (payload : List Word) : State :=
  match s.link.pending with
  | none => s
  | some r =>
    let bytes := r.bytes kind payload
    (s.setBuild (.built bytes)).modLink fun k =>
      { k with lastReply := if k.history.isSome then some bytes else k.lastReply }

/-- An ACK with outcomes (R204, R205). -/
def State.replyAck (s : State) (status : Word) (outcomes : List Nat) : State :=
  s.reply 0x81 (status :: outcomes.map (BitVec.ofNat 16))

/-- A STATUS reply (R166, R204). -/
def State.replyStatus (s : State) : State :=
  s.reply 0x82
    [BitVec.ofNat 16 s.summaryLow, BitVec.ofNat 16 s.table.length, BitVec.ofNat 16 s.bat.freeEntries, s.rep.flags]

/-- A JOURNAL reply is built once the ticket words of its records have been read (R167). -/
def State.goOnJournal (s : State) (todo : List Nat) (got : List Word) : State :=
  if got.length = 13 * todo.length then s.reply 0x83 (BitVec.ofNat 16 todo.length :: got)
  else s.setBuild (.journal todo got)

/-- IDLE, or the push of R169 when the push mark is set; the mark is cleared as the records are chosen, before their words are read
(log 74). -/
def State.replyPush (s : State) (g : Geometry) : State :=
  if s.link.push then
    let is := g.indices s.bat.confirm (min 4 (g.span s.bat.confirm s.bat.send))
    let s := s.modLink fun k => { k with push := false }
    if is.isEmpty then s.reply 0x84 [] else s.goOnJournal is []
  else s.reply 0x84 []

/-- JOURNAL or IDLE (R167, R169). -/
def State.replyJournal (s : State) : State :=
  match s.bat.geometry with
  | none => s.reply 0x84 []
  | some g =>
    if s.bat.send ≠ s.bat.write then
      let r := s.takeForSending g
      r.2.goOnJournal r.1 []
    else s.replyPush g

/-! ### Applying update images (R6, R9, R11, R163) -/

/-- The outcomes of the frame's images go on: an image of an unknown kind meets BAD_FIELD as it comes to its turn, and after
the last image the ACK is built (R11, R163; log 20). -/
def State.goOnUpdate (s : State) (outcomes : List Nat) : List (List Word) → State
  | [] => s.replyAck Code.ackOk outcomes
  | im :: rest =>
    match imageKind im with
    | none => s.goOnUpdate (outcomes ++ [Code.badField.toNat]) rest
    | some _ => s.setBuild (.updating (im :: rest) outcomes)

/-- The next image of the UPDATE frame in work is of a kind: it is applied from source LINE under the settings then in force, also when
a reload has been accepted since the frame (R9, R163; log 88). -/
def State.applyLine (s : State) (c : Settings) (k : UpdateKind) : State :=
  match s.link.pending.map Reply.build with
  | some (.updating (im :: rest) outcomes) =>
    if imageKind im = some k then
      let r := s.applyImage c .line k (readImage im)
      r.1.goOnUpdate (outcomes ++ [r.2.toNat]) rest
    else s
  | _ => s

/-- The image of the intake slot in work is of a kind: it is applied from source LOCAL and the slot is answered (R6, R7). -/
def State.applyLocal (s : State) (c : Settings) (k : UpdateKind) : State :=
  match s.intake.stage with
  | .ready im =>
    if imageKind im = some k then
      let r := s.applyImage c .loc k (readImage im)
      r.1.answerIntake c (readImage im) r.2
    else s
  | .idle => s
  | .fetching _ => s
  | .answering _ => s

/-- An application of a kind from a source. -/
def State.applyUpdate (s : State) (k : UpdateKind) (src : Source) : State :=
  match s.cfg, src with
  | some c, .line => s.applyLine c k
  | some c, .loc => s.applyLocal c k
  | none, _ => s

/-! ### What each kind does (R163 to R171) -/

/-- The images of an UPDATE payload. -/
def imagesOf : Nat → List Word → List (List Word)
  | 0, _ => []
  | n + 1, ws => ws.take 9 :: imagesOf n (ws.drop 9)

/-- UPDATE (R163). -/
def State.takeUpdate (s : State) (payload : List Word) : State :=
  let n := (payload.getD 0 0).toNat
  if 1 ≤ n ∧ n ≤ 4 ∧ payload.length = 1 + 9 * n then s.goOnUpdate [] (imagesOf n payload.tail)
  else s.replyAck Code.ackBadFrame []

/-- A CLOCK payload in range (R164). -/
def clockPayload (payload : List Word) : Option (Nat × Word) :=
  match payload with
  | [hi, lo, day] => if pairVal hi lo ≤ 86399 then some (pairVal hi lo, day) else none
  | _ => none

/-- A NOTICE payload that fits its kind: duration, and the characters (R165). -/
def noticePayload (payload : List Word) : Option (Nat × List Nat) :=
  match payload with
  | dur :: count :: rest =>
    if count.toNat ≤ 64 ∧ rest.length = ceilDiv count.toNat 2 then some (dur.toNat, wordChars rest count.toNat) else none
  | _ => none

/-- The line notice is replaced or cleared; one made present is an activity event (R121, R165). -/
def State.takeNotice (s : State) (dur : Nat) (text : List Nat) : State :=
  if dur = 0 ∨ text = [] then s.setLineNotice none
  else (s.setLineNotice (some { text := text, expiry := s.nowSec + dur })).activityEvent

/-- The words of a chain entry lie within the address space (R171). -/
def entryFits (pos : Nat) : Bool := decide (pos + 7 ≤ Config.maxAddr)

/-- A FORWARD whose entry's first six words have been read may be delivered (R171, step 2). -/
def chainOk (c : Settings) (pos : Nat) (payload entry : List Word) : Bool :=
  let buf := pairAddr (entry.getD 2 0) (entry.getD 3 0)
  let areas := (Config.loadWord, c.len) :: c.win.regions
  entry.getD 0 0 == 0 && decide (payload.length ≤ (entry.getD 1 0).toNat) &&
  areas.all (regionsApart (pos, 8)) &&
  (payload.isEmpty || (regionFits (buf, payload.length) && areas.all (regionsApart (buf, payload.length))))

/-- The writes of a delivery: payload, written length, kind, and last the status FULL (R171, step 2). -/
def chainWrites (pos next : Nat) (payload entry : List Word) : List Acc :=
  let buf := pairAddr (entry.getD 2 0) (entry.getD 3 0)
  (payload.zipIdx.map fun p => ⟨buf + p.2, p.1, .plain⟩) ++
  [⟨pos + 6, BitVec.ofNat 16 payload.length, .plain⟩, ⟨pos + 7, payload.getD 0 0, .plain⟩, ⟨pos, 1, .chainFull next⟩]

/-- The chain position after a delivery: the next address, or the chain head when that is 0 (R170, R171). -/
def nextPos (c : Settings) (entry : List Word) : Nat :=
  let n := pairAddr (entry.getD 4 0) (entry.getD 5 0)
  if n = 0 then c.chain else n

/-- FORWARD: the entry at the chain position is to be read; one that does not lie in the address space cannot be (R171). -/
def State.takeForward (s : State) (payload : List Word) : State :=
  match s.link.chainPos with
  | some pos => if entryFits pos then s.setBuild (.chainRead pos payload []) else s.replyAck Code.ackNoBuffer []
  | none => s.replyAck Code.ackNoBuffer []

/-- The entry has been read: deliver, or answer NO_BUFFER (R171). -/
def State.decideForward (s : State) (c : Settings) (pos : Nat) (payload entry : List Word) : State :=
  if chainOk c pos payload entry then s.setBuild (.chainWrite (chainWrites pos (nextPos c entry) payload entry))
  else s.replyAck Code.ackNoBuffer []

/-- FULL has landed: the position moves on, FORWARD is raised and the ACK is built (R171). -/
def State.forwardDone (s : State) (next : Nat) : State :=
  ((s.modLink fun k => { k with chainPos := some next }).raise .forward).replyAck Code.ackOk []

/-! ### Taking a good frame (R157, R159 to R161) -/

/-- A reply becomes pending at the frame's last stop bit (R162). -/
def State.awaitReply (s : State) (c : Settings) (seq : Nat) (b : ReplyBuild) : State :=
  s.modLink fun k =>
    { k with pending := some { since := s.nowSub, turnaround := c.link.turnaround, haltId := c.link.haltId, seq := seq, build := b } }

/-- A duplicate: counted, and the last reply is sent again (R160). -/
def State.takeDuplicate (s : State) (c : Settings) (seq : Nat) : State :=
  match s.link.lastReply with
  | some bytes => (s.count .duplicateFrame 1).awaitReply c seq (.built bytes)
  | none => s.count .duplicateFrame 1

/-- An addressed good frame: link state, duplicate test, acceptance, then what its kind applies and answers (R159 to R161). -/
def State.takeAddressed (s : State) (c : Settings) (kind : Byte) (seq : Nat) (payload : List Word)
    (apply : State → State) : State :=
  let check := Frame.check { kind := kind, seq := seq, halt := BitVec.ofNat 8 c.link.haltId, payload := payload }
  let s := s.linkUp c
  if s.link.history = some (seq, check) then s.takeDuplicate c seq
  else apply ((s.modLink fun k => { k with history := some (seq, check) }).awaitReply c seq (.built []))

/-- A frame command reaches the link at its last check byte: nothing while the receiver takes nothing or is in another frame, a
frame error when its LENGTH is out of range (R155, R156; log 1, 21). -/
def State.onFrame (s : State) (kind : Byte) (seq : Fin 8) (halt : Settings → Byte) (payload : List Word)
    (f : Settings → State → State) : State :=
  match s.cfg with
  | some c =>
    if s.receiving then
      let t := s.endGap c 0
      let frame : Frame := { kind := kind, seq := seq.val, halt := halt c, payload := payload }
      if t.link.receiver.goesOnTo frame.bytes.tail then
        if payload.length ≤ 60 then f c t.endFrame else t.endFrame.frameError
      else s
    else s
  | none => s

/-- The HALT ID of a frame for a destination (R157). -/
def haltOf (d : Dest) (c : Settings) : Byte :=
  match d with
  | .addressed => BitVec.ofNat 8 c.link.haltId
  | .broadcast => 255

/-- A CLOCK frame's setting, when it has one in range (R164). -/
def State.applyClock (s : State) (c : Settings) (payload : List Word) : State :=
  match clockPayload payload with
  | some (civil, day) => s.applySetting c civil day
  | none => s

/-- A NOTICE frame's notice, when it fits its kind (R165). -/
def State.applyNotice (s : State) (payload : List Word) : State :=
  match noticePayload payload with
  | some (dur, text) => s.takeNotice dur text
  | none => s

/-- The answer of an addressed frame that may be malformed (R161). -/
def State.answerUnless (s : State) (malformed : Bool) : State :=
  if malformed then s.replyAck Code.ackBadFrame [] else s.replyJournal

/-! ### The link as a requester (R167, R171, R182) -/

/-- The link's next access. -/
def State.linkWants (s : State) : Option Access :=
  match s.link.pending.map Reply.build, s.bat.geometry with
  | some (.journal todo got), some g => some (.read (g.entryWord (todo.getD (got.length / 13) 0) (got.length % 13)))
  | some (.chainRead pos _ got), _ => some (.read (pos + got.length))
  | some (.chainWrite accs), _ => nextWrite accs
  | _, _ => none

/-- The link's access has been served. -/
def State.linkServed (s : State) (c : Settings) (w : Word) : State :=
  match s.link.pending.map Reply.build with
  | some (.journal todo got) => s.goOnJournal todo (got ++ [w])
  | some (.chainRead pos payload got) =>
    if got.length < 5 then s.setBuild (.chainRead pos payload (got ++ [w])) else s.decideForward c pos payload (got ++ [w])
  | some (.chainWrite (a :: rest)) =>
    match a.land with
    | .chainFull next => s.forwardDone next
    | _ => s.setBuild (.chainWrite rest)
  | _ => s

/-- A FORWARD delivery is in progress (R173, R198). -/
def State.forwarding (s : State) : Bool :=
  match s.link.pending.map Reply.build with
  | some (.chainRead _ _ _) => true
  | some (.chainWrite _) => true
  | _ => false

/-- The turnaround of a pending reply has passed (R162); none of it has, since an instant above the present uptime (log 86). -/
def Reply.turned (r : Reply) (now : Nat) : Bool := decide (r.turnaround * 1024 ≤ (now - r.since) * 1000)

/-! ### Meanings: update images -/

/-- RECORD (R13, R14). -/
def execRecord (src : Source) (s : State) : Host.Outcome State Fault Refusal := .next (s.applyUpdate .record src)

/-- DELETE (R15). -/
def execDelete (src : Source) (s : State) : Host.Outcome State Fault Refusal := .next (s.applyUpdate .delete src)

/-- CANCEL (R16). -/
def execCancel (src : Source) (s : State) : Host.Outcome State Fault Refusal := .next (s.applyUpdate .cancel src)

/-- REINSTATE (R17). -/
def execReinstate (src : Source) (s : State) : Host.Outcome State Fault Refusal := .next (s.applyUpdate .reinstate src)

/-- REPORT (R18). -/
def execReport (src : Source) (s : State) : Host.Outcome State Fault Refusal := .next (s.applyUpdate .report src)

/-- DEPARTED (R19). -/
def execDeparted (src : Source) (s : State) : Host.Outcome State Fault Refusal := .next (s.applyUpdate .departed src)

/-! ### Meanings: frames -/

/-- FRAME_ERROR (R156): characters that end the frame in reception as an error, or that only bring it on (log 22). -/
def execFrameError (cause : FrameFault) (s : State) : Host.Outcome State Fault Refusal :=
  .next
    (match s.cfg with
    | some c => if s.receiving then s.hearChars c cause else s
    | none => s)

/-- FRAME_GAP_EXPIRY (R156): the gap in HEADER or BODY exceeds the limit. -/
def execFrameGapExpiry (gap : Nat) (s : State) : Host.Outcome State Fault Refusal :=
  .next
    (match s.cfg with
    | some c => if s.receiving then s.endGap c gap else s
    | none => s)

/-- FOREIGN_FRAME (R157). -/
def execForeignFrame (kind halt : Byte) (seq : Fin 8) (payload : List Word) (s : State) : Host.Outcome State Fault Refusal :=
  .next
    (s.onFrame kind seq (fun _ => halt) payload fun c s =>
      if isForeign c.link.haltId kind halt then s.count .foreignFrame 1 else s)

/-- POLL (R167). -/
def execPoll (seq : Fin 8) (payload : List Word) (s : State) : Host.Outcome State Fault Refusal :=
  .next (s.onFrame 0x01 seq (haltOf .addressed) payload fun c s => s.takeAddressed c 0x01 seq.val payload State.replyJournal)

/-- UPDATE (R163). -/
def execUpdate (seq : Fin 8) (payload : List Word) (s : State) : Host.Outcome State Fault Refusal :=
  .next
    (s.onFrame 0x02 seq (haltOf .addressed) payload fun c s =>
      s.takeAddressed c 0x02 seq.val payload fun s => s.takeUpdate payload)

/-- CLOCK (R164). -/
def execClock (dest : Dest) (seq : Fin 8) (payload : List Word) (s : State) : Host.Outcome State Fault Refusal :=
  .next
    (s.onFrame 0x03 seq (haltOf dest) payload fun c s =>
      match dest with
      | .broadcast => (s.linkUp c).applyClock c payload
      | .addressed =>
        s.takeAddressed c 0x03 seq.val payload fun s =>
          (s.applyClock c payload).answerUnless (clockPayload payload).isNone)

/-- NOTICE (R165). -/
def execNotice (dest : Dest) (seq : Fin 8) (payload : List Word) (s : State) : Host.Outcome State Fault Refusal :=
  .next
    (s.onFrame 0x04 seq (haltOf dest) payload fun c s =>
      match dest with
      | .broadcast => (s.linkUp c).applyNotice payload
      | .addressed =>
        s.takeAddressed c 0x04 seq.val payload fun s =>
          (s.applyNotice payload).answerUnless (noticePayload payload).isNone)

/-- JOURNAL_CONFIRM (R168). -/
def execJournalConfirm (seq : Fin 8) (payload : List Word) (s : State) : Host.Outcome State Fault Refusal :=
  .next
    (s.onFrame 0x05 seq (haltOf .addressed) payload fun c s =>
      s.takeAddressed c 0x05 seq.val payload fun s =>
        match payload with
        | [hi, lo] => (s.confirmSerial (pairVal hi lo)).replyJournal
        | _ => s.replyAck Code.ackBadFrame [])

/-- STATUS_REQUEST (R166). -/
def execStatusRequest (seq : Fin 8) (payload : List Word) (s : State) : Host.Outcome State Fault Refusal :=
  .next (s.onFrame 0x06 seq (haltOf .addressed) payload fun c s => s.takeAddressed c 0x06 seq.val payload State.replyStatus)

/-- FORWARD (R171). -/
def execForward (seq : Fin 8) (payload : List Word) (s : State) : Host.Outcome State Fault Refusal :=
  .next
    (s.onFrame 0x07 seq (haltOf .addressed) payload fun c s =>
      s.takeAddressed c 0x07 seq.val payload fun s => s.takeForward payload)

/-- UNKNOWN_KIND_FRAME (R157, R161). -/
def execUnknownKindFrame (kind : Byte) (seq : Fin 8) (payload : List Word) (s : State) : Host.Outcome State Fault Refusal :=
  .next
    (if isInboundKind kind ∨ isReplyKind kind then s
     else s.onFrame kind seq (haltOf .addressed) payload fun c s =>
       s.takeAddressed c kind seq.val payload State.replyJournal)

/-! ### Meanings: replies, deadline, push -/

/-- REPLY_SEND (R162): none while the host reset input is asserted (R199). -/
def execReplySend (s : State) : Host.Outcome State Fault Refusal :=
  .next
    (match s.link.pending, s.power.reset with
    | some r, false =>
      match r.build with
      | .built bytes =>
        if r.turned s.nowSub then s.modLink fun k => { k with pending := none, sending := some bytes } else s
      | .updating _ _ => s
      | .journal _ _ => s
      | .chainRead _ _ _ => s
      | .chainWrite _ => s
    | _, _ => s)

/-- REPLY_END (R162): the transmit enable is released and reception resumes. -/
def execReplyEnd (s : State) : Host.Outcome State Fault Refusal :=
  .next (s.modLink fun k => { k with sending := none })

/-- LOSS_DEADLINE (R159). -/
def execLossDeadline (s : State) : Host.Outcome State Fault Refusal :=
  .next (if s.reached s.link.lossAt then s.linkLost else s)

/-- JOURNAL_PUSH (R169). -/
def execJournalPush (s : State) : Host.Outcome State Fault Refusal :=
  .next
    (match s.cfg, s.commandArgs .journalPush with
    | some c, some _ =>
      if s.bat.unconfirmed = 0 then s.commandRefused c Code.noRecords
      else (s.modLink fun k => { k with push := true }).commandDone c 0
    | _, _ => s)

end Sys2Proof.Machine
end

