-- ==== Sys2Proof/Machine/Events.lean ====
section
/-! DEFINITION. The remaining events of the activity controller and the announcer: the idle deadline, the supply-low input,
sample periods and PLAY (R137, R139, R146, R149, R153). -/

namespace Sys2Proof.Machine

/-- The clip numbers of a PLAY's arguments, or none when the count or a counted number is out of range (R146). -/
def playClips (args : List Word) : Option (List Nat) :=
  let n := (args.getD 0 0).toNat
  let clips := wordChars args.tail n
  if 1 ≤ n ∧ n ≤ 8 ∧ clips.all (fun k => decide (k ≤ 127)) then some clips else none

/-- A PLAY request is placed under R147 and tested under R151; it is refused when R147 drops it (R146). -/
def State.takePlay (s : State) (c : Settings) (clips : List Nat) : State :=
  let r : AnnReq := { kind := .play, who := none, clips := clips }
  let t := s.takeRequest r
  if (placeRequest s.ann.queue r).2.1 then t.commandDone c 0 else t.commandRefused c Code.queueFull

/-- The input's level becomes what it is driven to. -/
def State.driveSupply (s : State) (asserted : Bool) : State := s.modPower fun p => { p with supplyLow := asserted }

/-! ### Meanings -/

/-- IDLE_DEADLINE (R137). -/
def execIdleDeadline (s : State) : Host.Outcome State Fault Refusal :=
  .next (if s.reached s.act.deadline then s.idleStep else s)

/-- SUPPLY_LOW_CHANGE (R139, R153): the blocks take a change while the part has main power and is out of reset (R135). -/
def execSupplyLowChange (asserted : Bool) (s : State) : Host.Outcome State Fault Refusal :=
  .next
    (let t := s.driveSupply asserted
     if s.power.supplyLow = asserted ∨ s.power.reset ∨ ¬ s.power.main then t
     else (t.supplyMode asserted).annSupply asserted)

/-- SAMPLE_PERIOD (R149, R150). It is the wrap of the pacing count, whatever the count when it is sent (R143; log 52). -/
def execSamplePeriod (s : State) : Host.Outcome State Fault Refusal := .next s.annPeriod

/-- PLAY (R146). -/
def execPlay (s : State) : Host.Outcome State Fault Refusal :=
  .next
    (match s.cfg, s.commandArgs .play with
    | some c, some args =>
      match playClips args with
      | some clips => s.takePlay c clips
      | none => s.commandRefused c Code.badField
    | _, _ => s)

end Sys2Proof.Machine
end

