-- ==== Sys2Proof/Machine/Report.lean ====
section
/-! DEFINITION. The report unit's writer: the report block in memory, the command in work, and the block's first write and
move (chapter 10: R183, R187 to R191). -/

namespace Sys2Proof.Machine

/-! ### The words of the block (R183, R188, R203) -/

/-- The word is written by the part: flags, command result, summary, counters, write index, input entries (R178, R203). -/
def partWritten (o : Nat) : Bool :=
  o == 0 || (decide (13 ≤ o) && decide (o ≤ 26)) || o == 30 || (decide (32 ≤ o) && decide (o ≤ 63))

/-- The value the command result word should show: the result that waits to be written, else the last one written, and 0 after the
first write or the move until there is one (R183, R190, R191). -/
def ReportUnit.result (r : ReportUnit) : Word :=
  match r.command with
  | .answering (a :: _ :: _) => a.val
  | _ => (r.written.getD 13 none).getD 0

/-- The value word `o` of the block should show; the command word as the first write and the move give it (R183, R187, R191). -/
def State.reportValue (s : State) (o : Nat) : Word :=
  if o = 0 then s.rep.flags
  else if o = 1 then s.rep.mask
  else if o = 2 then s.rep.enable
  else if o = 4 then Code.done
  else if 5 ≤ o ∧ o ≤ 12 then Config.freeArgument s.free
  else if o = 13 then s.rep.result
  else if o = 14 then s.summary0
  else if o = 15 then s.summary1
  else if 16 ≤ o ∧ o ≤ 26 then BitVec.ofNat 16 (s.rep.counters.getD (o - 16) 0)
  else if o = 30 then BitVec.ofNat 16 s.rep.inWrite
  else if o = 31 then BitVec.ofNat 16 s.rep.inRead
  else if 32 ≤ o ∧ o ≤ 63 then (s.rep.entries.getD ((o - 32) / 4) []).getD ((o - 32) % 4) 0
  else 0

/-- A word that only the first write and the move write is still to be written (R183, R191). -/
def State.extraDue (s : State) (o : Nat) : Bool := s.rep.extra.contains o

/-- Word `o` is due (R188). -/
def State.wordDue (s : State) (o : Nat) : Bool :=
  (partWritten o && s.rep.written.getD o none != some (s.reportValue o)) || s.extraDue o

/-- The positions of the entries that the write index covers, the newest first: those placed since the index last landed, and those
outstanding (R189; log 69). -/
def State.covered (s : State) : List Nat :=
  (List.range (min 8 (max s.rep.unshown s.outstanding))).map fun k => (s.rep.inWrite + 15 - k) % 8

/-- A word of an entry that the write index covers is due, so the index waits (R188, R189). -/
def State.indexHeld (s : State) : Bool :=
  s.covered.any fun p => [0, 1, 2, 3].any fun k => s.wordDue (32 + 4 * p + k)

/-- The order in which due words are taken: the flags first, then ascending, but for a write index that waits (R188). -/
def reportOrder (held : Bool) : List Nat :=
  List.range 27 ++ (if held then [] else [30]) ++ 31 :: (List.range 32).map (· + 32)

/-- The next word of the block the writer takes (R188). -/
def State.nextWord (s : State) : Option Nat := (reportOrder s.indexHeld).find? s.wordDue

/-! ### The command in work (R190, R191) -/

/-- A command is refused because of the reload (R191). -/
def State.reconfigureCommand (s : State) (c : Settings) : State := s.commandRefused c Code.reconfigured

/-- The words that only the first write or the move writes, but for the command word (R183, R197; log 28). -/
def skipCommand (extra : List Nat) : List Nat := extra.filter fun o => o != 4

/-- A post to the command word: its argument fetch starts, or a reload holds it in its first stage and refuses it at its finishing
stage (R175); a first write or a move under way leaves the command word to the command (R190, R191; log 28). -/
def State.postCommand (s : State) (c : Settings) (code : CommandCode) : State :=
  let s := s.modRep fun r => { r with extra := skipCommand r.extra }
  if s.loader.stage.finishing then s.reconfigureCommand c
  else s.modRep fun r => { r with command := if s.loader.stage.ticketWait then .held code else .fetching code [] }

/-- A command held by a reload that is then rejected goes on as if just posted (R190, R194; log 15). -/
def CommandStage.resumed : CommandStage → CommandStage
  | .held code => .fetching code []
  | c => c

/-- An argument word has been fetched (R190). -/
def State.takeArgument (s : State) (code : CommandCode) (got : List Word) : State :=
  s.modRep fun r => { r with command := if got.length < 8 then .fetching code got else .ready code got }

/-- The command word's result has landed: the busy mark ends and COMMAND is raised (R179, R190). -/
def State.commandLanded (s : State) : State :=
  ((s.modPath fun p => { p with command := .clear }).modRep fun r => { r with command := .idle }).raise .command

/-- The command word left BUSY by a reset is answered like a slot: marked busy, then REFUSED with RESTART (R183, R197; log 28). -/
def State.restartCommand (s : State) (c : Settings) : State :=
  ((s.modPath fun p => { p with command := .restart }).modRep fun r =>
    { r with extra := skipCommand r.extra }).commandRefused c Code.restart

/-- The command word has been read before its first write (R183). -/
def State.takeProbe (s : State) (c : Settings) (w : Word) : State :=
  let s := s.modRep fun r => { r with probe := false }
  if w = Code.busy then s.restartCommand c else s

/-! ### The writer as a requester (R188 to R190) -/

/-- The access of the block's next word: a read of the command word before its first write, else a write. -/
def State.blockWants (s : State) (c : Settings) : Option Access :=
  s.nextWord.map fun o =>
    if o = 4 ∧ s.rep.probe then .read (c.win.reportWord 4) else .write (c.win.reportWord o) (s.reportValue o)

/-- The command whose access comes next: none while the pending flags word is due, since the writer takes that word first, and else
the command in work, whose accesses go before the other words of the block (R188; log 26). -/
def State.commandNext (s : State) : CommandStage := if s.wordDue 0 then .idle else s.rep.command

/-- The writer's next access: one of the command in work, or a word of the block (R188, R190). Both wait until a first acceptance has
started the jobs (R197, stage 4; log 14). -/
def State.reportWants (s : State) : Option Access :=
  match if s.loader.stage.starting then none else s.cfg, s.commandNext with
  | none, _ => none
  | some c, .fetching _ got => some (.read (c.win.reportWord (5 + got.length)))
  | some _, .answering accs => nextWrite accs
  | some c, .idle => s.blockWants c
  | some c, .held _ => s.blockWants c
  | some c, .ready _ _ => s.blockWants c
  | some c, .owned _ => s.blockWants c

/-- A word of the block has landed: its written record, the shown flags, and INPUT with a new write index (R188, R189). -/
def State.wordLanded (s : State) (o : Nat) (v : Word) : State :=
  let s := s.modRep fun r => { r with written := r.written.set o (some v), extra := r.extra.filter (· != o) }
  if o = 0 then s.modRep fun r => { r with shown := some v }
  else if o = 30 ∧ 0 < s.rep.unshown then (s.modRep fun r => { r with unshown := 0 }).raise .input
  else if 5 ≤ o ∧ o ≤ 12 then s.drawn
  else s

/-- The block's access has been served. -/
def State.blockServed (s : State) (c : Settings) (w : Word) : State :=
  match s.nextWord with
  | none => s
  | some o => if o = 4 ∧ s.rep.probe then s.takeProbe c w else s.wordLanded o (s.reportValue o)

/-- The command result word has landed, and its written record is its value; the command word is next (R188, R190). -/
def State.resultLanded (s : State) (v : Word) (rest : List Acc) : State :=
  s.modRep fun r => { r with written := r.written.set 13 (some v), command := .answering rest }

/-- The writer's access has been served. -/
def State.reportServed (s : State) (c : Settings) (w : Word) : State :=
  match s.commandNext with
  | .fetching code got => s.takeArgument code (got ++ [w])
  | .answering (a :: rest) =>
    match rest with
    | [] => s.commandLanded
    | _ :: _ => s.resultLanded a.val rest
  | .answering [] => s
  | .idle => s.blockServed c w
  | .held _ => s.blockServed c w
  | .ready _ _ => s.blockServed c w
  | .owned _ => s.blockServed c w

/-! ### First write and move (R183, R191) -/

/-- The block is to be written for the first time; a command posted before then keeps its word (R183; log 28). -/
def State.startReport (s : State) : State :=
  let words := [1, 2, 3, 4, 5, 6, 7, 8, 9, 10, 11, 12, 31]
  let extra := if s.path.command = .clear then words else skipCommand words
  s.modRep fun r => { r with written := List.replicate 64 none, extra := extra, probe := true }

/-- The block's first write is complete: each of its words has landed, the answer to a command word left BUSY included (R183, R197;
log 14). -/
def State.firstWritten (s : State) : Bool :=
  s.rep.extra.isEmpty && s.path.command != .restart &&
    (List.range 64).all fun o => !partWritten o || (s.rep.written.getD o none).isSome

/-- The block moves to the new report window (R191). -/
def State.moveReport (s : State) : State :=
  s.modRep fun r =>
    { r with written := List.replicate 64 none, shown := none, extra := [1, 2, 3, 4, 31], probe := false }

end Sys2Proof.Machine
end

