-- ==== Sys2Proof/Machine/Path.lean ====
section
/-! DEFINITION. The memory path: host writes by the word they address, posts, dropped writes, observed words, substituted
reads, and the cycles the host has presented (chapter 10: R174 to R181, R184, R185, R189; R39, R73, R193). -/

namespace Sys2Proof.Machine

/-! ### Dropped writes (R178) -/

/-- A write dropped at a busy slot (R178). -/
def State.dropBusy (s : State) : State := (s.count .busyWrite 1).raise .writeDropped

/-- A write dropped in the journal window, at a part-owned word, or as a refused read index (R178, R189). -/
def State.dropProtected (s : State) : State := (s.count .protectedWrite 1).raise .writeDropped

/-! ### Posts (R7, R61, R73, R177, R190, R193) -/

/-- A post to the load word (R193). -/
def State.postLoad (s : State) : State :=
  ((s.poke Config.loadWord Code.loading).modPath fun p => { p with load := .post () }).modLoader fun l =>
    { l with state := .loading, stage := .fetching [] }

/-- A post to an intake slot: BUSY in memory, the mark, the FIFO, and the intake job goes on (R7); a reload in its first stage notes
the slot (R175). -/
def State.postIntake (s : State) (w : Windows) (slot : Nat) : State :=
  ((((s.poke (w.intakeWord slot 0) Code.busy).modPath fun p => { p with intake := p.intake.set slot (.post ()) }).modIntake fun j =>
    { j with fifo := j.fifo ++ [slot] }).modLoader fun l => { l with stage := l.stage.noteSlot slot }).intakeNext

/-- The EXPIRED writes of a slot that have not landed are abandoned when the slot is posted (R73). -/
def State.dropExpired (s : State) (slot : Nat) : State :=
  s.modIssue fun u => { u with accs := u.accs.filter fun a => a.land != .expiredReason slot && a.land != .expiredPost slot }

/-- The issue unit goes on unless a reload's acceptance has stopped it (R198). -/
def State.issueGoOn (s : State) : State :=
  if s.loader.stage.ticketWait then s else s.issueNext

/-- A post to a sale slot (R61, R73). -/
def State.postSale (s : State) (w : Windows) (slot : Nat) (code : SaleCode) : State :=
  ((((s.poke (w.saleWord slot 0) Code.busy).modPath fun p => { p with sale := p.sale.set slot (.post code) }).dropExpired
    slot).modIssue fun u => { u with fifo := u.fifo ++ [slot] }).issueGoOn

/-- A post to the command word (R190). -/
def State.postOrder (s : State) (c : Settings) (code : CommandCode) : State :=
  ((s.poke (c.win.reportWord 4) Code.busy).modPath fun p => { p with command := .post code }).postCommand c code

/-! ### Observed words (R176, R184, R185, R189) -/

/-- A byte write's lanes merged into the part's own copy of a word (R176). -/
def mergeLanes (own v : Word) : Lanes → Word
  | .both => v
  | .high => hiByte v ++ loByte own
  | .low => hiByte own ++ loByte v

/-- A write to the mask (R185). -/
def State.writeMask (s : State) (v : Word) (l : Lanes) : State := s.modRep fun r => { r with mask := mergeLanes r.mask v l }

/-- A write to the global enable (R185). -/
def State.writeEnable (s : State) (v : Word) (l : Lanes) : State :=
  s.modRep fun r => { r with enable := mergeLanes r.enable v l }

/-- A write to the clear word, whose own copy is 0 (R176, R184; log 30). -/
def State.writeClear (s : State) (v : Word) (l : Lanes) : State :=
  s.modRep fun r => { r with flags := r.flags &&& ~~~(mergeLanes 0 v l) }

/-- A read index value the input queue takes (R189). -/
def State.indexOk (s : State) (v : Nat) : Bool :=
  decide (v ≤ 15) && decide ((v + 16 - s.rep.inRead) % 16 ≤ s.outstanding)

/-- A write to the input read index: taken, or dropped and counted as a protected write (R189). -/
def State.writeIndex (s : State) (a : Nat) (v : Word) (l : Lanes) : State :=
  let merged := (mergeLanes (BitVec.ofNat 16 s.rep.inRead) v l).toNat
  if s.indexOk merged then (s.pokeLanes a v l).modRep fun r => { r with inRead := merged } else s.dropProtected

/-! ### Host writes (R174 to R178) -/

/-- A host write inside the load area, or anywhere the map gives no window. -/
def State.passWrite (s : State) (a : Nat) (v : Word) (l : Lanes) : State := s.pokeLanes a v l

/-- A host write into an intake slot (R177, R178). -/
def State.writeIntake (s : State) (w : Windows) (a : Nat) (v : Word) (l : Lanes) : State :=
  let slot := (a - w.intake) / 16
  if s.path.intake.getD slot .clear ≠ .clear then s.dropBusy
  else if (a - w.intake) % 16 = 0 ∧ l = .both ∧ v = Code.submit then s.postIntake w slot
  else s.passWrite a v l

/-- A host write into a sale slot (R177, R178). -/
def State.writeSale (s : State) (w : Windows) (a : Nat) (v : Word) (l : Lanes) : State :=
  let slot := (a - w.sale) / 16
  if s.path.sale.getD slot .clear ≠ .clear then s.dropBusy
  else
    match if (a - w.sale) % 16 = 0 ∧ l = .both then saleOfWord v else none with
    | some code => s.postSale w slot code
    | none => s.passWrite a v l

/-- A host write into the report window (R177, R178). -/
def State.writeReport (s : State) (c : Settings) (a : Nat) (v : Word) (l : Lanes) : State :=
  let o := a - c.win.report
  if 4 ≤ o ∧ o ≤ 13 ∧ s.path.command ≠ .clear then s.dropBusy
  else if partWritten o then s.dropProtected
  else if o = 1 then (s.pokeLanes a v l).writeMask v l
  else if o = 2 then (s.pokeLanes a v l).writeEnable v l
  else if o = 3 then (s.pokeLanes a v l).writeClear v l
  else if o = 31 then s.writeIndex a v l
  else
    match if o = 4 ∧ l = .both then commandOfWord v else none with
    | some code => s.postOrder c code
    | none => s.passWrite a v l

/-- A word lies in a stretch of memory. -/
def inRegion (a base len : Nat) : Bool := decide (base ≤ a) && decide (a < base + len)

/-- A host write while the window map holds a descriptor's windows (R175). -/
def State.writeMapped (s : State) (c : Settings) (a : Nat) (v : Word) (l : Lanes) : State :=
  if inRegion a c.win.intake 256 then s.writeIntake c.win a v l
  else if inRegion a c.win.sale 64 then s.writeSale c.win a v l
  else if inRegion a c.win.report 64 then s.writeReport c a v l
  else if inRegion a c.win.journal (16 + 14 * c.win.jsize) then s.dropProtected
  else s.passWrite a v l

/-- A host write as the memory path takes it (R174, R175, R177, R193; R199 while the reset input is asserted). -/
def State.takeWrite (s : State) (a : Nat) (v : Word) (l : Lanes) : State :=
  if s.power.reset then s.passWrite a v l
  else if s.path.load ≠ .clear ∧ inRegion a Config.loadWord 2048 then s.dropBusy
  else if a = Config.loadWord ∧ l = .both ∧ v = Code.load then s.postLoad
  else
    match s.cfg with
    | some c => s.writeMapped c a v l
    | none => s.passWrite a v l

/-- The write would be dropped: it makes no M-side cycle (R178). -/
def State.drops (s : State) (a : Nat) (v : Word) (l : Lanes) : Bool :=
  !s.power.reset &&
  ((s.path.load != .clear && inRegion a Config.loadWord 2048) ||
  match s.cfg with
  | none => false
  | some c =>
    if inRegion a c.win.intake 256 then s.path.intake.getD ((a - c.win.intake) / 16) .clear != .clear
    else if inRegion a c.win.sale 64 then s.path.sale.getD ((a - c.win.sale) / 16) .clear != .clear
    else if inRegion a c.win.report 64 then
      (inRegion a (c.win.reportWord 4) 10 && s.path.command != .clear) ||
      partWritten (a - c.win.report) ||
      (a == c.win.reportWord 31 && !s.indexOk (mergeLanes (BitVec.ofNat 16 s.rep.inRead) v l).toNat)
    else inRegion a c.win.journal (16 + 14 * c.win.jsize))

/-! ### Host reads (R39, R180) -/

/-- The service minute and second of a reading (R39). -/
def Battery.snapshot (b : Battery) : Snapshot :=
  { day := b.day, minute := b.now / 60, second := b.now % 60, clock := b.clock }

/-- The clock group word an address names, while the map holds a report window (R180). -/
def State.clockWord? (s : State) (a : Nat) : Option Nat :=
  match s.map? with
  | some w => if inRegion a (w.reportWord 27) 3 then some (a - w.reportWord 27) else none
  | none => none

/-- Words 1 and 2 of the clock group as the snapshot latch gives them; 0 while it is empty (R39). -/
def snapshotWord (l : Option Snapshot) (k : Nat) : Word :=
  match l with
  | none => 0
  | some n => if k = 1 then BitVec.ofNat 16 n.minute else BitVec.ofNat 16 (n.clock.code * 256 + n.second)

/-- The data of the last host read answered (log 8). -/
def State.setReadData (s : State) (v : Word) : State := s.modPath fun p => { p with readData := v }

/-- A substituted read of clock group word `k` (R39). -/
def State.readClock (s : State) (k : Nat) : State :=
  if k = 0 then (s.modClk fun c => { c with snapshot := some s.bat.snapshot }).setReadData s.bat.day
  else s.setReadData (snapshotWord s.clk.snapshot k)

/-- A host read as the memory path takes it (R180). -/
def State.takeRead (s : State) (a : Nat) : State :=
  match s.clockWord? a with
  | some k => s.readClock k
  | none => s.setReadData (s.peek a)

/-! ### Cycles the host has presented (R174, R178, R180, R181; log 7) -/

/-- The memory path takes a host cycle (R174). -/
def State.takeCycle (s : State) : HostCycle → State
  | .read a => s.takeRead a.toNat
  | .write a v l => s.takeWrite a.toNat v l

/-- The cycle takes no part cycle: a write that is dropped, or a substituted read (R178, R180). -/
def State.noCycle (s : State) : HostCycle → Bool
  | .read a => (s.clockWord? a.toNat).isSome
  | .write a v l => s.drops a.toNat v l

/-- Set the hold count. -/
def State.setHold (s : State) (n : Nat) : State := s.modPath fun p => { p with hold := n }

/-- The cycles at the front that take no part cycle are taken at once; with none left waiting the hold count is 0 (R178, R181). -/
def State.settleHost (s : State) : List HostCycle → State
  | [] => (s.modPath fun p => { p with waiting := [] }).setHold 0
  | c :: rest =>
    if s.noCycle c then (s.takeCycle c).settleHost rest else s.modPath fun p => { p with waiting := c :: rest }

/-- The host cycle at the front takes the part cycle; the hold count returns to 0 (R181). One that was held, and that a change of the
map or of a busy mark has meanwhile made a dropped write or a substituted read, keeps its place and takes its part cycle too: it is
judged as it is served (R174), the model's choice (log 91). -/
def State.serveHost (s : State) : State :=
  match s.path.waiting with
  | [] => s.setHold 0
  | c :: rest => ((s.takeCycle c).setHold 0).settleHost rest

/-- An urgent requester waits: a screen channel or the announcer (R181). -/
def State.someUrgent (s : State) : Bool :=
  (s.scrA.urgent && s.scrA.wants.isSome) || (s.scrB.urgent && s.scrB.wants.isSome) || (s.annUrgent && s.annWants.isSome)

/-- The host presents a cycle: behind those it has waiting (log 7). -/
def State.queueCycle (s : State) (c : HostCycle) : State :=
  s.settleHost (s.path.waiting ++ [c])

/-- A host cycle is presented and served in the next part cycle it is given: at once when no internal requester is urgent,
otherwise it waits (R181); the part with no main power takes none. -/
def State.present (s : State) (c : HostCycle) : State :=
  if s.power.main then
    let t := s.queueCycle c
    if ! s.power.reset && t.someUrgent then t else t.serveHost
  else s

/-- A host write to word `o` of the report window; there is no such word while the map is none (R175). -/
def State.presentReport (s : State) (o : Nat) (v : Word) (l : Lanes) : State :=
  match s.map? with
  | some w => s.present (.write (BitVec.ofNat 20 (w.reportWord o)) v l)
  | none => s

/-! ### Meanings -/

/-- HOST_WRITE (R174 to R178). -/
def execHostWrite (addr : Addr) (value : Word) (lanes : Lanes) (s : State) : Host.Outcome State Fault Refusal :=
  .next (s.present (.write addr value lanes))

/-- CLEAR_WORD (R184). -/
def execClearWord (value : Word) (lanes : Lanes) (s : State) : Host.Outcome State Fault Refusal :=
  .next (s.presentReport 3 value lanes)

/-- MASK (R185). -/
def execMask (value : Word) (lanes : Lanes) (s : State) : Host.Outcome State Fault Refusal :=
  .next (s.presentReport 1 value lanes)

/-- GLOBAL_ENABLE (R185). -/
def execGlobalEnable (value : Word) (lanes : Lanes) (s : State) : Host.Outcome State Fault Refusal :=
  .next (s.presentReport 2 value lanes)

/-- INPUT_READ_INDEX (R189). -/
def execInputReadIndex (value : Word) (lanes : Lanes) (s : State) : Host.Outcome State Fault Refusal :=
  .next (s.presentReport 31 value lanes)

/-- CLOCK_GROUP_READ (R39, R180). -/
def execClockGroupRead (word : Fin 3) (s : State) : Host.Outcome State Fault Refusal :=
  .next
    (match s.map? with
    | some w => s.present (.read (BitVec.ofNat 20 (w.reportWord (27 + word.val))))
    | none => s)

/-- LOAD (R193). -/
def execLoad (s : State) : Host.Outcome State Fault Refusal :=
  .next (s.present (.write (BitVec.ofNat 20 Config.loadWord) Code.load .both))

/-- SUBMIT (R7). -/
def execSubmit (slot : Fin 16) (s : State) : Host.Outcome State Fault Refusal :=
  .next
    (match s.map? with
    | some w => s.present (.write (BitVec.ofNat 20 (w.intakeWord slot.val 0)) Code.submit .both)
    | none => s)

/-- SALE_SLOT_POST (R61). -/
def execSaleSlotPost (slot : Fin 4) (code : SaleCode) (s : State) : Host.Outcome State Fault Refusal :=
  .next
    (match s.map? with
    | some w => s.present (.write (BitVec.ofNat 20 (w.saleWord slot.val 0)) (saleWord code) .both)
    | none => s)

/-- COMMAND_POST (R190). -/
def execCommandPost (code : CommandCode) (s : State) : Host.Outcome State Fault Refusal :=
  .next (s.presentReport 4 (commandWord code) .both)

end Sys2Proof.Machine
end

