-- ==== Sys2Proof/Machine/Loader.lean ====
section
/-! DEFINITION. The descriptor loader: fetch, rejection, first acceptance and reload acceptance (chapter 11: R192 to R198). -/

namespace Sys2Proof.Machine

/-! ### The end of the load (R196, R197, R198) -/

/-- The writes that end a load: the load result into word 3, then the load word. -/
def loadWrites (result post : Word) (land : Landing) : List Acc :=
  [⟨descAddr 3, result, .plain⟩, ⟨Config.loadWord, post, land⟩]

/-- A load is rejected (R196). -/
def State.rejectLoad (s : State) (reason : Word) : State :=
  s.modLoader fun l => { l with stage := .idle, accs := l.accs ++ loadWrites reason Code.rejected .rejected }

/-- A load is accepted: "none" and ACCEPTED are to be written (R197, R198). -/
def State.acceptLoad (s : State) : State :=
  s.modLoader fun l => { l with stage := .idle, accs := l.accs ++ loadWrites Code.noReason Code.accepted .accepted }

/-- The load word's result has landed: the busy mark ends, the load state follows, CONFIG is raised (R196, R197). -/
def State.loadLanded (s : State) : State :=
  ((s.modPath fun p => { p with load := .clear }).modLoader fun l =>
    { l with state := if s.cfg.isSome then .configured else .unconfigured }).raise .config

/-! ### The fetch (R193) -/

/-- The descriptor words to be fetched, from word 1 on, given those fetched: the format and the length decide after word 2. -/
def fetchOver (got : List Word) : Bool :=
  if got.length < 2 then false
  else if dnat got 1 ≠ 1 ∨ ¬ (256 ≤ dnat got 2 ∧ dnat got 2 ≤ 2048) then true
  else decide (dnat got 2 - 1 ≤ got.length)

/-- A descriptor word has been fetched (R193). -/
def State.takeDescWord (s : State) (got : List Word) : State :=
  s.modLoader fun l => { l with stage := if fetchOver got then .fetched got else .fetching got }

/-- The reason a fetched descriptor is rejected at once: the tests of R194, with JOURNAL_BUSY on a first load only. -/
def State.rejection (s : State) (got : List Word) : Option Word :=
  match descriptorFault got with
  | some r => some r
  | none => if s.cfg.isNone && journalFails s.bat (readSettings got) then some Code.journalBusy else none

/-! ### First acceptance (R197) -/

/-- Stages 1 and 2: the settings, the day-start hour, the journal, and the window map. -/
def State.takeSettings (s : State) (c : Settings) : State :=
  ((((((s.setCfg (some c)).changeHour c c.proj.hour).takeGeometry c).rewriteUnsent).writeMirror).lowAtAcceptance).modLoader
    fun l => { l with stage := .scanning 0 }

/-- Calibration of all eight channels begins, and the first round is due (R87, R88). -/
def State.startPanel (s : State) (p : PanelParams) : State :=
  ([0, 1, 2, 3, 4, 5, 6, 7].foldl (fun s ch => s.startCal p ch) s).modPanel fun q => { q with lastRound := none, roundNo := 0 }

/-- The activity controller takes the acceptance as the start of activity (R135). -/
def State.startActivity (s : State) : State := (s.setMode s.act.ceiling).setDeadline (s.stepAhead s.act.ceiling)

/-- The line receiver is enabled and the chain position set (R155, R170). -/
def State.startLink (s : State) (c : Settings) : State :=
  s.modLink fun k => { k with receiver := .hunt, chainPos := some c.chain }

/-- Both screen channels start scanning (R134). -/
def State.startScreens (s : State) (c : Settings) : State :=
  (s.modScrA (·.start (c.latch .a s.act.mode))).modScrB (·.start (c.latch .b s.act.mode))

/-- Stage 4, when every slot has been examined: the jobs start and go on to the slots posted meanwhile, and the load waits for the
first write of the report block. The controller's mode is set before the screens latch it (log 72). -/
def State.startJobs (s : State) (c : Settings) : State :=
  (((((((s.startPanel c.panel).recompose).startActivity.modAnn fun n => { n with volume := volumeOf s.cfg s.act.ceiling }).startScreens
    c).startLink c).startReport).modLoader fun l => { l with stage := .firstReport }).intakeNext.issueNext

/-- The post word of scanned slot `n`: intake slots 0..15, then sale slots 0..3 (R197, stage 3; log 76). -/
def Windows.scanWord (w : Windows) (n : Nat) : Nat := if n < 16 then w.intakeWord n 0 else w.saleWord (n - 16) 0

/-- The busy mark of scanned slot `n` is clear. -/
def State.scanIdle (s : State) (n : Nat) : Bool :=
  if n < 16 then s.path.intake.getD n .clear == .clear else s.saleIdle (n - 16)

/-- A slot left busy by a reset: its mark is set, and RESTART is to be written into it (R197, stage 3). -/
def State.restartSlot (s : State) (w : Windows) (n : Nat) : State :=
  if n < 16 then
    (s.modPath fun p => { p with intake := p.intake.set n .restart }).modLoader fun l =>
      { l with accs := l.accs ++
          [⟨w.intakeWord n 13, Code.restart, .plain⟩, ⟨w.intakeWord n 14, Code.noEntry, .plain⟩,
           ⟨w.intakeWord n 15, Code.noEntry, .plain⟩, ⟨w.intakeWord n 0, Code.refused, .restartIntake n⟩] }
  else
    (s.modPath fun p => { p with sale := p.sale.set (n - 16) .restart }).modLoader fun l =>
      { l with accs := l.accs ++
          [⟨w.saleWord (n - 16) 8, Code.restart, .plain⟩, ⟨w.saleWord (n - 16) 0, Code.refused, .restartSale (n - 16)⟩] }

/-- The post word of a slot has been read (R197, stage 3). -/
def State.scanSlot (s : State) (c : Settings) (n : Nat) (w : Word) : State :=
  let t := if w = Code.busy ∧ s.scanIdle n then s.restartSlot c.win n else s
  t.modLoader fun l => { l with stage := .scanning (n + 1) }

/-! ### Reload acceptance (R198) -/

/-- A ticket is between its issue check and the landing of its ISSUED (R85, R198, stage 1). -/
def State.ticketInWork (s : State) : Bool :=
  match s.issue.stage with
  | .ticket _ => true
  | .answering => s.issue.accs.any fun a => a.val == Code.issued && (a.land == .salePost (s.issue.fifo.headD 0))
  | .idle => false
  | .fetching _ => false
  | .ready _ => false

/-- The answer writes of a slot that have not landed are abandoned (R85). -/
def State.dropAnswer (s : State) (w : Windows) (slot : Nat) : State :=
  s.modIssue fun u => { u with accs := u.accs.filter fun a => !inRegion a.addr (w.saleWord slot 0) 16 }

/-- The sale slot in work when stage 2 begins: refused with RECONFIGURED, whatever its progress (R85). -/
def State.finishSale (s : State) (c : Settings) : State :=
  match s.issue.fifo, s.issue.stage with
  | slot :: _, .answering => (s.dropAnswer c.win slot).refuseSale c Code.reconfigured
  | _, _ => s.issueNext

/-- The command in work when stage 2 begins: its result if its owner has decided it, else RECONFIGURED (R191). -/
def State.finishCommand (s : State) (c : Settings) : State :=
  let t := (s.modBoard fun b => { b with noticeFetch := none }).modPanel fun p => { p with calMask := none }
  match s.rep.command with
  | .idle => s
  | .answering _ => s
  | .held _ => s.reconfigureCommand c
  | .fetching _ _ => s.reconfigureCommand c
  | .ready _ _ => s.reconfigureCommand c
  | .owned _ => t.reconfigureCommand c

/-- Stage 2 begins: every busy slot and command is finished at its old place (R26, R85, R191), those posted in stage 1 among them
(R175); till then the intake job has gone on with the slots before them (log 15). -/
def State.beginFinish (s : State) (old next : Settings) : State :=
  (((s.modLoader fun l => { l with stage := .reloadFinish next }).intakeNext).finishSale old).finishCommand old

/-- Every slot and command has been finished, and no FORWARD delivery is in progress (R173, R198). The images that an UPDATE frame has
still to apply are not waited for: the model's choice (log 88). -/
def State.slotsFinished (s : State) : Bool :=
  s.intake.fifo.isEmpty && s.issue.fifo.isEmpty && s.rep.command == .idle && s.path.command == .clear && !s.forwarding

/-- Stage 3: every LIVE quote is ended with RECONFIGURED, slot 0 first (R85; log 64). -/
def State.endQuotes (s : State) : State := [0, 1, 2, 3].foldl (fun s slot => s.voidSlot slot .reconfigured) s

/-- The panel unit takes its new parameters: debounce counters 0 and the tracker cleared (R86, R97). -/
def State.reloadPanel (s : State) : State :=
  s.modPanel fun p => { p with chans := p.chans.map fun ch => { ch with debounce := 0 }, tracker := none }

/-- The link takes a reload's settings: a frame in reception is discarded uncounted, a changed halt id empties the history and
the last reply, a changed head sets the position (R170, R173). -/
def State.reloadLink (s : State) (old next : Settings) : State :=
  s.modLink fun k =>
    { k with
      receiver := .hunt
      history := if old.link.haltId = next.link.haltId then k.history else none
      lastReply := if old.link.haltId = next.link.haltId then k.lastReply else none
      chainPos := if old.chain = next.chain then k.chainPos else some next.chain }

/-- Stages 4 to 6, still under the old settings. -/
def State.reloadClear (s : State) : State :=
  (((s.annClear.modSel fun _ => Selection.initial).reloadPanel).recompose).moveReport

/-- Stage 7: the new settings take effect; the volume is that of the mode the re-evaluation leaves (R59, R140, R141, R154). -/
def State.reloadSettings (s : State) (old next : Settings) : State :=
  let s := (((((s.setCfg (some next)).changeHour next next.proj.hour).takeGeometry next).writeMirror).lowAtAcceptance).reloadLink
    old next
  let s := ((s.annSkip next).evalAll next).recomputeList
  s.modAnn fun n => { n with volume := volumeOf (some next) s.act.mode }

/-- Stage 3, and, when every write at the old windows has landed, the later stages. -/
def State.goOnFinish (s : State) (old next : Settings) : State :=
  if s.slotsFinished then
    let s := s.endQuotes
    if s.issue.accs.isEmpty then ((s.reloadClear).reloadSettings old next).acceptLoad else s
  else s

/-- The reload is rejected after stage 1: the issue unit, and the slots and the command posted in that stage, go on under the old
settings (R194; log 15). -/
def State.abandonReload (s : State) : State :=
  ((s.rejectLoad Code.journalBusy).modRep fun r => { r with command := r.command.resumed }).intakeNext.issueGoOn

/-- The end of stage 1: the JOURNAL_BUSY test, then stage 2 (R194, R198). -/
def State.goOnTicket (s : State) (old next : Settings) : State :=
  if s.ticketInWork then s
  else if journalFails s.bat next then s.abandonReload
  else (s.beginFinish old next).goOnFinish old next

/-- An acceptance in stages goes on as far as it can (R197, R198; log 15). -/
def State.settleLoad (s : State) : State :=
  match s.cfg, s.loader.stage with
  | some c, .scanning n => if n = 20 ∧ s.loader.accs.isEmpty then s.startJobs c else s
  | some _, .firstReport => if s.firstWritten then s.acceptLoad else s
  | some c, .reloadTicket next _ => s.goOnTicket c next
  | some c, .reloadFinish next => s.goOnFinish c next
  | _, _ => s

/-! ### The loader as a requester (R182, R193, R197) -/

/-- The loader's next access; a slot's RESTART answer is written before the next slot is read (log 76). -/
def State.loaderWants (s : State) : Option Access :=
  match s.loader.accs, s.loader.stage, s.cfg with
  | a :: _, _, _ => some (.write a.addr a.val)
  | [], .fetching got, _ => some (.read (descAddr (1 + got.length)))
  | [], .scanning n, some c => if n < 20 then some (.read (c.win.scanWord n)) else none
  | [], _, _ => none

/-! ### Meanings -/

/-- DESCRIPTOR_REJECTION (R194, R196): the fetched descriptor fails a test. -/
def execDescriptorRejection (s : State) : Host.Outcome State Fault Refusal :=
  .next
    (match s.loader.stage with
    | .fetched got =>
      match s.rejection got with
      | some r => s.rejectLoad r
      | none => s
    | _ => s)

/-- FIRST_ACCEPTANCE (R197): the fetched descriptor passes every test while nothing is configured. -/
def execFirstAcceptance (s : State) : Host.Outcome State Fault Refusal :=
  .next
    (match s.loader.stage, s.cfg with
    | .fetched got, none =>
      match s.rejection got with
      | none => s.takeSettings (readSettings got)
      | some _ => s
    | _, _ => s)

/-- RELOAD_ACCEPTANCE (R198): the fetched descriptor passes the tests while a descriptor is in force. -/
def execReloadAcceptance (s : State) : Host.Outcome State Fault Refusal :=
  .next
    (match s.loader.stage, s.cfg with
    | .fetched got, some c =>
      match s.rejection got with
      | none => (s.modLoader fun l => { l with stage := .reloadTicket (readSettings got) [] }).goOnTicket c (readSettings got)
      | some _ => s
    | _, _ => s)

end Sys2Proof.Machine
end

