-- ==== Sys2Proof/Machine/Arbiter.lean ====
section
/-! DEFINITION. The M-side arbiter: which claimant takes a part cycle, and what the landing of its access brings about
(chapter 10: R179, R181, R182; R7, R61, R70, R73, R75, R76, R196, R197). -/

namespace Sys2Proof.Machine

/-! ### Landings (R7, R60, R70, R73, R76, R179, R196, R197) -/

/-- An intake slot's post word has landed: the mark ends, the slot leaves the FIFO, INTAKE is raised, the next slot is taken (R7). -/
def State.intakeLanded (s : State) (slot : Nat) : State :=
  (((s.modPath fun p => { p with intake := p.intake.set slot .clear }).modIntake fun j =>
    { j with fifo := j.fifo.tail, stage := .idle }).raise .intake).intakeNext

/-- A quote voided while its QUOTED write was waiting is now shown ended (R70). -/
def State.showVoided (s : State) (slot : Nat) : State :=
  match s.cfg, s.issue.record slot with
  | some c, .voided _ why => s.issueWrites (expiredWrites c.win slot why)
  | _, _ => s

/-- A sale slot's post word has landed: the mark ends, the slot leaves the FIFO, SALE is raised, the next slot is taken (R60, R61). -/
def State.saleLanded (s : State) (slot : Nat) : State :=
  ((((s.modPath fun p => { p with sale := p.sale.set slot .clear }).modIssue fun u =>
    { u with fifo := u.fifo.tail, stage := .idle }).raise .sale).showVoided slot).issueGoOn

/-- EXPIRED has landed: the record becomes NONE and SALE is raised (R60, R73). -/
def State.expiredLanded (s : State) (slot : Nat) : State := (s.setRecord slot .empty).raise .sale

/-- What a landed write brings about beside its word. -/
def State.land (s : State) : Landing → State
  | .plain => s
  | .intakePost slot => s.intakeLanded slot
  | .salePost slot => s.saleLanded slot
  | .expiredReason _ => s
  | .expiredPost slot => s.expiredLanded slot
  | .journalState => s.commitTicket
  | .restartIntake slot => (s.modPath fun p => { p with intake := p.intake.set slot .clear }).raise .intake
  | .restartSale slot => (s.modPath fun p => { p with sale := p.sale.set slot .clear }).raise .sale
  | .accepted => s.loadLanded
  | .rejected => s.loadLanded
  | .commandPost => s.commandLanded
  | .chainFull next => s.forwardDone next

/-! ### The other requesters' accesses (R7, R61, R182) -/

/-- The issue unit's next access: its waiting writes in order, else the fetch of the slot in work (log 54). -/
def State.issueWants (s : State) : Option Access :=
  match s.issue.accs, s.issue.stage, s.issue.fifo, s.cfg with
  | a :: _, _, _, _ => some (.write a.addr a.val)
  | [], .fetching got, slot :: _, some c => some (.read (c.win.saleWord slot (1 + got.length)))
  | [], _, _, _ => none

/-- The issue unit's access has been served: the four request words are fetched one by one (R61, R203). -/
def State.issueServed (s : State) (w : Word) : State :=
  match s.issue.accs, s.issue.stage with
  | a :: rest, _ => (s.modIssue fun u => { u with accs := rest }).land a.land
  | [], .fetching got =>
    let got := got ++ [w]
    s.modIssue fun u => { u with stage := if got.length < 4 then .fetching got else .ready got }
  | [], _ => s

/-- The intake job's next access. -/
def State.intakeWants (s : State) : Option Access :=
  match s.intake.stage, s.intake.fifo, s.cfg with
  | .fetching got, slot :: _, some c => some (.read (c.win.intakeWord slot (1 + got.length)))
  | .answering accs, _, _ => nextWrite accs
  | _, _, _ => none

/-- The intake job's access has been served: nine image words, then the answer's writes (R7, R203). -/
def State.intakeServed (s : State) (c : Settings) (w : Word) : State :=
  match s.intake.stage with
  | .fetching got =>
    let got := got ++ [w]
    if got.length < 9 then s.modIntake fun j => { j with stage := .fetching got } else s.intakeFetched c got
  | .answering (a :: rest) => (s.modIntake fun j => { j with stage := .answering rest }).land a.land
  | .answering [] => s
  | .idle => s
  | .ready _ => s

/-- The loader's access has been served. -/
def State.loaderServed (s : State) (w : Word) : State :=
  match s.loader.accs, s.loader.stage, s.cfg with
  | a :: rest, _, _ => (s.modLoader fun l => { l with accs := rest }).land a.land
  | [], .fetching got, _ => s.takeDescWord (got ++ [w])
  | [], .scanning n, some c => s.scanSlot c n w
  | [], _, _ => s

/-! ### Claimants (R181, R182) -/

/-- The internal requesters, in the order of R182. -/
inductive Requester
  | screenA
  | screenB
  | announcer
  | link
  | issue
  | intake
  | loader
  | composer
  | report
deriving DecidableEq, Repr

/-- The fixed order of R182. -/
def Requester.order : List Requester :=
  [.screenA, .screenB, .announcer, .link, .issue, .intake, .loader, .composer, .report]

/-- The access a requester has waiting. -/
def State.wants (s : State) : Requester → Option Access
  | .screenA => s.scrA.wants.map .read
  | .screenB => s.scrB.wants.map .read
  | .announcer => s.annWants.map .read
  | .link => s.linkWants
  | .issue => s.issueWants
  | .intake => s.intakeWants
  | .loader => s.loaderWants
  | .composer => s.composerWants
  | .report => s.reportWants

/-- A requester is urgent (R181). -/
def State.urgent (s : State) : Requester → Bool
  | .screenA => s.scrA.urgent
  | .screenB => s.scrB.urgent
  | .announcer => s.annUrgent
  | .link => false
  | .issue => false
  | .intake => false
  | .loader => false
  | .composer => false
  | .report => false

/-- The urgent requester that goes first: screen A, screen B, the announcer (R181). -/
def State.firstUrgent (s : State) : Option Requester := Requester.order.find? fun r => s.urgent r && (s.wants r).isSome

/-- The first requester in the fixed order with an access waiting (R182). -/
def State.firstWaiting (s : State) : Option Requester := Requester.order.find? fun r => (s.wants r).isSome

/-- Who takes the part cycle: the host (`inl`), a requester, or nobody (R181, R182; the host alone under the reset input, R199). -/
def State.grant (s : State) : Option (Unit ⊕ Requester) :=
  if s.path.waiting.isEmpty then (if s.power.reset then none else s.firstWaiting.map .inr)
  else if s.power.reset then some (.inl ())
  else
    match s.firstUrgent with
    | some r => if s.path.hold < 4 then some (.inr r) else some (.inl ())
    | none => some (.inl ())

/-- A requester's block takes the word of its access. -/
def State.served (s : State) (r : Requester) (w : Word) : State :=
  match r, s.cfg with
  | .screenA, _ => s.modScrA (·.served w)
  | .screenB, _ => s.modScrB (·.served w)
  | .announcer, _ => s.annServed w
  | .link, some c => s.linkServed c w
  | .issue, _ => s.issueServed w
  | .intake, some c => s.intakeServed c w
  | .loader, _ => s.loaderServed w
  | .composer, _ => s.composerServed w
  | .report, some c => s.reportServed c w
  | .link, none => s
  | .intake, none => s
  | .report, none => s

/-- The hold count after a part cycle that an internal requester took (R181). -/
def State.countHold (s : State) : State := if s.path.waiting.isEmpty then s.setHold 0 else s.setHold (s.path.hold + 1)

/-- A requester takes the part cycle: its access lands, and its block goes on (R181, R182). -/
def State.serve (s : State) (r : Requester) : State :=
  match s.wants r with
  | some a => (((s.landed a).served r (s.fetched a)).countHold).settleLoad
  | none => s.countHold

/-- One part cycle (R181, R182). -/
def State.partCycle (s : State) : State :=
  match s.grant with
  | some (.inl _) => s.serveHost
  | some (.inr r) => s.serve r
  | none => s.setHold 0

/-- The part cycle at hand is the one that completes a ticket's state word write (R75; log 10). -/
def State.commitNext (s : State) : Bool :=
  match s.grant, s.issue.accs with
  | some (.inr .issue), a :: _ => a.land == .journalState
  | _, _ => false

/-! ### Meanings -/

/-- PART_CYCLE (R181), with the host read the host presents, if it presents one. -/
def execPartCycle (hostRead : Option Addr) (s : State) : Host.Outcome State Fault Refusal :=
  .next
    (if s.power.main then
      match hostRead with
      | some a => (s.queueCycle (.read a)).partCycle
      | none => s.partCycle
    else s)

/-- COMMIT (R76): the part cycle in which the state word lands. -/
def execCommit (s : State) : Host.Outcome State Fault Refusal := .next (if s.commitNext then s.partCycle else s)

end Sys2Proof.Machine
end

