-- ==== Sys2Proof/Machine/Reset.lean ====
section
/-! DEFINITION. Power-on, main power loss, the host line reset and the host reset input (R30, R31, R81, R84, R199). -/

namespace Sys2Proof.Machine

/-! ### The main domain (R199) -/

/-- Every main-domain block at the value its chapter gives for a reset; the battery domain, memory, the inputs and the queue stand.
A request already queued at the announcer goes with its queue (R142, R154; log 75). -/
def State.resetMain (s : State) (clk : HaltClock) (flags : Word) : State :=
  { s with
    clk := clk, cfg := none, table := [], dueCount := 0, intake := { fifo := [], stage := .idle },
    issue := IssueUnit.initial, panel := Panel.initial, sel := Selection.initial, board := Board.initial,
    scrA := Scan.initial, scrB := Scan.initial, act := Activity.initial s.power.supplyLow,
    ann := Announcer.initial s.power.supplyLow, link := Link.initial, path := Path.initial,
    rep := ReportUnit.initial flags, loader := Loader.initial }

/-- The send index is set to the confirm index (R81, R199). -/
def Battery.resend (b : Battery) : Battery := { b with send := b.confirm }

/-- A value of the backup divider, open in the spec (log 11). -/
def State.anyDivider (s : State) : Nat := Config.freeDivider s.free % 32768

/-! ### Occasions -/

/-- Main power fails: main-domain state is lost, and the backup divider takes over (R30; log 11, 12). -/
def State.losePower (s : State) : State :=
  ((((s.resetMain (HaltClock.initial 0 0) 0).modBat fun b => { b with divider := s.anyDivider }).modPower fun p =>
    { p with main := false })).drawn

/-- Power-on with the battery domain kept (R30, R199). -/
def State.powerKept (s : State) : State :=
  ((s.modBat Battery.resend).modPower fun p => { p with main := true }).resetMain (HaltClock.initial s.bat.divider 0)
    Flag.resetSeen.word

/-- Power-on with the battery domain lost: initialised, and BACKUP_LOST raised with RESET_SEEN (R31, R84, R199). -/
def State.powerLost (s : State) : State :=
  (((s.modBat fun _ => Battery.initial s.anyDivider).modPower fun p => { p with main := true }).resetMain
    (HaltClock.initial s.anyDivider 0) (Flag.resetSeen.word ||| Flag.backupLost.word)).drawn

/-- The host line reset (R30, R199). -/
def State.lineReset (s : State) : State :=
  ((s.modBat Battery.resend).modPower fun p => { p with reset := false }).resetMain
    (HaltClock.initial s.clk.prescaler s.clk.hold) Flag.resetSeen.word

/-- The host reset input is asserted: host cycles pass unwatched and the transmit enable is released (R162, R199). -/
def State.assertReset (s : State) : State :=
  let s := (s.modPower fun p => { p with reset := true }).modLink fun k => { k with sending := none }
  (s.path.waiting.foldl State.takeCycle s).modPath fun p => { p with waiting := [], hold := 0 }

/-! ### Meanings -/

/-- POWER_ON (R199): the operand says whether the battery domain has kept its supply since its marker was written (R31). -/
def execPowerOn (backupKept : Bool) (s : State) : Host.Outcome State Fault Refusal :=
  .next
    (if s.power.main then s
     else if backupKept && s.bat.marker then s.powerKept
     else s.powerLost)

/-- MAIN_POWER_LOSS (R30). -/
def execMainPowerLoss (s : State) : Host.Outcome State Fault Refusal := .next (if s.power.main then s.losePower else s)

/-- HOST_LINE_RESET (R199): the host reset input is released. -/
def execHostLineReset (s : State) : Host.Outcome State Fault Refusal :=
  .next (if s.power.main && s.power.reset then s.lineReset else s)

/-- HOST_RESET_ASSERTED (R199). -/
def execHostResetAsserted (s : State) : Host.Outcome State Fault Refusal :=
  .next (if s.power.main && !s.power.reset then s.assertReset else s)

end Sys2Proof.Machine
end

