-- ==== Sys2Proof/Machine/Tick.lean ====
section
/-! DEFINITION. One crystal cycle, which is what a step on an empty queue takes: the counters driven by the crystal and the
commands that fall due at it (R27, R29, R30, R143; log 2, 3). -/

namespace Sys2Proof.Machine

/-! ### The counters (R27, R29, R143) -/

/-- The prescaler wraps at this cycle: a halt second falls (R27). -/
def HaltClock.wraps (k : HaltClock) : Bool := k.hold == 0 && k.prescaler == 32767

/-- The prescaler at a cycle at which it does not wrap; the wrap belongs to the halt second (R27). -/
def HaltClock.countPrescaler (k : HaltClock) : HaltClock :=
  if 0 < k.hold then { k with hold := k.hold - 1 }
  else if k.prescaler = 32767 then k
  else { k with prescaler := k.prescaler + 1 }

/-- The uptime after one more crystal cycle; `past` is the second that follows 4,294,967,295 (R29; log 33). -/
def HaltClock.countUptime (k : HaltClock) (past : Nat) : HaltClock :=
  if k.upCyc < 31 then { k with upCyc := k.upCyc + 1 }
  else if k.upSub < 1023 then { k with upCyc := 0, upSub := k.upSub + 1 }
  else { k with upCyc := 0, upSub := 0, upSec := if k.upSec < 4294967295 then k.upSec + 1 else past }

/-- A sub-tick falls at this cycle. -/
def HaltClock.subTick (k : HaltClock) : Bool := k.upCyc == 31

/-- An uptime second falls at this cycle. -/
def HaltClock.upTick (k : HaltClock) : Bool := k.upCyc == 31 && k.upSub == 1023

/-- The uptime leaves its range at this cycle (R29). -/
def HaltClock.upEnds (k : HaltClock) : Bool := k.upTick && decide (4294967295 ≤ k.upSec)

/-- The pacing count wraps at this cycle: a sample period falls (R143). -/
def Announcer.wraps (n : Announcer) : Bool := decide (512 ≤ n.pacing + 125)

/-- The pacing count after one more crystal cycle (R143). -/
def Announcer.pace (n : Announcer) : Announcer := { n with pacing := (n.pacing + 125) % 512 }

/-! ### What falls due (R118, R121, R125, R137, R47, R71, R93, R106, R107, R149, R156, R159, R162) -/

/-- The commands due at an uptime second. -/
def State.dueSecond (s : State) : List Instr :=
  (if s.cfg.isSome then [Instr.stalenessRetest, Instr.dueFlash] else []) ++
  ((List.finRange 4).filter fun slot => s.lapses slot.val).map Instr.quoteLapse ++
  (if s.reached s.act.deadline then [Instr.idleDeadline] else []) ++
  (if noticeOver s.nowSec s.board.lineNotice then [Instr.noticeExpiry .line] else []) ++
  (if noticeOver s.nowSec s.board.ownNotice then [Instr.noticeExpiry .own] else []) ++
  (if s.reached s.link.lossAt then [Instr.lossDeadline] else []) ++
  (match s.cfg with
    | some c => ((List.finRange 8).filter fun ch => s.stuck c.panel ch.val).map Instr.stuckTimeout
    | none => []) ++
  (if s.reached s.sel.leave then [Instr.leaveDeadline] else []) ++
  (if s.reached s.sel.handed then [Instr.handedDeadline] else [])

/-- A built reply whose turnaround has passed waits to be sent (R162). -/
def State.sendDue (s : State) : Bool :=
  match s.link.pending, s.power.reset with
  | some r, false =>
    match r.build with
    | .built _ => r.turned s.nowSub
    | .updating _ _ => false
    | .journal _ _ => false
    | .chainRead _ _ _ => false
    | .chainWrite _ => false
  | _, _ => false

/-- The gap of a frame in reception has exceeded its limit (R156). -/
def State.gapDue (s : State) : Bool :=
  match s.cfg with
  | some c => s.receiving && s.gapOver c 0
  | none => false

/-- The commands due at a sub-tick. -/
def State.dueSub (s : State) : List Instr :=
  ([Screen.a, Screen.b].filter fun scr => scrollDue (s.board.text scr) s.nowSub).map Instr.scrollDeadline ++
  (if s.sendDue then [Instr.replySend] else []) ++ (if s.gapDue then [Instr.frameGapExpiry 0] else [])

/-- A PLAYING announcement is current. -/
def State.playing (s : State) : Bool :=
  match s.ann.current with
  | some a => a.playing
  | none => false

/-- The commands due at a crystal cycle, from the counters before it and the state after it. -/
def State.dueAt (s : State) (k : HaltClock) (n : Announcer) : List Instr :=
  (if k.wraps then [Instr.haltSecond] else []) ++
  (if k.upTick then s.dueSecond else []) ++
  (if k.subTick then s.dueSub else []) ++
  (if n.wraps && s.playing then [Instr.samplePeriod] else [])

/-! ### The cycle -/

/-- Put commands at the end of the queue, in an order drawn from free values (log 3). -/
def State.enqueueDue (s : State) (l : List Instr) : State :=
  { s with pending := s.pending ++ shuffle s.free l, free := s.free + l.length }

/-- The halt second stands ahead of the staleness re-test among the commands of a crystal cycle (R47). -/
def haltFirst : List Instr → Bool
  | [] => false
  | i :: rest => if i = .haltSecond then rest.contains .stalenessRetest else haltFirst rest

/-- Note the uptime second at which a halt second ahead of the re-test is taken (R47; log 3). -/
def HaltClock.noteOrder (k : HaltClock) (sec : Nat) (l : List Instr) : HaltClock :=
  { k with early := if haltFirst l then some sec else none }

/-- A crystal cycle with main power: prescaler, uptime and pacing count, and what falls due. -/
def State.mainCycle (s : State) : State :=
  let past := Config.freeUptime s.free % 4294967296
  let t := (s.modClk fun k => k.countPrescaler.countUptime past).modAnn Announcer.pace
  let t := if s.clk.upEnds then t.drawn else t
  let t := t.enqueueDue (t.dueAt s.clk s.ann)
  t.modClk (·.noteOrder s.clk.upSec t.pending)

/-- A crystal cycle without main power: the backup divider (R30). -/
def State.backupCycle (s : State) : State :=
  if s.bat.divider < 32767 then s.modBat fun b => { b with divider := b.divider + 1 } else s.enqueueDue [Instr.backupSecond]

/-- One crystal cycle. -/
def State.crystalCycle (s : State) : State := if s.power.main then s.mainCycle else s.backupCycle

end Sys2Proof.Machine
end

