-- ==== Sys2Proof/Machine/Dispatch.lean ====
section
/-! DEFINITION. The dispatch: one arm per command of the opcode table, each a direct call of its meaning. -/

namespace Sys2Proof.Machine

/-- A command's effect on everything but the queue of waiting commands. -/
def exec (i : Instr) (s : State) : Host.Outcome State Fault Refusal :=
  match i with
  | .powerOn backupKept => Sys2Proof.Machine.execPowerOn backupKept s
  | .mainPowerLoss => Sys2Proof.Machine.execMainPowerLoss s
  | .backupSecond => Sys2Proof.Machine.execBackupSecond s
  | .hostLineReset => Sys2Proof.Machine.execHostLineReset s
  | .supplyLowChange asserted => Sys2Proof.Machine.execSupplyLowChange asserted s
  | .haltSecond => Sys2Proof.Machine.execHaltSecond s
  | .stalenessRetest => Sys2Proof.Machine.execStalenessRetest s
  | .quoteLapse slot => Sys2Proof.Machine.execQuoteLapse slot s
  | .idleDeadline => Sys2Proof.Machine.execIdleDeadline s
  | .dueFlash => Sys2Proof.Machine.execDueFlash s
  | .noticeExpiry notice => Sys2Proof.Machine.execNoticeExpiry notice s
  | .lossDeadline => Sys2Proof.Machine.execLossDeadline s
  | .stuckTimeout channel => Sys2Proof.Machine.execStuckTimeout channel s
  | .leaveDeadline => Sys2Proof.Machine.execLeaveDeadline s
  | .handedDeadline => Sys2Proof.Machine.execHandedDeadline s
  | .scrollDeadline screen => Sys2Proof.Machine.execScrollDeadline screen s
  | .sampleRound counts => Sys2Proof.Machine.execSampleRound counts s
  | .frameStart screen => Sys2Proof.Machine.execFrameStart screen s
  | .lineStart screen => Sys2Proof.Machine.execLineStart screen s
  | .fetchUrgent screen => Sys2Proof.Machine.execFetchUrgent screen s
  | .samplePeriod => Sys2Proof.Machine.execSamplePeriod s
  | .partCycle hostRead => Sys2Proof.Machine.execPartCycle hostRead s
  | .rowBuild => Sys2Proof.Machine.execRowBuild s
  | .cellRender => Sys2Proof.Machine.execCellRender s
  | .hostWrite addr value lanes => Sys2Proof.Machine.execHostWrite addr value lanes s
  | .clearWord value lanes => Sys2Proof.Machine.execClearWord value lanes s
  | .mask value lanes => Sys2Proof.Machine.execMask value lanes s
  | .globalEnable value lanes => Sys2Proof.Machine.execGlobalEnable value lanes s
  | .inputReadIndex value lanes => Sys2Proof.Machine.execInputReadIndex value lanes s
  | .clockGroupRead word => Sys2Proof.Machine.execClockGroupRead word s
  | .load => Sys2Proof.Machine.execLoad s
  | .descriptorRejection => Sys2Proof.Machine.execDescriptorRejection s
  | .firstAcceptance => Sys2Proof.Machine.execFirstAcceptance s
  | .reloadAcceptance => Sys2Proof.Machine.execReloadAcceptance s
  | .submit slot => Sys2Proof.Machine.execSubmit slot s
  | .record src => Sys2Proof.Machine.execRecord src s
  | .delete src => Sys2Proof.Machine.execDelete src s
  | .cancel src => Sys2Proof.Machine.execCancel src s
  | .reinstate src => Sys2Proof.Machine.execReinstate src s
  | .report src => Sys2Proof.Machine.execReport src s
  | .departed src => Sys2Proof.Machine.execDeparted src s
  | .saleSlotPost slot code => Sys2Proof.Machine.execSaleSlotPost slot code s
  | .quote => Sys2Proof.Machine.execQuote s
  | .issue => Sys2Proof.Machine.execIssue s
  | .commit => Sys2Proof.Machine.execCommit s
  | .release => Sys2Proof.Machine.execRelease s
  | .commandPost code => Sys2Proof.Machine.execCommandPost code s
  | .setClock => Sys2Proof.Machine.execSetClock s
  | .calibrate => Sys2Proof.Machine.execCalibrate s
  | .reseed => Sys2Proof.Machine.execReseed s
  | .play => Sys2Proof.Machine.execPlay s
  | .localNotice => Sys2Proof.Machine.execLocalNotice s
  | .selectionDone => Sys2Proof.Machine.execSelectionDone s
  | .journalPush => Sys2Proof.Machine.execJournalPush s
  | .frameError cause => Sys2Proof.Machine.execFrameError cause s
  | .frameGapExpiry gap => Sys2Proof.Machine.execFrameGapExpiry gap s
  | .foreignFrame kind halt seq payload => Sys2Proof.Machine.execForeignFrame kind halt seq payload s
  | .poll seq payload => Sys2Proof.Machine.execPoll seq payload s
  | .update seq payload => Sys2Proof.Machine.execUpdate seq payload s
  | .clock dest seq payload => Sys2Proof.Machine.execClock dest seq payload s
  | .notice dest seq payload => Sys2Proof.Machine.execNotice dest seq payload s
  | .journalConfirm seq payload => Sys2Proof.Machine.execJournalConfirm seq payload s
  | .statusRequest seq payload => Sys2Proof.Machine.execStatusRequest seq payload s
  | .forward seq payload => Sys2Proof.Machine.execForward seq payload s
  | .unknownKindFrame kind seq payload => Sys2Proof.Machine.execUnknownKindFrame kind seq payload s
  | .replySend => Sys2Proof.Machine.execReplySend s
  | .replyEnd => Sys2Proof.Machine.execReplyEnd s
  | .hostResetAsserted => Sys2Proof.Machine.execHostResetAsserted s

end Sys2Proof.Machine
end

