-- ==== Sys2Proof/Safety.lean ====
section
/-! DEFINITION. What the statements speak of: the frames of the commands' effects, and the invariants of the machine. -/

namespace Sys2Proof.Machine

/-! ### Frames -/

/-- The report unit keeps what only host writes and the writer's own landings change: the mask, the global enable, the shown
flags, the written records and the read index. -/
structure ReportUnit.Keeps (r t : ReportUnit) : Prop where
  shown : t.shown = r.shown
  mask : t.mask = r.mask
  enable : t.enable = r.enable
  inRead : t.inRead = r.inRead
  written : t.written = r.written
  extra : t.extra = r.extra
  probe : t.probe = r.probe

/-- From `s` to `t` nothing has changed but the panel unit, the selection, the composer, the activity controller, the announcer,
and the report unit's flags, counters, input queue and command. -/
structure Front (s t : State) : Prop where
  pending : t.pending = s.pending
  free : t.free = s.free
  mem : t.mem = s.mem
  power : t.power = s.power
  bat : t.bat = s.bat
  clk : t.clk = s.clk
  cfg : t.cfg = s.cfg
  table : t.table = s.table
  dueCount : t.dueCount = s.dueCount
  intake : t.intake = s.intake
  issue : t.issue = s.issue
  scrA : t.scrA = s.scrA
  scrB : t.scrB = s.scrB
  link : t.link = s.link
  path : t.path = s.path
  loader : t.loader = s.loader
  rep : s.rep.Keeps t.rep

/-- From `s` to `t` nothing has changed but what a change of the departure table reaches (R10): the table and its DUE count, the
issue unit, and what `Front` allows; a free value may have been drawn. -/
structure Inner (s t : State) : Prop where
  pending : t.pending = s.pending
  mem : t.mem = s.mem
  power : t.power = s.power
  bat : t.bat = s.bat
  clk : t.clk = s.clk
  cfg : t.cfg = s.cfg
  intake : t.intake = s.intake
  scrA : t.scrA = s.scrA
  scrB : t.scrB = s.scrB
  link : t.link = s.link
  path : t.path = s.path
  loader : t.loader = s.loader
  rep : s.rep.Keeps t.rep

/-! ### What the statements compute with -/

/-- The port serves a host cycle at once: main power, no reset asserted, no cycle waiting, no requester urgent (R181). -/
def State.portFree (s : State) : Prop :=
  s.power.main = true ∧ s.power.reset = false ∧ s.path.waiting = [] ∧ s.someUrgent = false

/-- A requester with an access waiting, and none waits of those before it in the fixed order (R182). -/
def State.turnOf (s : State) (r : Requester) (x : Access) : Prop :=
  s.wants r = some x ∧
  ∃ i : Nat, Requester.order[i]? = some r ∧
    ∀ (j : Nat) (q : Requester), j < i → Requester.order[j]? = some q → s.wants q = none

/-- The requester takes the part cycle at hand with this access: main power, no reset asserted, no host cycle waiting (R181, R182). -/
def State.takesCycle (s : State) (r : Requester) (x : Access) : Prop :=
  s.power.main = true ∧ s.power.reset = false ∧ s.path.waiting = [] ∧ s.turnOf r x

/-- The main domain as `State.reset` has it, but for the supply-low input, the flags pending and the prescaler; the battery
domain, the inputs, memory and the queue stand (R199). -/
def State.mainReset (s : State) (flags : Word) (prescaler hold : Nat) : State :=
  { State.reset with
    pending := s.pending, free := s.free, mem := s.mem, power := s.power, bat := s.bat
    clk := { State.reset.clk with prescaler := prescaler, hold := hold }
    act := { State.reset.act with mode := if s.power.supplyLow then .quiet else .active, supplyLow := s.power.supplyLow }
    ann := { State.reset.ann with supplyLow := s.power.supplyLow }
    rep := { State.reset.rep with flags := flags } }

/-- The report unit with a flag raised (R184). -/
def ReportUnit.raised (r : ReportUnit) (f : Flag) : ReportUnit := { r with flags := r.flags ||| f.word }

/-- The report unit with a counter increased by `n`, holding at 65535 (R186). -/
def ReportUnit.counted (r : ReportUnit) (c : Counter) (n : Nat) : ReportUnit :=
  { r with counters := r.counters.set c.index (min 65535 (r.counters.getD c.index 0 + n)) }

/-- The report unit after an input event: placed while fewer than 8 are outstanding, dropped and counted otherwise (R189). -/
def ReportUnit.tookInput (r : ReportUnit) (kind : InputKind) (dest : Option Nat) (p : Product) (fare uptime : Nat) : ReportUnit :=
  if (r.inWrite + 16 - r.inRead) % 16 < 8 then
    { r with
      entries := r.entries.set (r.inWrite % 8)
        [BitVec.ofNat 16 (kind.code * 256 + dest.getD 255), BitVec.ofNat 16 (p.code * 256 + fare / 65536 % 256),
         BitVec.ofNat 16 fare, BitVec.ofNat 16 uptime]
      inWrite := (r.inWrite + 1) % 16
      unshown := r.unshown + 1 }
  else (r.counted .inputLost 1).raised .inputLost

/-- The report unit with the result of the command in work on its way to memory: the result word, then the command word (R190). -/
def ReportUnit.answered (r : ReportUnit) (c : Settings) (post value : Word) : ReportUnit :=
  { r with command := .answering [⟨c.win.report + 13, value, .plain⟩, ⟨c.win.report + 4, post, .commandPost⟩] }

/-- Rows of a screen's text side marked for rebuilding (R123). -/
def TextScreen.marked (t : TextScreen) (rows : List Nat) : TextScreen :=
  { t with marks := rows.foldl (fun ms r => ms.set r true) t.marks }

/-- Rows 1 to 4 of screen A marked for rebuilding, once a descriptor has been accepted (R123). -/
def State.selectionMarked (s : State) : Board :=
  if s.cfg.isSome then { s.board with a := s.board.a.marked [1, 2, 3, 4] } else s.board

/-- Row 4 of both screens marked for rebuilding, once a descriptor has been accepted (R121). -/
def State.noticesMarked (s : State) (b : Board) : Board :=
  if s.cfg.isSome then { b with a := b.a.marked [4], b := b.b.marked [4] } else b

/-- Civil time one second on (R28). -/
def Battery.nextCivil (b : Battery) : Nat := if b.civil + 1 = 86400 then 0 else b.civil + 1

/-- The service day number one second on (R28). -/
def Battery.nextDay (b : Battery) : Word := if b.nextCivil = 3600 * b.hour then b.day + 1 else b.day

/-! ### The selection's leave deadline and the composer's cells -/

/-- A passenger is near: presence holds, or one of channels 1 to 6 is in TOUCH (R98, R107). -/
def State.near (s : State) : Prop := ∃ ch, ch ≤ 6 ∧ (s.panel.chans.getD ch Channel.initial).state = .active

/-- The states of the selection machine in which a passenger can leave (R107). -/
def SelState.leavable (x : SelState) : Prop := x = .browse ∨ x = .choose ∨ x = .confirm

/-- A leave deadline stands in BROWSE, CHOOSE and CONFIRM exactly while no passenger is near, and in no other state (R107). -/
def State.LeaveKept (s : State) : Prop :=
  (s.sel.state.leavable → (s.sel.leave = none ↔ s.near)) ∧ (¬ s.sel.state.leavable → s.sel.leave = none)

/-- A cell record that takes a formed character, next character, shift and colour pair: one that differs is marked dirty, one that
is the same stands (R124). -/
def Cell.formed (cell : Cell) (char next shift fg bg : Nat) : Cell :=
  { char := some char, next := next, shift := shift, fg := fg, bg := bg
    dirty := cell.dirty || decide (¬ (cell.char = some char ∧ cell.next = next ∧ cell.shift = shift ∧ cell.fg = fg ∧ cell.bg = bg)) }

/-- From `x` to `y` a screen's text side has taken the finished row `b`, at an uptime second and sub-tick, under a mode and a
scroll period: the row's cells, the entry of a departure row, the strip with its offset and deadline for row 4, and nothing
else (R118, R124, R125). -/
structure TextScreen.Took (x y : TextScreen) (b : Build) (mode : Mode) (upSec now period : Nat) : Prop where
  marks : y.marks = x.marks
  entries : y.entries = if 1 ≤ b.row ∧ b.row ≤ 3 then x.entries.set (b.row - 1) b.entry else x.entries
  plain : b.row ≠ 4 → y.strip = x.strip ∧ y.offset = x.offset ∧ y.scrollAt = x.scrollAt
  short : b.row = 4 → b.text.length ≤ 32 → y.strip = b.text ∧ y.offset = 0 ∧ y.scrollAt = none
  same : b.row = 4 → 32 < b.text.length → b.text = x.strip → y.strip = x.strip ∧ y.offset = x.offset ∧ y.scrollAt = x.scrollAt
  fresh : b.row = 4 → 32 < b.text.length → b.text ≠ x.strip →
    y.strip = b.text ∧ y.offset = 0 ∧ (mode = .dormant → y.scrollAt = none) ∧
    (mode ≠ .dormant → ∃ d, y.scrollAt = some (now + d) ∧ period * 1024 ≤ d * 1000 ∧ ∀ k, k < d → k * 1000 < period * 1024)
  others : ∀ i, i / 32 ≠ b.row → y.cells[i]? = x.cells[i]?
  cells : ∀ i cell, i / 32 = b.row → x.cells[i]? = some cell →
    y.cells[i]? = some
      (let pair : Nat × Nat :=
         match b.paint with
         | .steady fg bg => (fg, bg)
         | .flashing fg alert bg => (if upSec % 2 = 0 then fg else alert, bg)
       let char : Nat → Nat := fun k => if 32 ≤ b.text.getD k 32 ∧ b.text.getD k 32 ≤ 127 then b.text.getD k 32 else 63
       let column : Nat := (8 * (i % 32) + y.offset) % (8 * (b.text.length + 8))
       if b.row = 4 ∧ 32 < b.text.length then
         cell.formed (char (column / 8)) (char ((column / 8 + 1) % (b.text.length + 8))) (column % 8) pair.1 pair.2
       else cell.formed (char (i % 32)) 32 0 pair.1 pair.2)

/-! ### Update images, requests and frames -/

/-- The command that applies an image of a kind. -/
def UpdateKind.command (k : UpdateKind) (src : Source) : Instr :=
  match k with
  | .record => .record src
  | .delete => .delete src
  | .cancel => .cancel src
  | .reinstate => .reinstate src
  | .report => .report src
  | .departed => .departed src

/-- The image whose turn a source's job has come to, and its kind. -/
def State.turn (s : State) (src : Source) (im : List Word) (k : UpdateKind) : Prop :=
  imageKind im = some k ∧
  match src with
  | .line => ∃ rest outs, s.link.pending.map Reply.build = some (.updating (im :: rest) outs)
  | .loc => s.intake.stage = .ready im

/-- The outcome of an image handed back to its source's job: the frame goes on, or the slot is answered (R7, R163). -/
def State.handBack (s : State) (c : Settings) (src : Source) (im : List Word) (outcome : Word) : State :=
  match src with
  | .line =>
    match s.link.pending.map Reply.build with
    | some (.updating (_ :: rest) outs) => s.goOnUpdate (outs ++ [outcome.toNat]) rest
    | _ => s
  | .loc => s.answerIntake c (readImage im) outcome

/-- The image passes the field check and the service-day check (R11, R12). -/
def State.accepts (s : State) (c : Settings) (k : UpdateKind) (im : Image) : Prop :=
  imageFieldsOk c k im = true ∧ dayOk s.bat im.tag (s.entry? im.who).isSome = true

/-- No live quote is bound to a departure. -/
def State.noLiveQuote (s : State) (who : TrainId) : Prop :=
  ∀ (slot : Nat) (q : Quote), slot < 4 → s.issue.records.getD slot .empty = .live q → q.bound ≠ some who

/-- The announcer of `t` holds, as its queue and its current announcement, what requests handed to it or withdrawn (`f`) make of
those of `s`, resolved against the table of `t` (R54 to R56, R144, R152). -/
def State.announced (s t : State) (f : State → State) : Prop :=
  let u := f { t with ann := s.ann }
  t.ann.queue = u.ann.queue ∧ t.ann.current = u.ann.current

/-- The sale slot in work answered: its record, the writes of the results and of the post word (R60). -/
def State.saleAnswered (s : State) (c : Settings) (slot : Nat) (r : QuoteRec) (results : List (Nat × Word)) (post : Word) : State :=
  { s with issue := { s.issue with
      records := s.issue.records.set slot r, stage := .answering
      accs := s.issue.accs ++ results.map (fun x => ⟨c.win.sale + 16 * slot + x.1, x.2, .plain⟩) ++
        [⟨c.win.sale + 16 * slot + 0, post, .salePost slot⟩] } }

/-- The line receiver takes a frame: it is enabled, no reply waits and none is being sent (R155, R162). -/
def State.hears (s : State) : Prop := s.link.receiver = .hunt ∧ s.link.pending = none ∧ s.link.sending = none

/-- The link after a good frame: UP, the loss deadline one loss time ahead; LINK is raised when it was not UP (R159). -/
def State.heard (s : State) (c : Settings) : State :=
  { s with
    link := { s.link with state := .up, lossAt := some (s.clk.upSec + c.link.loss) }
    rep := if s.link.state = .up then s.rep else s.rep.raised .link }

/-- The history entry a frame leaves: its sequence number and check word (R158). -/
def Settings.frameMark (c : Settings) (kind : Byte) (seq : Fin 8) (payload : List Word) : Nat × Word :=
  (seq.val, Frame.check { kind := kind, seq := seq.val, halt := BitVec.ofNat 8 c.link.haltId, payload := payload })

/-- A reply waiting since now, under the settings in force, for a frame's sequence number (R162, R173). -/
def State.replyAt (s : State) (c : Settings) (seq : Fin 8) (b : ReplyBuild) : Reply :=
  { since := s.clk.upSec * 1024 + s.clk.upSub, turnaround := c.link.turnaround, haltId := c.link.haltId, seq := seq.val, build := b }

/-- The bytes of a reply frame to a sequence number (R161). -/
def Settings.replyBytes (c : Settings) (seq : Fin 8) (kind : Byte) (payload : List Word) : List Byte :=
  Frame.bytes { kind := kind, seq := seq.val, halt := BitVec.ofNat 8 c.link.haltId, payload := payload }

/-- The link with a new addressed frame in its history and its reply under build (R158, R160, R162). -/
def State.awaiting (s : State) (c : Settings) (kind : Byte) (seq : Fin 8) (payload : List Word) (b : ReplyBuild) : State :=
  { s.heard c with link := { (s.heard c).link with
      history := some (c.frameMark kind seq payload), pending := some (s.replyAt c seq b) } }

/-- A state whose pending reply is built, with a kind and a payload, and kept as the last reply (R158, R160, R161). -/
def State.replied (s : State) (c : Settings) (seq : Fin 8) (kind : Byte) (payload : List Word) : State :=
  { s with link := { s.link with
      pending := s.link.pending.map fun r => { r with build := .built (c.replyBytes seq kind payload) }
      lastReply := some (c.replyBytes seq kind payload) } }

/-- The frame commands that name the part and are answered, with the KIND each stands for (R157, R204). -/
def addressedFrame (i : Instr) : Option (Byte × Fin 8 × List Word) :=
  match i with
  | .poll seq p => some (0x01, seq, p)
  | .update seq p => some (0x02, seq, p)
  | .clock .addressed seq p => some (0x03, seq, p)
  | .notice .addressed seq p => some (0x04, seq, p)
  | .journalConfirm seq p => some (0x05, seq, p)
  | .statusRequest seq p => some (0x06, seq, p)
  | .forward seq p => some (0x07, seq, p)
  | .unknownKindFrame kind seq p => if isInboundKind kind ∨ isReplyKind kind then none else some (kind, seq, p)
  | _ => none

/-! ### Settings of the clock -/

/-- The clock set at once to a civil second and a day: SET, with the prescaler and the slew remainder cleared (R35). -/
def State.setAt (s : State) (civil : Nat) (day : Word) : State :=
  { s with
    bat := { s.bat with civil := civil, day := day, clock := .set }, clk := { s.clk with prescaler := 0, hold := 0, slew := 0 } }

/-- What a setting in range does: a small offset from a SET clock only loads the slew remainder with 16·Δ; any other sets the
clock at once, raises CLOCK, reaches what the departure table reaches, and empties the table when the day goes back or by more
than one (R33, R34, R35). -/
def State.clockTaken (s t : State) (civil : Nat) (day : Word) : Prop :=
  let k : Int := (day - s.bat.day).toInt
  let delta : Int := 86400 * k + ((serviceSecond civil s.bat.hour : Int) - (s.bat.now : Int))
  if s.bat.clock = .set ∧ delta.natAbs ≤ 120 then t = { s with clk := { s.clk with slew := 16 * delta } }
  else Inner (s.setAt civil day) t ∧ t.rep.flags &&& Flag.clock.word = Flag.clock.word ∧ (k ≠ 0 → k ≠ 1 → t.table = [])

/-! ### Invariants -/

/-- The windows of a settings copy are of the kind a descriptor must have to be accepted (R194). -/
def Settings.windowsFit (c : Settings) : Prop := windowsOk c.win = true

/-- The windows in force, and those a reload is about to put in force, fit (R175, R194). -/
def State.WindowsFit (s : State) : Prop :=
  (∀ c, s.cfg = some c → c.windowsFit) ∧
  (∀ c late, s.loader.stage = .reloadTicket c late → c.windowsFit) ∧ (∀ c, s.loader.stage = .reloadFinish c → c.windowsFit)

/-- The host is held for at most 4 part cycles, and not at all while no cycle of its waits (R181). -/
def State.HoldBounded (s : State) : Prop := s.path.hold ≤ 4 ∧ (s.path.waiting = [] → s.path.hold = 0)

/-- The table holds at most 48 entries, no two of one identity (R5). -/
def State.TableSound (s : State) : Prop := s.table.length ≤ 48 ∧ (s.table.map Entry.who).Nodup

/-- The announcer's queue holds at most 4 requests, by priority, no request twice (R147). -/
def State.QueueOrdered (s : State) : Prop :=
  s.ann.queue.length ≤ 4 ∧ (s.ann.queue.Pairwise fun r t => t.kind.priority ≤ r.kind.priority) ∧
  (s.ann.queue.Pairwise fun r t => ¬ (r.kind = t.kind ∧ r.who.isSome = true ∧ r.who = t.who))

/-- Without main power no settings are in force and no descriptor is being loaded, and without settings the table is empty. -/
def State.EmptyBeforeAcceptance (s : State) : Prop :=
  (s.power.main = false → s.cfg = none ∧ s.loader.stage = .idle) ∧ (s.cfg = none → s.table = [])

/-- The table stands in listing order: by relation, then by E, then by train number (R4). -/
def State.Listed (s : State) : Prop :=
  s.table.Pairwise fun x y =>
    (x.relation s.bat).rank < (y.relation s.bat).rank ∨
    ((x.relation s.bat).rank = (y.relation s.bat).rank ∧ (x.exp < y.exp ∨ (x.exp = y.exp ∧ x.train ≤ y.train)))

/-- The DUE count is the number of CURRENT and PREVIOUS entries that are DUE, and the floor is on while it is not 0; the mode is not
DORMANT while there is such an entry, and not ACTIVE while supply-low is asserted (R57, R138). -/
def State.ModeBounded (s : State) : Prop :=
  (s.dueCount = (s.table.filter fun e => e.phase == .due && e.today s.bat).length ∧ (s.act.floor = true ↔ 0 < s.dueCount)) ∧
  ((∃ e ∈ s.table, e.phase = .due ∧ e.today s.bat = true) → s.act.mode ≠ .dormant) ∧
  (s.act.supplyLow = true → s.act.mode ≠ .active)

/-- The journal's indices stand in ring order, confirm, send, write, with at most J entries unconfirmed (R79); a ticket in work has
its slot at the head of the FIFO and an entry free, and the journals of settings about to take effect have room. -/
def State.JournalOrdered (s : State) : Prop :=
  (∀ g, s.bat.geometry = some g →
    0 < g.size ∧ s.bat.write < 2 * g.size ∧ s.bat.send < 2 * g.size ∧ s.bat.confirm < 2 * g.size ∧
    (s.bat.send + 2 * g.size - s.bat.confirm) % (2 * g.size) ≤ (s.bat.write + 2 * g.size - s.bat.confirm) % (2 * g.size) ∧
    (s.bat.write + 2 * g.size - s.bat.confirm) % (2 * g.size) ≤ g.size) ∧
  (∀ k, s.issue.stage = .ticket k → s.issue.fifo ≠ [] ∧ 0 < s.bat.freeEntries) ∧
  (∀ c, (∃ late, s.loader.stage = .reloadTicket c late) ∨ s.loader.stage = .reloadFinish c → 0 < c.win.jsize)

end Sys2Proof.Machine
end

