-- ==== Sys2Proof/Certificates/Slice0/Obligations.lean ====
section
/-! DEFINITION. The statements for the provers. -/

open Sys2Proof Sys2Proof.Machine

/-! ### The step -/

/-- A step takes the command at the front of the queue and executes it on the state with the rest of the queue. -/
def Obligations.StepRunsFrontCommand : Prop :=
  ∀ (c : Instr) (rest : List Instr) (s : State),
    step { s with pending := c :: rest } = exec c { s with pending := rest }

/-- On an empty queue a step is one crystal cycle (log 2, the model's choice): the prescaler, the uptime and the pacing count
advance, a halt second falls due exactly when the prescaler wraps, a sample period when the pacing count does during an
announcement, each command of an uptime second exactly when its deadline has been reached at one, and those of a sub-tick likewise.
What falls due together is queued in a free order, and a halt second ahead of the staleness re-test keeps the uptime second before
(log 3, the model's choice); the second after 4,294,967,295 is open (log 33). A time elapsed since an instant above the present
uptime is 0 (log 86, the model's choice). Without main power the backup divider counts. -/
def Obligations.EmptyQueueTicksTheCrystal : Prop :=
  ∀ s : State, s.pending = [] →
    (s.power.main = true →
      ∃ (q : List Instr) (n past : Nat) (k : HaltClock), past < 4294967296 ∧
        step s = .next { s with pending := q, free := n, clk := k, ann := { s.ann with pacing := (s.ann.pacing + 125) % 512 } } ∧
        k = { s.clk with
          hold := s.clk.hold - 1
          prescaler := if 0 < s.clk.hold ∨ s.clk.prescaler = 32767 then s.clk.prescaler else s.clk.prescaler + 1
          upCyc := if s.clk.upCyc < 31 then s.clk.upCyc + 1 else 0
          upSub := if s.clk.upCyc < 31 then s.clk.upSub else if s.clk.upSub < 1023 then s.clk.upSub + 1 else 0
          upSec := if s.clk.upCyc < 31 ∨ s.clk.upSub < 1023 then s.clk.upSec
                   else if s.clk.upSec < 4294967295 then s.clk.upSec + 1 else past
          early := k.early } ∧
        (k.early = some s.clk.upSec ∨ k.early = none) ∧
        (k.early = some s.clk.upSec ↔ ∃ x y, q = x ++ .haltSecond :: y ∧ Instr.stalenessRetest ∈ y) ∧
        (Instr.haltSecond ∈ q ↔ s.clk.hold = 0 ∧ s.clk.prescaler = 32767) ∧
        (Instr.samplePeriod ∈ q ↔ 512 ≤ s.ann.pacing + 125 ∧ ∃ a, s.ann.current = some a ∧ a.playing = true) ∧
        (let second : Prop := s.clk.upCyc = 31 ∧ s.clk.upSub = 1023
         let elapsed : Option Nat → Prop := fun d => ∃ u, d = some u ∧ u ≤ k.upSec
         (Instr.stalenessRetest ∈ q ↔ second ∧ s.cfg.isSome = true) ∧ (Instr.dueFlash ∈ q ↔ second ∧ s.cfg.isSome = true) ∧
         (∀ slot : Fin 4, Instr.quoteLapse slot ∈ q ↔ second ∧ ∃ x, s.issue.records.getD slot.val .empty = .live x ∧
           s.path.sale.getD slot.val .clear = .clear ∧ x.expiry ≤ k.upSec) ∧
         (Instr.idleDeadline ∈ q ↔ second ∧ elapsed s.act.deadline) ∧
         (Instr.noticeExpiry .line ∈ q ↔ second ∧ elapsed (s.board.lineNotice.map Notice.expiry)) ∧
         (Instr.noticeExpiry .own ∈ q ↔ second ∧ elapsed (s.board.ownNotice.map Notice.expiry)) ∧
         (Instr.lossDeadline ∈ q ↔ second ∧ elapsed s.link.lossAt) ∧
         (∀ ch : Fin 8, Instr.stuckTimeout ch ∈ q ↔ second ∧ ∃ c x u, s.cfg = some c ∧ s.panel.chans[ch.val]? = some x ∧
           x.state = .active ∧ c.panel.stuck ≠ 255 ∧ x.onset = some u ∧
           u + 1024 * c.panel.stuck < k.upSec * 1024 + k.upSub) ∧
         (Instr.leaveDeadline ∈ q ↔ second ∧ elapsed s.sel.leave) ∧ (Instr.handedDeadline ∈ q ↔ second ∧ elapsed s.sel.handed)) ∧
        (let now := k.upSec * 1024 + k.upSub
         (∀ scr : Screen, Instr.scrollDeadline scr ∈ q ↔
           s.clk.upCyc = 31 ∧ ∃ u, (s.board.text scr).scrollAt = some u ∧ u ≤ now) ∧
         (Instr.replySend ∈ q ↔ s.clk.upCyc = 31 ∧ s.power.reset = false ∧ ∃ r bytes, s.link.pending = some r ∧
           r.build = .built bytes ∧ 1024 * r.turnaround ≤ 1000 * (now - r.since)) ∧
         (Instr.frameGapExpiry 0 ∈ q ↔ s.clk.upCyc = 31 ∧ s.link.pending = none ∧ s.link.sending = none ∧
           ∃ c got u, s.cfg = some c ∧ (s.link.receiver = .header got u ∨ s.link.receiver = .body got u) ∧
             1024 * c.link.gap < 1000 * (now - u)))) ∧
    (s.power.main = false →
      step s = .next
        (if s.bat.divider < 32767 then { s with bat := { s.bat with divider := s.bat.divider + 1 } }
         else { s with pending := [.backupSecond], free := s.free + 1 }))

/-! ### Resets and power -/

/-- The whole state at reset, at a first power-on that finds the battery domain lost (R31, R86, R101, R111, R129, R135, R142, R155,
R174, R183, R192): RESET_SEEN and BACKUP_LOST are pending, and nothing is in force or under way. Where the spec gives no value the
model's choice stands: the inputs' levels, the divider and the prescaler (log 5), the memory (log 6), the last data read (log 8), the
level driven (log 19), the screen rendered last (log 31), the colours of an empty cell (log 58). The counter of free values is left
open here (log 3). -/
def Obligations.ResetValues : Prop :=
  let chan : Channel :=
    { state := .uncalibrated, gain := 0, filtered := 0, baseline := 0, delta := 0, debounce := 0, onset := none, calStep := 0 }
  let text : TextScreen :=
    { cells := List.replicate 160 { char := none, next := 32, shift := 0, fg := 0, bg := 0, dirty := false }
      marks := List.replicate 5 false, entries := List.replicate 3 none, strip := [], offset := 0, scrollAt := none }
  let scan : Scan :=
    { scanning := false, latched := none, shown := [], fill := [], pos := .none, fetch := none, lastShown := none, urgent := false }
  State.reset =
    { pending := [], free := State.reset.free, mem := [], power := { main := true, reset := false, supplyLow := false }
      bat :=
        { marker := true, civil := 0, day := 0, clock := .unset, hour := 3, divider := 0, nextSerial := 1, single := ⟨0, 0⟩
          ret := ⟨0, 0⟩, dayTicket := ⟨0, 0⟩, geometry := none, write := 0, send := 0, confirm := 0 }
      clk := { prescaler := 0, hold := 0, slew := 0, upSec := 0, upSub := 0, upCyc := 0, snapshot := none, early := none }
      cfg := none, table := [], dueCount := 0, intake := { fifo := [], stage := .idle }
      issue := { records := [.empty, .empty, .empty, .empty], fifo := [], stage := .idle, accs := [] }
      panel :=
        { chans := List.replicate 8 chan, pos := 0, touched := false, tracker := none, lastRound := none, roundNo := 0
          calMask := none, dests := [] }
      sel := { state := .idle, cursor := none, product := .single, page := 0, leave := none, handed := none }
      board :=
        { a := text, b := text, lineNotice := none, ownNotice := none, noticeFetch := none, build := none, render := none
          lastRendered := .b, lastN := 0 }
      scrA := scan, scrB := scan, act := { mode := .active, deadline := none, floor := false, supplyLow := false }
      ann :=
        { queue := [], current := none, fifo := [], level := 128, driven := 128, supplyLow := false, volume := 16, pacing := 0 }
      link :=
        { receiver := .disabled, state := .silent, lossAt := none, history := none, lastReply := none, pending := none
          sending := none, chainPos := none, push := false }
      path :=
        { load := .clear, command := .clear, intake := List.replicate 16 .clear, sale := List.replicate 4 .clear, hold := 0
          waiting := [], readData := 0 }
      rep :=
        { flags := Flag.resetSeen.word ||| Flag.backupLost.word, shown := none, mask := 0, enable := 0
          counters := List.replicate 11 0, inWrite := 0, inRead := 0, entries := List.replicate 8 [0, 0, 0, 0], unshown := 0
          written := List.replicate 64 none, extra := [], probe := false, command := .idle }
      loader := { state := .unconfigured, stage := .idle, accs := [] } }

/-- POWER_ON: with a marker that reads correctly the battery domain is kept but for the send index, and the prescaler goes on
from the backup divider; otherwise the battery domain is initialised and BACKUP_LOST is raised with RESET_SEEN. The divider
then holds a free value (log 11, the model's choice). -/
def Obligations.PowerOn : Prop :=
  ∀ (kept : Bool) (s : State), s.power.main = false →
    (kept = true ∧ s.bat.marker = true →
      exec (.powerOn kept) s = .next
        { s.mainReset Flag.resetSeen.word s.bat.divider 0 with
          power := { s.power with main := true }, bat := { s.bat with send := s.bat.confirm } }) ∧
    (kept = false ∨ s.bat.marker = false →
      ∃ d, d < 32768 ∧
        exec (.powerOn kept) s = .next
          { s.mainReset (Flag.resetSeen.word ||| Flag.backupLost.word) d 0 with
            free := s.free + 1
            power := { s.power with main := true }
            bat := { marker := true, civil := 0, day := 0, clock := .unset, hour := 3, divider := d, nextSerial := 1,
                     single := ⟨0, 0⟩, ret := ⟨0, 0⟩, dayTicket := ⟨0, 0⟩, geometry := none, write := 0, send := 0,
                     confirm := 0 } })

/-- MAIN_POWER_LOSS loses the main domain and keeps the battery domain, whose divider takes over at a free count (log 11, 12,
the model's choice); BACKUP_SECOND then advances C by one, d with it at the day boundary, and clears the divider, whatever its count
(log 52, the model's choice). -/
def Obligations.PowerLossAndBackupSecond : Prop :=
  (∀ s : State, s.power.main = true →
    ∃ d, d < 32768 ∧
      exec .mainPowerLoss s = .next
        { s.mainReset 0 0 0 with
          free := s.free + 1, power := { s.power with main := false }, bat := { s.bat with divider := d } }) ∧
  (∀ s : State, s.power.main = false →
    exec .backupSecond s = .next
      { s with bat := { s.bat with civil := s.bat.nextCivil, day := s.bat.nextDay, divider := 0 } })

/-- HOST_RESET_ASSERTED: the transmit enable is released, the host cycles waiting pass to memory unwatched, and the rest of
the part stands until the input is released (log 13, the model's choice). HOST_LINE_RESET: every block outside the battery
domain takes its reset values, the prescaler goes on counting, the send index returns to the confirm index, RESET_SEEN alone
is pending, and memory is untouched. -/
def Obligations.HostReset : Prop :=
  (∀ s : State, s.power.main = true → s.power.reset = false →
    ∃ r : Word,
      (s.path.waiting = [] → r = s.path.readData) ∧
      exec .hostResetAsserted s = .next
        { s with
          power := { s.power with reset := true }
          link := { s.link with sending := none }
          path := { s.path with waiting := [], hold := 0, readData := r }
          mem := s.path.waiting.foldl
            (fun m c => match c with | .read _ => m | .write a v l => Memory.writeLanes m a.toNat v l) s.mem }) ∧
  (∀ s : State, s.power.main = true → s.power.reset = true →
    exec .hostLineReset s = .next
      { s.mainReset Flag.resetSeen.word s.clk.prescaler s.clk.hold with
        power := { s.power with reset := false }, bat := { s.bat with send := s.bat.confirm } })

/-- SUPPLY_LOW_CHANGE: an assertion takes ACTIVE down to QUIET with the dormant step time ahead (R139), removes and counts every
queued DELAY (R153); a release changes only the records of the input; without a change, power or freedom from reset only the input
moves (log 46, the model's choice). -/
def Obligations.SupplyLowChange : Prop :=
  ∀ s : State,
    (s.power.main = true → s.power.reset = false → s.power.supplyLow = false →
      exec (.supplyLowChange true) s = .next
        { s with
          power := { s.power with supplyLow := true }
          act := if s.act.mode = .active then
                   { s.act with supplyLow := true, mode := .quiet, deadline := s.cfg.map fun c => s.clk.upSec + c.times.dormant }
                 else { s.act with supplyLow := true }
          ann := { s.ann with
            supplyLow := true
            queue := s.ann.queue.filter fun r => r.kind != .delay
            volume := if s.act.mode = .active then (match s.cfg with | some c => c.ann.volQuiet | none => 16) else s.ann.volume }
          rep := s.rep.counted .annDrop (s.ann.queue.filter fun r => r.kind == .delay).length }) ∧
    (s.power.main = true → s.power.reset = false → s.power.supplyLow = true →
      exec (.supplyLowChange false) s = .next
        { s with
          power := { s.power with supplyLow := false }
          act := { s.act with supplyLow := false }, ann := { s.ann with supplyLow := false } }) ∧
    (∀ level, s.power.supplyLow = level ∨ s.power.reset = true ∨ s.power.main = false →
      exec (.supplyLowChange level) s = .next { s with power := { s.power with supplyLow := level } })

/-! ### Halt seconds -/

/-- HALT_SECOND, whatever the prescaler's count (log 52, the model's choice): C advances by one and d with it at the day boundary;
the prescaler restarts and the slew remainder moves one step toward zero; every change beyond the clock stays within what the
departure table reaches, and before the first acceptance there is none. -/
def Obligations.HaltSecondAdvancesTheClock : Prop :=
  ∀ s : State, s.power.main = true →
    ∃ t, exec .haltSecond s = .next t ∧
      t.bat = { s.bat with civil := s.bat.nextCivil, day := s.bat.nextDay } ∧
      t.clk = { s.clk with
        prescaler := if 0 < s.clk.slew then 2048 else 0
        hold := if s.clk.slew < 0 then 2048 else 0
        slew := if 0 < s.clk.slew then s.clk.slew - 1 else if s.clk.slew < 0 then s.clk.slew + 1 else 0
        early := none } ∧
      Inner { s with bat := t.bat, clk := t.clk } t ∧
      (s.cfg = none → t = { s with bat := t.bat, clk := t.clk })

/-- After a halt second no entry is left that its retirement test would remove: none whose retention has run out, no WAITING or DUE
entry given up as STALE, and no PREVIOUS entry past six hours (R22, R23). With no identity twice, the table then holds exactly the
entries it held that no test removes and that, at a day rollover, are not two days off (R24), each as its evaluation leaves it:
classified and tested for its phase at the new second (R46, R50, R51, R54). The reports' age is taken at the uptime, or, for a halt
second drawn ahead of the uptime second of its crystal cycle, at the second before (log 3, the model's choice), and is 0 for an
arrival above it (log 86, the model's choice). -/
def Obligations.HaltSecondRetires : Prop :=
  ∀ (s t : State) (c : Settings), s.cfg = some c → exec .haltSecond s = .next t → s.power.main = true →
    let removed : Entry → Prop := fun e =>
      ((e.phase = .departed ∨ e.phase = .cancelled) ∧ (e.exp : Int) + c.proj.retention ≤ e.now t.bat) ∨
      ((e.phase = .waiting ∨ e.phase = .due) ∧ e.timeliness = .stale ∧ (e.sched : Int) + c.proj.abandon ≤ e.now t.bat) ∨
      (e.relation t.bat = .previous ∧ 21600 ≤ t.bat.now)
    let uptime : Nat := s.clk.early.getD s.clk.upSec
    let evaluated : Entry → Entry := fun e =>
      let tl : Timeliness :=
        match e.report with
        | none => .noReport
        | some r => if s.bat.clock = .set ∧ c.proj.stale < uptime - r.arrival then .stale
                    else if c.proj.late ≤ e.hm then .late else .onTime
      let ph : Phase :=
        if e.phase = .departed ∨ e.phase = .cancelled then e.phase
        else if s.bat.clock = .unset then .waiting
        else if tl ≠ .stale ∧ (e.exp : Int) + c.proj.grace ≤ e.now t.bat then .departed
        else if (e.exp : Int) - c.proj.window ≤ e.now t.bat then .due else e.phase
      { e with
        timeliness := tl, phase := ph
        dueAnn := if ph = .due ∧ e.phase ≠ .due then true else if ph = .waiting ∧ e.phase = .due then false else e.dueAnn }
    (∀ e ∈ t.table, ¬ removed e) ∧
    (s.TableSound → ∀ x, x ∈ t.table ↔
      ∃ e ∈ s.table, x = evaluated e ∧ ¬ removed x ∧ (t.bat.day ≠ s.bat.day → e.relation t.bat ≠ .unheld))

/-! ### Uptime seconds -/

/-- STALENESS_RETEST: exactly the entries whose report is older than the stale limit become STALE, while the clock is SET; the
change stays within what the table reaches. It is taken at the present uptime, whatever the instant (log 52, the model's choice),
and the age of a report whose arrival lies above it is 0 (log 86, the model's choice). -/
def Obligations.StalenessRetest : Prop :=
  ∀ (s : State) (c : Settings), s.cfg = some c →
    ∃ t, exec .stalenessRetest s = .next t ∧ Inner s t ∧
      t.table = s.table.map fun e =>
        match e.report with
        | some r => if s.bat.clock = .set ∧ c.proj.stale < s.clk.upSec - r.arrival then { e with timeliness := .stale } else e
        | none => e

/-- QUOTE_LAPSE: a LIVE quote of an idle slot whose expiry uptime is reached becomes VOIDED with reason "none", and the issue
unit has the reason word and EXPIRED to write; a busy slot's quote, and one not yet expired, stand. -/
def Obligations.QuoteLapse : Prop :=
  ∀ (s : State) (c : Settings) (slot : Fin 4) (q : Quote), s.cfg = some c →
    s.issue.records.getD slot.val .empty = .live q →
    (s.path.sale.getD slot.val .clear = .clear ∧ q.expiry ≤ s.clk.upSec →
      exec (.quoteLapse slot) s = .next
        { s with issue := { s.issue with
            records := s.issue.records.set slot.val (.voided q .none)
            accs := s.issue.accs ++
              [⟨c.win.sale + 16 * slot.val + 8, 0, .expiredReason slot.val⟩,
               ⟨c.win.sale + 16 * slot.val + 0, Code.expired, .expiredPost slot.val⟩] } }) ∧
    (s.path.sale.getD slot.val .clear ≠ .clear ∨ s.clk.upSec < q.expiry → exec (.quoteLapse slot) s = .next s)

/-- IDLE_DEADLINE: ACTIVE steps to QUIET with the dormant step time ahead; QUIET steps to DORMANT, its scrolls stopped and its
rounds numbered from 0, or is held by the DUE floor; the deadline is then none. -/
def Obligations.IdleDeadline : Prop :=
  ∀ (s : State) (d : Nat), s.act.deadline = some d →
    (s.clk.upSec < d → exec .idleDeadline s = .next s) ∧
    (d ≤ s.clk.upSec →
      (s.act.mode = .active → exec .idleDeadline s = .next
        { s with
          act := { s.act with mode := .quiet, deadline := s.cfg.map fun c => s.clk.upSec + c.times.dormant }
          ann := { s.ann with volume := match s.cfg with | some c => c.ann.volQuiet | none => 16 } }) ∧
      (s.act.mode = .quiet → s.act.floor = true → exec .idleDeadline s = .next { s with act := { s.act with deadline := none } }) ∧
      (s.act.mode = .quiet → s.act.floor = false →
        ∃ a b : TextScreen,
          exec .idleDeadline s = .next
            { s with
              act := { s.act with mode := .dormant, deadline := none }
              ann := { s.ann with volume := match s.cfg with | some c => c.ann.volDormant | none => 16 }
              panel := { s.panel with roundNo := 0 }
              board := { s.board with a := a, b := b } } ∧
          a.scrollAt = none ∧ b.scrollAt = none ∧ (32 < s.board.a.strip.length → a.offset = 0) ∧
          (32 < s.board.b.strip.length → b.offset = 0) ∧
          (a.marks = s.board.a.marks ∧ a.strip = s.board.a.strip ∧ b.marks = s.board.b.marks ∧ b.strip = s.board.b.strip)) ∧
      (s.act.mode = .dormant → exec .idleDeadline s = .next { s with act := { s.act with deadline := none } }))

/-- DUE_FLASH: the cells of a departure row that shows a flashing entry take the row's foreground at an even uptime second and
the alert foreground at an odd one, dirty where it differs; every other cell stands. The row's entry is the one recorded at
its last build (log 34), and the second is the present one, whatever the instant (log 52, the model's choice). -/
def Obligations.DueFlash : Prop :=
  ∀ (s : State) (c : Settings), s.cfg = some c →
    ∃ a b : List Cell,
      exec .dueFlash s = .next
        { s with board := { s.board with a := { s.board.a with cells := a }, b := { s.board.b with cells := b } } } ∧
      (∀ i, a[i]? = (s.board.a.cells[i]?).map fun cell =>
        if 1 ≤ i / 32 ∧ i / 32 ≤ 3 ∧ s.rowFlashes s.board.a (i / 32) then
          cell.recolour (if s.clk.upSec % 2 = 0 then (c.scr.colA.rows.getD (i / 32) (0, 0)).1 else c.scr.colA.alert)
        else cell) ∧
      (∀ i, b[i]? = (s.board.b.cells[i]?).map fun cell =>
        if 1 ≤ i / 32 ∧ i / 32 ≤ 3 ∧ s.rowFlashes s.board.b (i / 32) then
          cell.recolour (if s.clk.upSec % 2 = 0 then (c.scr.colB.rows.getD (i / 32) (0, 0)).1 else c.scr.colB.alert)
        else cell)

/-- NOTICE_EXPIRY: a notice whose expiry uptime is reached becomes absent and row 4 of both screens is marked; one not reached
stands. -/
def Obligations.NoticeExpiry : Prop :=
  ∀ (s : State) (n : Notice),
    (s.board.lineNotice = some n →
      (n.expiry ≤ s.clk.upSec → exec (.noticeExpiry .line) s = .next
        { s with board := s.noticesMarked { s.board with lineNotice := none } }) ∧
      (s.clk.upSec < n.expiry → exec (.noticeExpiry .line) s = .next s)) ∧
    (s.board.ownNotice = some n →
      (n.expiry ≤ s.clk.upSec → exec (.noticeExpiry .own) s = .next
        { s with board := s.noticesMarked { s.board with ownNotice := none } }) ∧
      (s.clk.upSec < n.expiry → exec (.noticeExpiry .own) s = .next s))

/-- LOSS_DEADLINE: the link becomes LOST, LINK is raised, the deadline, history, last reply and push mark are emptied, the
send index returns to the confirm index, and the SENT entries between are to be rewritten UNSENT (R81, R159, R169), from the confirm index
upward round the ring, an order the spec does not give (log 71, the model's choice); nothing happens before the deadline. -/
def Obligations.LossDeadline : Prop :=
  ∀ (s : State) (d : Nat), s.link.lossAt = some d →
    (s.clk.upSec < d → exec .lossDeadline s = .next s) ∧
    (d ≤ s.clk.upSec →
      exec .lossDeadline s = .next
        { s with
          link := { s.link with state := .lost, lossAt := none, history := none, lastReply := none, push := false }
          rep := s.rep.raised .link
          bat := { s.bat with send := if s.bat.geometry.isSome then s.bat.confirm else s.bat.send }
          issue := { s.issue with accs := s.issue.accs ++
            match s.bat.geometry with
            | none => []
            | some g =>
              (List.range ((s.bat.send + 2 * g.size - s.bat.confirm) % (2 * g.size))).map fun k =>
                ⟨g.base + 16 + 14 * ((s.bat.confirm + k) % (2 * g.size) % g.size) + 13, Code.unsent, .plain⟩ } })

/-- STUCK_TIMEOUT: a channel held ACTIVE beyond the stuck timeout is released and reseeded, or sent to calibration when its
count lies outside the band; one panel fault is counted and PANEL_FAULT raised; the other channels stand unless it is the rain
reference. A channel that is not stuck stands. The timeout is tested when the command is taken, also between two uptime seconds
(log 52, the model's choice). -/
def Obligations.StuckTimeout : Prop :=
  ∀ (s : State) (c : Settings) (ch : Fin 8) (x : Channel) (at_ : Nat), s.cfg = some c → s.panel.chans[ch.val]? = some x →
    x.state = .active → x.onset = some at_ →
    (c.panel.stuck ≠ 255 ∧ at_ + 1024 * c.panel.stuck < s.clk.upSec * 1024 + s.clk.upSub →
      ∃ t, exec (.stuckTimeout ch) s = .next t ∧ Front s t ∧
        t.rep = (s.rep.counted .panelFault 1).raised .panelFault ∧
        t.panel.chans[ch.val]? = some
          (if (x.filtered.tdiv 16 - c.panel.target).natAbs ≤ c.panel.target / 8 then
            { x with state := .idle, debounce := 0, baseline := x.filtered, delta := 0 }
           else { x with state := .calibrating, debounce := 0, baseline := x.filtered, delta := 0, gain := 0, calStep := 0 }) ∧
        (ch.val ≠ 7 → ∀ k, k ≠ ch.val → t.panel.chans[k]? = s.panel.chans[k]?)) ∧
    (c.panel.stuck = 255 ∨ s.clk.upSec * 1024 + s.clk.upSub ≤ at_ + 1024 * c.panel.stuck →
      exec (.stuckTimeout ch) s = .next s)

/-- LEAVE_DEADLINE: from CHOOSE or CONFIRM a LEFT event is taken, from BROWSE none; the selection returns to IDLE with page 0,
no cursor and SINGLE. HANDED_DEADLINE: a TIMEOUT event is taken and the selection returns to IDLE with page 0, its cursor and
product standing (log 32, the model's choice). Nothing happens before either deadline. -/
def Obligations.SelectionDeadlines : Prop :=
  (∀ (s : State) (d : Nat), s.sel.leave = some d →
    (s.clk.upSec < d → exec .leaveDeadline s = .next s) ∧
    (d ≤ s.clk.upSec → s.sel.state = .browse ∨ s.sel.state = .choose ∨ s.sel.state = .confirm →
      exec .leaveDeadline s = .next
        { s with
          sel := { state := .idle, cursor := none, product := .single, page := 0, leave := none, handed := none }
          board := s.selectionMarked
          rep := if s.sel.state = .browse then s.rep
                 else s.rep.tookInput .left s.sel.cursor s.sel.product 0 s.clk.upSec })) ∧
  (∀ (s : State) (d : Nat), s.sel.handed = some d →
    (s.clk.upSec < d ∨ s.sel.state ≠ .handed → exec .handedDeadline s = .next s) ∧
    (d ≤ s.clk.upSec → s.sel.state = .handed →
      exec .handedDeadline s = .next
        { s with
          sel := { s.sel with state := .idle, page := 0, leave := none, handed := none }
          board := s.selectionMarked
          rep := s.rep.tookInput .timeout s.sel.cursor s.sel.product 0 s.clk.upSec }))

/-- SCROLL_DEADLINE: the offset advances by the scroll step modulo the strip length, every cell of row 4 is recomputed and
dirty, the next deadline is one period ahead, and the other rows stand; nothing happens before the deadline. -/
def Obligations.ScrollDeadline : Prop :=
  ∀ (s : State) (c : Settings) (scr : Screen) (d : Nat), s.cfg = some c → (s.board.text scr).scrollAt = some d →
    (s.clk.upSec * 1024 + s.clk.upSub < d → exec (.scrollDeadline scr) s = .next s) ∧
    (d ≤ s.clk.upSec * 1024 + s.clk.upSub →
      ∃ (x : TextScreen) (o : Nat),
        o = ((s.board.text scr).offset + c.scr.scrollStep) % (8 * ((s.board.text scr).strip.length + 8)) ∧
        exec (.scrollDeadline scr) s = .next { s with board := s.board.modText scr fun _ => x } ∧
        x = { s.board.text scr with
          offset := o, cells := x.cells
          scrollAt := some (s.clk.upSec * 1024 + s.clk.upSub + (c.scr.scrollPeriod * 1024 + 999) / 1000) } ∧
        (∀ i, i < 128 → x.cells[i]? = (s.board.text scr).cells[i]?) ∧
        (∀ i, i < 32 → x.cells[128 + i]? = ((s.board.text scr).cells[128 + i]?).map fun cell =>
          { cell with
            char := some (stripCell (s.board.text scr).strip o i).1, next := (stripCell (s.board.text scr).strip o i).2.1
            shift := (stripCell (s.board.text scr).strip o i).2.2, dirty := true }))

/-! ### The panel and the selection -/

/-- SAMPLE_ROUND: a round that is due notes its start, and the proximity plate, sampled in every round, passes its filters and
its threshold; in DORMANT seven rounds of eight sample the plate alone, and leave every other channel, the slider position and the
gesture tracker (R87). A round that is not due leaves the state (log 1, the model's choice). -/
def Obligations.SampleRoundSensesThePlate : Prop :=
  ∀ (s : State) (c : Settings) (counts : List Nat), s.cfg = some c → s.loader.stage.starting = false →
    (∀ u, s.panel.lastRound = some u → s.clk.upSec * 1024 + s.clk.upSub < u + s.act.mode.period →
      exec (.sampleRound counts) s = .next s) ∧
    ((∀ u, s.panel.lastRound = some u → u + s.act.mode.period ≤ s.clk.upSec * 1024 + s.clk.upSub) →
      ∃ t, exec (.sampleRound counts) s = .next t ∧ Front s t ∧
        t.panel.lastRound = some (s.clk.upSec * 1024 + s.clk.upSub) ∧
        t.panel.roundNo = (if s.act.mode = .dormant then s.panel.roundNo + 1 else s.panel.roundNo) ∧
        (s.act.mode = .dormant → s.panel.roundNo % 8 ≠ 0 →
          (∀ ch, 1 ≤ ch → t.panel.chans[ch]? = s.panel.chans[ch]?) ∧ t.panel.pos = s.panel.pos ∧
          t.panel.tracker = s.panel.tracker ∧ t.panel.touched = s.panel.touched) ∧
        ∀ x, s.panel.chans[0]? = some x → x.state = .idle ∨ x.state = .active →
          ∃ y, t.panel.chans[0]? = some y ∧ y.gain = x.gain ∧
            y.filtered = x.filtered + (16 * ((min (counts.getD 0 0) 4095 : Nat) : Int) - x.filtered) / 2 ^ c.panel.filter ∧
            y.baseline = (if x.state = .idle then
              x.baseline + (y.filtered - x.baseline) / 2 ^ (if s.act.mode = .active then c.panel.shiftActive else c.panel.shiftQuiet)
              else x.baseline) ∧
            y.delta = (y.baseline - y.filtered).tdiv 16 ∧
            (let qual : Prop := if x.state = .idle then (c.panel.prox : Int) ≤ y.delta
                                else y.delta < (c.panel.prox : Int) - (c.panel.prox / 4 : Nat)
             (¬ qual → y.state = x.state ∧ y.debounce = 0 ∧ y.onset = x.onset) ∧
             (qual → x.debounce + 1 < c.panel.debounce → y.state = x.state ∧ y.debounce = x.debounce + 1 ∧ y.onset = x.onset) ∧
             (qual → c.panel.debounce ≤ x.debounce + 1 →
               y.debounce = 0 ∧
               (x.state = .idle → y.state = .active ∧ y.onset = some (s.clk.upSec * 1024 + s.clk.upSub)) ∧
               (x.state = .active → y.state = .idle ∧ y.onset = x.onset))))

/-- A due round that samples all eight channels: every IDLE or ACTIVE channel passes its filters and, but for the touch channels
while the rain reference is or becomes WET, its threshold (R90, R91); a channel in calibration takes one gain bit, or ends IDLE, or
FAILED outside the band, counted as a panel fault with PANEL_FAULT raised (R88). A rain reference that becomes WET releases the
touch channels and clears the tracker (R94); one that ends WET has the idle ones reseeded, or calibrated outside the band (R95). The
slider position and the gesture tracker follow (`State.slide`; R96, R97), and the selection takes the round's events in the order of
R99; an onset is an activity event. A CALIBRATE in work is tested for its end after the whole round (`State.finishCal`; log 56, the
model's choice). A time elapsed since an instant above the present uptime is 0 (log 86, the model's choice). -/
def Obligations.SampleRoundFiltersAndCalibrates : Prop :=
  (∀ (s : State) (c : Settings) (counts : List Nat), s.cfg = some c → s.loader.stage.starting = false →
    (∀ u, s.panel.lastRound = some u → u + s.act.mode.period ≤ s.clk.upSec * 1024 + s.clk.upSub) →
    (s.act.mode ≠ .dormant ∨ s.panel.roundNo % 8 = 0) →
    1 ≤ c.panel.prox → 1 ≤ c.panel.touch → 1 ≤ c.panel.wet →
    ∃ t, exec (.sampleRound counts) s = .next t ∧ Front s t ∧
      (∀ (ch : Nat) (x : Channel), ch < 8 → s.panel.chans[ch]? = some x →
        ∃ y, t.panel.chans[ch]? = some y ∧
          (let r : Nat := min (counts.getD ch 0) 4095
           let f : Int := x.filtered + (16 * (r : Int) - x.filtered) / 2 ^ c.panel.filter
           let touch : Prop := 1 ≤ ch ∧ ch ≤ 6
           (x.state = .idle ∨ x.state = .active → y.filtered = f ∧
             (¬ (touch ∧ x.state = .idle ∧ s.wet = true ∧ t.wet = false) →
               y.gain = x.gain ∧
               y.baseline = (if x.state = .idle then
                 x.baseline + (f - x.baseline) / 2 ^ (if s.act.mode = .active then c.panel.shiftActive else c.panel.shiftQuiet)
                 else x.baseline) ∧
               y.delta = (y.baseline - f).tdiv 16) ∧
             (touch ∧ x.state = .idle ∧ s.wet = true ∧ t.wet = false →
               y.baseline = f ∧ y.delta = 0 ∧ y.debounce = 0 ∧
               (if (f.tdiv 16 - (c.panel.target : Int)).natAbs ≤ c.panel.target / 8 then y.state = .idle ∧ y.gain = x.gain
                else y.state = .calibrating ∧ y.gain = 0 ∧ y.calStep = 0)) ∧
             (touch ∧ s.wet = false ∧ t.wet = true → y.state = .idle ∧ y.debounce = 0) ∧
             (touch ∧ s.wet = true ∧ t.wet = true → y.state = x.state ∧ y.debounce = 0) ∧
             (¬ touch ∨ s.wet = false ∧ t.wet = false →
               let thr : Nat := if ch = 0 then c.panel.prox else if ch = 7 then c.panel.wet else c.panel.touch
               let qual : Prop := if x.state = .idle then (thr : Int) ≤ y.delta else y.delta < (thr : Int) - (thr / 4 : Nat)
               (¬ qual → y.state = x.state ∧ y.debounce = 0 ∧ y.onset = x.onset) ∧
               (qual → x.debounce + 1 < c.panel.debounce →
                 y.state = x.state ∧ y.debounce = x.debounce + 1 ∧ y.onset = x.onset) ∧
               (qual → c.panel.debounce ≤ x.debounce + 1 →
                 y.debounce = 0 ∧
                 (x.state = .idle → y.state = .active ∧ y.onset = some (s.clk.upSec * 1024 + s.clk.upSub)) ∧
                 (x.state = .active → y.state = .idle ∧ y.onset = x.onset)))) ∧
           (x.state = .calibrating → x.calStep < 6 →
             y.state = .calibrating ∧ y.calStep = x.calStep + 1 ∧
             y.gain = if r ≤ c.panel.target then x.gain + 2 ^ (5 - x.calStep) else x.gain) ∧
           (x.state = .calibrating → 6 ≤ x.calStep →
             y.gain = x.gain ∧
             (((r : Int) - c.panel.target).natAbs ≤ c.panel.target / 8 →
               y.state = .idle ∧ y.debounce = 0 ∧ y.filtered = 16 * r ∧ y.baseline = 16 * r ∧ y.delta = 0) ∧
             (¬ ((r : Int) - c.panel.target).natAbs ≤ c.panel.target / 8 → y.state = .failed)) ∧
           (x.state = .uncalibrated ∨ x.state = .failed → y.state = x.state))) ∧
      (s.wet = false → t.wet = true → t.panel.tracker = none ∧ t.panel.touched = false) ∧
      (let failing : Nat := ((List.range 8).filter fun ch =>
         match s.panel.chans[ch]? with
         | some x => x.state == .calibrating && decide (6 ≤ x.calStep) &&
             decide (c.panel.target / 8 < (((min (counts.getD ch 0) 4095 : Nat) : Int) - c.panel.target).natAbs)
         | none => false).length
       (Counter.panelFault.index < s.rep.counters.length →
         t.rep.counters.getD Counter.panelFault.index 0 =
           if failing = 0 then s.rep.counters.getD Counter.panelFault.index 0
           else min 65535 (s.rep.counters.getD Counter.panelFault.index 0 + failing)) ∧
       t.rep.flags &&& Flag.panelFault.word =
         if failing = 0 then s.rep.flags &&& Flag.panelFault.word else Flag.panelFault.word) ∧
      (let onset : Nat → Prop := fun ch =>
         (s.panel.chans.getD ch Channel.initial).state ≠ .active ∧ (t.panel.chans.getD ch Channel.initial).state = .active
       ∃ u v : State, Front s u ∧ Front s v ∧
         u.panel = { s.panel with
           chans := t.panel.chans, lastRound := t.panel.lastRound, roundNo := t.panel.roundNo
           tracker := if s.wet = false ∧ t.wet = true then none else s.panel.tracker
           touched := if s.wet = false ∧ t.wet = true then false else s.panel.touched } ∧
         v.panel = (u.slide c.panel).1.panel ∧ v.sel = s.sel ∧
         ((∃ ch, ch ≤ 6 ∧ onset ch) → v.act.mode = (if s.act.supplyLow = true then .quiet else .active) ∧
           v.act.deadline = some (s.clk.upSec + if s.act.supplyLow = true then c.times.dormant else c.times.quiet)) ∧
         ((∀ ch, ch ≤ 6 → ¬ onset ch) → v.act = s.act) ∧
         ∃ presence ok back : List SelEvent,
           (onset 0 → presence = [.presence]) ∧
           ((s.panel.chans.getD 0 Channel.initial).state = .active → (t.panel.chans.getD 0 Channel.initial).state ≠ .active →
             presence = [.absence]) ∧
           (¬ onset 0 → ((s.panel.chans.getD 0 Channel.initial).state = .active →
             (t.panel.chans.getD 0 Channel.initial).state = .active) → presence = []) ∧
           (onset 5 → ok = [.ok]) ∧ (¬ onset 5 → ok = []) ∧ (onset 6 → back = [.back]) ∧ (¬ onset 6 → back = []) ∧
           t = (((presence ++ (u.slide c.panel).2 ++ ok ++ back).foldl State.selEvent v).syncLeave false).finishCal c)) ∧
  (∀ (s : State) (p : PanelParams),
    let now : Nat := s.clk.upSec * 1024 + s.clk.upSub
    let inTouch : Prop := ∃ ch x, 1 ≤ ch ∧ ch ≤ 4 ∧ s.panel.chans[ch]? = some x ∧ x.state = .active
    let part : Nat → Nat := fun ch =>
      match s.panel.chans[ch]? with
      | some x => if x.state = .idle ∨ x.state = .active then x.delta.toNat else 0
      | none => 0
    let sum : Nat := part 1 + part 2 + part 3 + part 4
    let pos : Nat := if sum = 0 then s.panel.pos else (2 * (85 * part 2 + 170 * part 3 + 255 * part 4) + sum) / (2 * sum)
    let longer : Nat → Nat → Prop := fun from_ limit => 1024 * limit < 1000 * (now - from_)
    let apart : Nat → Nat → Nat := fun a b => ((a : Int) - b).natAbs
    (inTouch → s.panel.touched = false →
      s.slide p = ({ s with panel := { s.panel with
        pos := pos, touched := true
        tracker := some
          { onsetPos := pos, onsetAt := now, startPos := pos, startAt := now, swiped := false, held := false } } }, [])) ∧
    (∀ k, inTouch → s.panel.touched = true → s.panel.tracker = some k →
      let swipe : Prop := p.distance ≤ apart pos k.startPos ∧ ¬ longer k.startAt p.swipe
      let hold : Prop := longer k.onsetAt (max p.tap p.swipe) ∧ k.swiped = false ∧ ¬ swipe ∧ k.held = false
      (s.slide p).1 = { s with panel := { s.panel with
        pos := pos
        tracker := some { k with
          startPos := if swipe ∨ longer k.startAt p.swipe then pos else k.startPos
          startAt := if swipe ∨ longer k.startAt p.swipe then now else k.startAt
          swiped := if swipe then true else k.swiped
          held := if hold then true else k.held } } } ∧
      (swipe → k.startPos < pos → (s.slide p).2 = [.swipeFwd]) ∧ (swipe → pos ≤ k.startPos → (s.slide p).2 = [.swipeBack]) ∧
      (hold → (s.slide p).2 = [.hold]) ∧ (¬ swipe → ¬ hold → (s.slide p).2 = [])) ∧
    (¬ inTouch →
      (s.slide p).1 = { s with panel := { s.panel with tracker := none, touched := false } } ∧
      (∀ k, s.panel.touched = true → s.panel.tracker = some k →
        ¬ longer k.onsetAt p.tap → k.swiped = false → 2 * apart s.panel.pos k.onsetPos < p.distance → (s.slide p).2 = [.tap]) ∧
      (∀ k, s.panel.tracker = some k →
        longer k.onsetAt p.tap ∨ k.swiped = true ∨ p.distance ≤ 2 * apart s.panel.pos k.onsetPos → (s.slide p).2 = []) ∧
      (s.panel.touched = false ∨ s.panel.tracker = none → (s.slide p).2 = [])))

/-- The selection machine, as a round, a release or a command hands it its events: waking, browsing, choosing (a swipe moves the
cursor to the next higher or lower stop, and does nothing at the end of the list), confirming, and BACK in HANDED, which writes
UNSELECT and returns to CONFIRM, adjusted to the list as it stands; no other event acts in HANDED. The leave deadline (R107): entering
BROWSE, CHOOSE or CONFIRM with no passenger near sets it one leave time ahead, entering HANDED or one of them with a passenger near
sets none, and an event that changes no state leaves it. As a round, a release, a CALIBRATE and a RESEED end (`State.syncLeave`), it is
set where the condition has begun, stands where the condition goes on, and is none where the condition has ended. -/
def Obligations.SelectionFollowsItsEvents : Prop :=
  (∀ (s t : State) (i : Instr),
    (∃ counts, i = .sampleRound counts) ∨ (∃ ch, i = .stuckTimeout ch) ∨ i = .calibrate ∨ i = .reseed →
    s.LeaveKept → exec i s = .next t → t.LeaveKept) ∧
  (∀ (s : State) (c : Settings), s.cfg = some c →
    (s.sel.state.leavable → ¬ s.near → ∀ d, s.sel.leave = some d → s.syncLeave false = s) ∧
    (s.sel.state.leavable → ¬ s.near → s.sel.leave = none →
      s.syncLeave false = { s with sel := { s.sel with leave := some (s.clk.upSec + c.panel.leave) } }) ∧
    (s.near ∨ ¬ s.sel.state.leavable → s.syncLeave false = { s with sel := { s.sel with leave := none } })) ∧
  ∀ (s : State) (c : Settings) (ev : SelEvent), s.cfg = some c →
    ((s.selEvent ev).sel.state = s.sel.state → s.LeaveKept → (s.selEvent ev).sel.leave = s.sel.leave) ∧
    ((s.selEvent ev).sel.state ≠ s.sel.state →
      ((s.selEvent ev).sel.state.leavable → ¬ s.near → (s.selEvent ev).sel.leave = some (s.clk.upSec + c.panel.leave)) ∧
      (s.near ∨ ¬ (s.selEvent ev).sel.state.leavable → (s.selEvent ev).sel.leave = none)) ∧
    Front s (s.selEvent ev) ∧
    (s.sel.state = .idle →
      (ev = .absence → s.selEvent ev = s) ∧
      (ev ≠ .absence →
        (s.selEvent ev).sel = { s.sel with
          state := .browse, cursor := none, product := .single, page := 0, leave := (s.selEvent ev).sel.leave })) ∧
    (s.sel.state = .browse →
      (ev = .swipeFwd → (s.selEvent ev).sel.state = .browse ∧
        (s.selEvent ev).sel.page = min (s.sel.page + 1) ((s.board.lastN + 2) / 3 - 1)) ∧
      (ev = .swipeBack → (s.selEvent ev).sel.state = .browse ∧ (s.selEvent ev).sel.page = s.sel.page - 1) ∧
      (ev = .back → (s.selEvent ev).sel.state = .browse ∧ (s.selEvent ev).sel.page = 0) ∧
      (ev = .ok ∨ ev = .tap → (s.selEvent ev).sel.state = .choose ∧ (s.selEvent ev).sel.cursor = s.firstChoice c) ∧
      (ev = .hold ∨ ev = .presence ∨ ev = .absence → s.selEvent ev = s)) ∧
    (s.sel.state = .choose →
      (ev = .ok ∨ ev = .tap →
        (s.panel.dests = [] → s.selEvent ev = s) ∧
        (s.panel.dests ≠ [] → (s.selEvent ev).sel.state = .confirm ∧ (s.selEvent ev).sel.product = .single ∧
          (s.selEvent ev).sel.cursor = s.sel.cursor)) ∧
      (ev = .back → (s.selEvent ev).sel.state = .browse ∧ (s.selEvent ev).sel.cursor = none) ∧
      (let moved : Option Nat :=
         match s.sel.cursor with
         | none => none
         | some x => if ev = .swipeFwd then s.panel.dests.find? (fun y => decide (x < y))
                     else (s.panel.dests.filter fun y => decide (y < x)).getLast?
       ev = .swipeFwd ∨ ev = .swipeBack →
        (moved = none → s.selEvent ev = s) ∧
        (∀ y, moved = some y → (s.selEvent ev).sel =
          { s.sel with cursor := some y, leave := (s.selEvent ev).sel.leave })) ∧
      (ev = .hold ∨ ev = .presence ∨ ev = .absence → s.selEvent ev = s)) ∧
    (s.sel.state = .confirm →
      (ev = .swipeFwd → (s.selEvent ev).sel.product =
        match s.sel.product with | .single => .ret | .ret => .day | .day => .single) ∧
      (ev = .swipeBack → (s.selEvent ev).sel.product =
        match s.sel.product with | .single => .day | .day => .ret | .ret => .single) ∧
      (ev = .ok ∨ ev = .tap →
        (s.selEvent ev).sel.state = .handed ∧ (s.selEvent ev).sel.handed = some (s.clk.upSec + c.panel.handed) ∧
        (s.selEvent ev).rep = s.rep.tookInput .select s.sel.cursor s.sel.product (s.selFare c) s.clk.upSec) ∧
      (ev = .back → (s.selEvent ev).sel.state = .choose ∧ (s.selEvent ev).sel.cursor = s.sel.cursor) ∧
      (ev = .hold ∨ ev = .presence ∨ ev = .absence → s.selEvent ev = s)) ∧
    (s.sel.state = .handed →
      (ev ≠ .back → s.selEvent ev = s) ∧
      (ev = .back →
        (s.selEvent ev).rep = s.rep.tookInput .unselect s.sel.cursor s.sel.product 0 s.clk.upSec ∧
        (s.selEvent ev).sel.handed = none ∧
        (s.panel.dests = [] → (s.selEvent ev).sel.state = .choose ∧ (s.selEvent ev).sel.cursor = none ∧
          (s.selEvent ev).sel.product = .single) ∧
        (s.panel.dests ≠ [] → (s.selEvent ev).sel.state = .confirm ∧ (s.selEvent ev).sel.product = s.sel.product ∧
          (s.selEvent ev).sel.cursor =
            match s.sel.cursor with
            | none => s.firstChoice c
            | some x =>
              if x ∈ s.panel.dests then some x
              else if s.panel.dests.any (fun y => decide (x < y)) = true then s.panel.dests.find? (fun y => decide (x < y))
              else (s.panel.dests.filter fun y => decide (y < x)).getLast?)))

/-! ### Screens, announcer and composer -/

/-- FRAME_START: the settings of the frame are latched and the fetch of line 0 begins; FETCH_URGENT: an incomplete fetch
becomes urgent. Everything but the channel stands. LINE_START: with 32 words fetched the fill half is shown; otherwise the
last shown line stands, the underrun is counted and UNDERRUN raised. Either way the fetch of the following line begins. -/
def Obligations.ScreenFramesAndLines : Prop :=
  (∀ (s : State) (c : Settings), s.cfg = some c →
    (s.scrA.scanning = true → s.scrA.pos = .none ∨ s.scrA.pos = .line 79 →
      exec (.frameStart .a) s = .next
        { s with scrA := { s.scrA with
            latched := some
              { base := c.win.frameA, stride := c.win.strideA, palette := c.scr.palA
                fraction := match s.act.mode with | .active => 16 | .quiet => c.scr.fracQuiet | .dormant => c.scr.fracDormant
                rate := match s.act.mode with | .active => 60 | .quiet => 30 | .dormant => 15 }
            fill := [], fetch := some 0, pos := .blanking, urgent := false } }) ∧
    (s.scrB.scanning = true → s.scrB.pos = .none ∨ s.scrB.pos = .line 79 →
      exec (.frameStart .b) s = .next
        { s with scrB := { s.scrB with
            latched := some
              { base := c.win.frameB, stride := c.win.strideB, palette := c.scr.palB
                fraction := match s.act.mode with | .active => 16 | .quiet => c.scr.fracQuiet | .dormant => c.scr.fracDormant
                rate := match s.act.mode with | .active => 60 | .quiet => 30 | .dormant => 15 }
            fill := [], fetch := some 0, pos := .blanking, urgent := false } }) ∧
    (s.scrA.scanning = true → s.scrA.fetch.isSome = true →
      exec (.fetchUrgent .a) s = .next { s with scrA := { s.scrA with urgent := true } }) ∧
    (s.scrB.scanning = true → s.scrB.fetch.isSome = true →
      exec (.fetchUrgent .b) s = .next { s with scrB := { s.scrB with urgent := true } })) ∧
  (∀ (s : State) (scr : Screen) (y : Nat), (s.scan scr).scanning = true →
    (s.scan scr).pos = .blanking ∧ y = 0 ∨ (∃ p, (s.scan scr).pos = .line p ∧ p < 79 ∧ y = p + 1) →
    ((s.scan scr).fill.length = 32 →
      exec (.lineStart scr) s = .next
        (s.modScan scr fun x => { x with
          shown := x.fill, lastShown := some x.fill, fill := [], pos := .line y, urgent := false
          fetch := if y < 79 then some (y + 1) else none })) ∧
    ((s.scan scr).fill.length ≠ 32 →
      exec (.lineStart scr) s = .next
        (({ s with rep := (s.rep.counted .screenUnderrun 1).raised .underrun } : State).modScan scr fun x => { x with
          fill := [], pos := .line y, urgent := false
          fetch := if y < 79 then some (y + 1) else none })))

/-- A sample period of a PLAYING announcement that finds the FIFO empty counts an underrun, raises UNDERRUN and holds the
level (R150), whatever samples remain (log 50, the model's choice); none is counted in STARTING or with no announcement; the missing
sample is output, scaled by the volume (R149), at the first period that finds it. The level driven is a field of the model's own
(log 19), and a sample period is taken whatever the pacing count (log 52, the model's choice). -/
def Obligations.SamplePeriodUnderrun : Prop :=
  ∀ s : State,
    (s.ann.current = none → exec .samplePeriod s = .next s) ∧
    (∀ a, s.ann.current = some a → a.playing = false → exec .samplePeriod s = .next s) ∧
    (∀ a, s.ann.current = some a → a.playing = true → s.ann.fifo = [] →
      exec .samplePeriod s = .next { s with rep := (s.rep.counted .audioUnderrun 1).raised .underrun }) ∧
    (∀ a b rest, s.ann.current = some a → a.playing = true → s.ann.fifo = b :: rest →
      ∃ t, exec .samplePeriod s = .next t ∧ Front s t ∧
        t.ann.driven = 128 + (((b.toNat : Int) - 128) * s.ann.volume).tdiv 16 ∧ t.rep = s.rep ∧
        ∀ clip left more, a.out = (clip, left) :: more → 1 < left →
          t = { s with ann := { s.ann with
            fifo := rest, driven := t.ann.driven, level := t.ann.driven
            current := some { a with out := (clip, left - 1) :: more } } })

/-- ROW_BUILD: the first marked row's mark is cleared and its build starts on its inputs as they stand, completing at once when it
needs no word from memory: the header, the departure of the row in view with its status (R112 to R118), or the notice row (R119 to
R122); a build of screen A's departure rows hands the count of its departures, which cuts the page (R113). The row's entry is kept
for the flash (log 34), and a cursor of none in CONFIRM shows the product alone, the model's choice. A build takes one word in each
of its part cycles, and with the last one, or at once, its row: the cells that differ are taken and marked, the strip, its offset
and its deadline follow (`TextScreen.Took`: R118, R124, R125; log 60). CELL_RENDER: with no row marked, the next dirty cell's mark
is cleared and its record copied; its part cycles fetch 8 or 16 glyph words and then write 16 frame words (R126). A part cycle goes
to these accesses unless it is the turn of the notice text (log 25, the model's choice). The order in which a build fetches its
words, that of its pieces and within each ascending, is log 65, that a build under way keeps a render from beginning is log 80, and
that a render fetches the character's glyph words before the next character's, each ascending, and all of them before its first
frame word, is log 90, each the model's choice. -/
def Obligations.RowBuildAndCellRender : Prop :=
  (∀ (s : State) (c : Settings) (x : Access), s.cfg = some c → s.takesCycle .composer x → s.noticeFirst = false →
    (∀ b, s.board.build = some b →
      let g : Build := { b with got := b.got ++ [match x with | .read a => s.peek a | .write _ _ => 0] }
      (∃ a, x = .read a ∧ b.addrs[b.got.length]? = some a) ∧
      (b.got.length + 1 < b.addrs.length →
        ∃ n, exec (.partCycle none) s = .next
          ({ s with free := n, board := { s.board with build := some g }, path := { s.path with hold := 0 } } : State).settleLoad) ∧
      (b.addrs.length = b.got.length + 1 →
        ∃ n y, (s.board.text b.screen).Took y g s.act.mode s.clk.upSec (s.clk.upSec * 1024 + s.clk.upSub) c.scr.scrollPeriod ∧
          exec (.partCycle none) s = .next
            ({ s with
              free := n, board := { s.board.modText b.screen (fun _ => y) with build := none }
              path := { s.path with hold := 0 } } : State).settleLoad)) ∧
    (∀ r, s.board.build = none → s.board.render = some r →
      let n : Nat := r.glyphs.length
      let need : Nat := if 0 < r.cell.shift then 16 else 8
      (n < need →
        let a : Nat := c.glyph + 8 * ((if n < 8 then r.cell.char.getD 32 else r.cell.next) - 32) + n % 8
        x = .read a ∧
        ∃ m, exec (.partCycle none) s = .next
          ({ s with
            free := m, board := { s.board with render := some { r with glyphs := r.glyphs ++ [s.peek a] } }
            path := { s.path with hold := 0 } } : State).settleLoad) ∧
      (need ≤ n →
        let l : Nat := r.written
        let place : Nat × Nat := match r.screen with | .a => (c.win.frameA, c.win.strideA) | .b => (c.win.frameB, c.win.strideB)
        let a : Nat := place.1 + (16 * (r.index / 32) + l) * place.2 + r.index % 32
        let lit : Nat → Bool := fun j =>
          let k : Nat := j + r.cell.shift
          (r.glyphs.getD ((if k < 8 then 0 else 8) + l / 2) 0).getLsbD ((if l % 2 = 0 then 8 else 0) + ((if k < 8 then 7 else 15) - k))
        let v : Word := BitVec.ofNat 16
          ((List.range 8).map fun j => (if lit j = true then r.cell.fg else r.cell.bg) * 4 ^ (7 - j)).sum
        x = .write a v ∧
        ∃ m, exec (.partCycle none) s = .next
          ({ s with
            free := m, mem := Memory.writeLanes s.mem a v .both
            board := { s.board with render := if l < 15 then some { r with written := l + 1 } else none }
            path := { s.path with hold := 0 } } : State).settleLoad))) ∧
  (∀ (b : Build) (ps : List Piece) (t : List Nat) (a len : Nat) (trim : Bool) (got : List Word),
    b.text = (if b.trimAll = true then trimEnd (formText b.pieces b.got) else formText b.pieces b.got) ∧
    formText [] got = [] ∧ formText (.text t :: ps) got = t ++ formText ps got ∧
    (let field : List Nat := (got.flatMap fun w => [w.toNat / 256, w.toNat % 256]).take len
     formText (.fetch a len trim :: ps) got = (if trim = true then trimEnd field else field) ++ formText ps (got.drop ((len + 1) / 2))) ∧
    b.addrs = b.pieces.flatMap fun p =>
      match p with | .text _ => [] | .fetch a len _ => (List.range ((len + 1) / 2)).map fun k => a + k) ∧
  ∀ (s : State) (c : Settings), s.cfg = some c → s.board.build = none → s.board.render = none →
    (∀ scr row, s.loader.stage.starting = false → s.board.nextRow = some (scr, row) →
      ∃ t, exec .rowBuild s = .next t ∧ Front s t ∧ t.board.render = none ∧
        t.board.lineNotice = s.board.lineNotice ∧ t.board.ownNotice = s.board.ownNotice ∧
        t.board.build = (if (s.newBuild c scr row).addrs = [] then none else some (s.newBuild c scr row)) ∧
        ((s.newBuild c scr row).addrs = [] →
          ∃ x : TextScreen,
            x.cells = (s.board.text scr).cells ∧ x.entries = (s.board.text scr).entries ∧ x.strip = (s.board.text scr).strip ∧
            x.offset = (s.board.text scr).offset ∧ (row = 4 → x.scrollAt = (s.board.text scr).scrollAt) ∧
            x.Took (t.board.text scr) (s.newBuild c scr row) t.act.mode s.clk.upSec (s.clk.upSec * 1024 + s.clk.upSub)
              c.scr.scrollPeriod) ∧
        (scr = .b ∨ row = 0 ∨ row = 4 ∨ (s.shownOn c .a).length = s.board.lastN →
          (t.board.text scr).marks = (s.board.text scr).marks.set row false ∧ t.sel = s.sel ∧ t.board.lastN = s.board.lastN ∧
          (∀ other, other ≠ scr → t.board.text other = s.board.text other)) ∧
        (scr = .a → row = 1 ∨ row = 2 ∨ row = 3 → (s.shownOn c .a).length ≠ s.board.lastN →
          t.board.lastN = (s.shownOn c .a).length ∧ t.sel.page = min s.sel.page (((s.shownOn c .a).length + 2) / 3 - 1)) ∧
        (row = 0 → t = { s with board :=
          { s.board.modText scr (fun x => { x with marks := x.marks.set 0 false }) with
            build := some
              { screen := scr, row := 0, pieces := [.fetch (Config.loadWord + 203) 26 false, .text (32 :: headerClock s.bat)]
                trimAll := false, entry := none, got := []
                paint := .steady ((c.colours scr).rows.getD 0 (0, 0)).1 ((c.colours scr).rows.getD 0 (0, 0)).2 } } })) ∧
    (∀ scr row, 1 ≤ row → row ≤ 4 →
      let field : Nat → Nat → Bool → Piece := fun word len trim => .fetch (Config.loadWord + word) len trim
      let name : Nat → Bool → Piece := fun code trim =>
        if code < c.stops.length then field (218 + 9 * code) 16 trim else .text (List.replicate 16 63)
      let clock : Nat → List Nat := fun t =>
        let m := (t + 3600 * s.bat.hour) % 86400 / 60
        [48 + m / 600, 48 + m / 60 % 10, 58, 48 + m % 60 / 10, 48 + m % 10]
      let view := (s.table.filter fun e =>
        (e.relation s.bat == .current || e.relation s.bat == .previous) && e.phase != .departed && (c.filter scr).passes e.dir).drop
          (if scr = .a then 3 * s.sel.page else 0)
      let pair := (c.colours scr).rows.getD row (0, 0)
      let b := s.newBuild c scr row
      b.screen = scr ∧ b.row = row ∧ b.got = [] ∧
      (row ≤ 3 → view[row - 1]? = none → b.pieces = [] ∧ b.entry = none ∧ b.paint = .steady pair.1 pair.2) ∧
      (∀ e, row ≤ 3 → view[row - 1]? = some e →
        let togo : Nat := (((e.exp : Int) - e.now s.bat).toNat + 59) / 60
        b.entry = some e.who ∧
        b.paint = (if e.phase = .cancelled ∨ e.timeliness = .stale then .steady (c.colours scr).alert pair.2
                   else if e.phase = .due then .flashing pair.1 (c.colours scr).alert pair.2 else .steady pair.1 pair.2) ∧
        b.pieces = [.text (clock e.sched ++ [32]), name e.dest false, .text [32]] ++
          (if s.bat.clock = .unset then [.text (List.replicate 9 32)]
           else if e.phase = .cancelled then [field 75 9 false]
           else if e.timeliness = .stale then [field 80 9 false]
           else if e.phase = .due then [field 85 9 false]
           else if e.timeliness = .late then [field 95 3 false, .text (32 :: clock e.exp)]
           else if e.phase = .waiting ∧ togo ≤ c.scr.countdown then
             [.text [if togo < 10 then 32 else 48 + togo / 10 % 10, 48 + togo % 10, 32], field 97 6 false]
           else if e.timeliness = .onTime then [field 90 9 false]
           else [.text (List.replicate 9 32)])) ∧
      (row = 4 →
        b.entry = none ∧ b.paint = .steady pair.1 pair.2 ∧
        (let product : Piece :=
           match s.sel.product with | .single => field 120 12 true | .ret => field 126 12 true | .day => field 132 12 true
         let money : Nat → List Nat := fun f =>
           c.money.lead ++ decimal (f / 10 ^ c.money.places) ++
             (if 0 < c.money.places then c.money.sep :: digits c.money.places (f % 10 ^ c.money.places) else [])
         (scr = .a → s.sel.state = .choose → b.trimAll = true ∧ b.pieces =
           match s.sel.cursor with | none => [field 104 32 false] | some code => [field 100 8 true, .text [32], name code false]) ∧
         (scr = .a → s.sel.state = .confirm → b.trimAll = true ∧ b.pieces =
           match s.sel.cursor.bind fun code => s.shownFare c code s.sel.product with
           | none => [product]
           | some fare => [product, .text (32 :: money fare)]) ∧
         (scr = .b ∨ s.sel.state ≠ .choose ∧ s.sel.state ≠ .confirm → b.trimAll = false ∧ b.pieces =
           match s.board.lineNotice, s.board.ownNotice, view.head? with
           | some n, _, _ => [.text n.text]
           | none, some n, _ => [.text n.text]
           | none, none, some e =>
             if e.calling = [] then []
             else field 138 16 true :: .text [32] :: (e.calling.map fun code => name code true).intersperse (.text [44, 32])
           | none, none, none => [])))) ∧
    (∀ scr i, s.board.nextRow = none → s.board.nextCell = some (scr, i) →
      exec .cellRender s = .next
        { s with board :=
          { s.board.modText scr (fun x => { x with cells := x.cells.modify i fun cell => { cell with dirty := false } }) with
            lastRendered := scr
            render := some
              { screen := scr, index := i, cell := (s.board.text scr).cells.getD i Cell.initial, glyphs := [], written := 0 } } })

/-! ### The memory path -/

/-- PART_CYCLE, the host (R181), while its cycle in front is one that takes a part cycle (R178, R180): it takes the cycle while no
requester is urgent or the hold count stands at 4; otherwise the first urgent requester takes it and the host is held, with the
count one higher. The count is 0 after every cycle the host takes and while no host cycle waits, so the host is never held for more
than 4 cycles. -/
def Obligations.PartCycleHoldsTheHost : Prop :=
  ∀ s : State, s.power.main = true → s.power.reset = false →
    (∀ h rest r x, s.path.waiting = h :: rest → s.noCycle h = false → s.firstUrgent = some r → s.wants r = some x → s.path.hold < 4 →
      ∃ t, exec (.partCycle none) s = .next t ∧ t.path.hold = s.path.hold + 1 ∧ t.path.waiting = s.path.waiting ∧
        t = (((s.landed x).served r (s.fetched x)).setHold (s.path.hold + 1)).settleLoad) ∧
    (∀ h rest, s.path.waiting = h :: rest → s.noCycle h = false → s.firstUrgent = none ∨ 4 ≤ s.path.hold →
      ∃ t, exec (.partCycle none) s = .next t ∧ t.path.hold = 0 ∧ t.path.waiting <:+ rest ∧
        (rest = [] → t = { s.takeCycle h with path := { (s.takeCycle h).path with waiting := [], hold := 0 } })) ∧
    (∀ a, s.path.waiting = [.read a] → s.clockWord? a.toNat = none → s.firstUrgent = none ∨ 4 ≤ s.path.hold →
      exec (.partCycle none) s = .next { s with path := { s.path with waiting := [], hold := 0, readData := s.peek a.toNat } }) ∧
    (s.path.waiting = [] → ∃ t, exec (.partCycle none) s = .next t ∧ t.path.hold = 0 ∧ t.path.waiting = []) ∧
    (s.HoldBounded → ∀ t, exec (.partCycle none) s = .next t → t.HoldBounded)

/-- PART_CYCLE, the internal requesters: the first of the fixed order with an access waiting takes a cycle no host cycle waits for
(R182), memory changes by that one access alone, and that requester's block alone takes the word read: a screen channel into its
fill half, the announcer into its sample FIFO. The landing of an intake slot's, a sale slot's, the command's or the load's post word
ends its busy mark and raises its flag (R179). The report writer writes the pending flags word first when that is due. Else it takes
the access of the command in work, an argument word or its answer, before the other words of the block (log 26, the model's choice),
and the landing of the result word sets that word's record. With no such access it writes the first due word of the block in
ascending order, the write index alone waiting for the entries it covers, those placed since it last landed and those outstanding
(R188, R189; log 69); the word's record is then its value. The model's choice is that each write of an argument word, 5 to 12, takes
a free value (log 27), and that the landing of the write index, word 30, raises INPUT only with an event placed since it last landed
(log 36). With nobody waiting nothing changes. -/
def Obligations.PartCycleMakesOneAccess : Prop :=
  ∀ s : State, s.power.main = true → s.power.reset = false → s.path.waiting = [] →
    (∀ r x, s.turnOf r x →
      ∃ t, exec (.partCycle none) s = .next t ∧ t.path.hold = 0 ∧
        t.mem = (match x with | .write a v => Memory.writeLanes s.mem a v .both | .read _ => s.mem) ∧
        t = (((s.landed x).served r (s.fetched x)).setHold 0).settleLoad) ∧
    ((∀ r, s.wants r = none) → exec (.partCycle none) s = .next { s with path := { s.path with hold := 0 } }) ∧
    (let due : Nat → Prop := fun o =>
       (o = 0 ∨ 13 ≤ o ∧ o ≤ 26 ∨ o = 30 ∨ 32 ≤ o ∧ o ≤ 63) ∧ s.rep.written.getD o none ≠ some (s.reportValue o) ∨ o ∈ s.rep.extra
     let waits : Prop := ∃ k j, (k < s.rep.unshown ∨ k < (s.rep.inWrite + 16 - s.rep.inRead) % 16) ∧ k < 8 ∧ j < 4 ∧
       due (32 + 4 * ((s.rep.inWrite + 15 - k) % 8) + j)
     (∀ o, s.nextWord = some o ↔
       o ≤ 63 ∧ ¬ (27 ≤ o ∧ o ≤ 29) ∧ due o ∧ (o = 30 → ¬ waits) ∧
       ∀ p, p < o → ¬ (27 ≤ p ∧ p ≤ 29) → due p → p = 30 ∧ waits) ∧
     (s.reportValue 0 = s.rep.flags ∧ s.reportValue 1 = s.rep.mask ∧ s.reportValue 2 = s.rep.enable ∧ s.reportValue 3 = 0 ∧
      s.reportValue 4 = Code.done ∧
      s.reportValue 13 = (match s.rep.command with
        | .answering (a :: _ :: _) => a.val
        | _ => (s.rep.written.getD 13 none).getD 0) ∧
      s.reportValue 14 = s.summary0 ∧ s.reportValue 15 = s.summary1 ∧
      (∀ k, k < 11 → s.reportValue (16 + k) = BitVec.ofNat 16 (s.rep.counters.getD k 0)) ∧
      s.reportValue 30 = BitVec.ofNat 16 s.rep.inWrite ∧ s.reportValue 31 = BitVec.ofNat 16 s.rep.inRead ∧
      (∀ p j, p < 8 → j < 4 → s.reportValue (32 + 4 * p + j) = (s.rep.entries.getD p []).getD j 0)) ∧
     (∀ (c : Settings) (o : Nat) (x : Access), s.cfg = some c → s.turnOf .report x →
       due 0 ∨ s.rep.command = .idle ∨ (∃ code, s.rep.command = .held code) ∨ (∃ code args, s.rep.command = .ready code args) ∨
         (∃ code, s.rep.command = .owned code) →
       s.nextWord = some o → (o = 4 → s.rep.probe = false) →
       let v : Word := s.reportValue o
       let k : ReportUnit := { s.rep with written := s.rep.written.set o (some v), extra := s.rep.extra.filter fun p => p != o }
       x = .write (c.win.report + o) v ∧
       exec (.partCycle none) s = .next
         ({ s with
           mem := Memory.writeLanes s.mem (c.win.report + o) v .both
           free := if 5 ≤ o ∧ o ≤ 12 then s.free + 1 else s.free
           rep := if o = 0 then { k with shown := some v }
             else if o = 30 ∧ 0 < s.rep.unshown then ({ k with unshown := 0 } : ReportUnit).raised .input else k
           path := { s.path with hold := 0 } } : State).settleLoad) ∧
     (∀ (c : Settings) (code : CommandCode) (got : List Word) (x : Access), s.cfg = some c → s.turnOf .report x → ¬ due 0 →
       s.rep.command = .fetching code got →
       let a : Nat := c.win.report + (5 + got.length)
       let words : List Word := got ++ [s.peek a]
       x = .read a ∧
       exec (.partCycle none) s = .next
         ({ s with
           rep := { s.rep with command := if words.length < 8 then .fetching code words else .ready code words }
           path := { s.path with hold := 0 } } : State).settleLoad) ∧
     (∀ (c : Settings) (a b : Acc) (rest : List Acc) (x : Access), s.cfg = some c → s.turnOf .report x → ¬ due 0 →
       s.rep.command = .answering (a :: b :: rest) →
       x = .write a.addr a.val ∧
       exec (.partCycle none) s = .next
         ({ s with
           mem := Memory.writeLanes s.mem a.addr a.val .both
           rep := { s.rep with written := s.rep.written.set 13 (some a.val), command := .answering (b :: rest) }
           path := { s.path with hold := 0 } } : State).settleLoad) ∧
     (s.loader.stage = .idle → ∀ (c : Settings) (a : Acc) (x : Access), s.cfg = some c → s.turnOf .report x → ¬ due 0 →
       s.rep.command = .answering [a] →
       x = .write a.addr a.val ∧
       exec (.partCycle none) s = .next
         { s with
           mem := Memory.writeLanes s.mem a.addr a.val .both
           path := { s.path with command := .clear, hold := 0 }
           rep := ({ s.rep with command := .idle } : ReportUnit).raised .command })) ∧
    (s.loader.stage = .idle →
      (∀ a, s.turnOf .screenA (.read a) →
        exec (.partCycle none) s = .next
          { s with
            scrA := { s.scrA with
              fill := s.scrA.fill ++ [s.peek a]
              fetch := if s.scrA.fill.length < 31 then s.scrA.fetch else none
              urgent := if s.scrA.fill.length < 31 then s.scrA.urgent else false }
            path := { s.path with hold := 0 } }) ∧
      (∀ a, s.turnOf .screenB (.read a) →
        exec (.partCycle none) s = .next
          { s with
            scrB := { s.scrB with
              fill := s.scrB.fill ++ [s.peek a]
              fetch := if s.scrB.fill.length < 31 then s.scrB.fetch else none
              urgent := if s.scrB.fill.length < 31 then s.scrB.urgent else false }
            path := { s.path with hold := 0 } }) ∧
      (∀ a n left, s.turnOf .announcer (.read a) → s.ann.current = some n → n.playing = true → n.fetch = .samples a left → 2 < left →
        exec (.partCycle none) s = .next
          { s with
            ann := { s.ann with
              fifo := s.ann.fifo ++ [hiByte (s.peek a), loByte (s.peek a)]
              current := some { n with fetch := .samples (a + 1) (left - 2) } }
            path := { s.path with hold := 0 } }) ∧
      (∀ (c : Settings) (a : Acc) (slot : Nat), s.cfg = some c → s.intake.stage = .answering [a] → a.land = .intakePost slot →
        s.turnOf .intake (.write a.addr a.val) →
        exec (.partCycle none) s = .next
          { s with
            mem := Memory.writeLanes s.mem a.addr a.val .both
            path := { s.path with intake := s.path.intake.set slot .clear, hold := 0 }
            intake := { fifo := s.intake.fifo.tail, stage := if s.intake.fifo.tail = [] then .idle else .fetching [] }
            rep := s.rep.raised .intake }) ∧
      (∀ (c : Settings) (a : Acc) (slot : Nat), s.cfg = some c → s.issue.accs = [a] → a.land = .salePost slot →
        (∀ q why, s.issue.records.getD slot .empty ≠ .voided q why) → s.turnOf .issue (.write a.addr a.val) →
        exec (.partCycle none) s = .next
          { s with
            mem := Memory.writeLanes s.mem a.addr a.val .both
            path := { s.path with sale := s.path.sale.set slot .clear, hold := 0 }
            issue := { s.issue with
              accs := [], fifo := s.issue.fifo.tail, stage := if s.issue.fifo.tail = [] then .idle else .fetching [] }
            rep := s.rep.raised .sale }) ∧
      (∀ a : Acc, s.loader.accs = [a] → a.land = .accepted ∨ a.land = .rejected → s.turnOf .loader (.write a.addr a.val) →
        exec (.partCycle none) s = .next
          { s with
            mem := Memory.writeLanes s.mem a.addr a.val .both
            path := { s.path with load := .clear, hold := 0 }
            loader := { s.loader with accs := [], state := if s.cfg.isSome = true then .configured else .unconfigured }
            rep := s.rep.raised .config }))

/-- HOST_WRITE: a write passes to memory outside the busy load area and the watched windows, everywhere while the reset input is
asserted (R199), and inside the windows where it is no post and meets no busy mark: in an idle slot, at the clock group, at the
argument words of an idle command (R177, R178). A write into the busy load area, into a busy slot or at a busy command's words, and
one into the journal window or at a part-owned word, the idle command's result word among them, is dropped and counted, with
WRITE_DROPPED raised (R178). At the result word of a busy command R178 gives both drops, and that the busy-write counter takes it is
the model's choice (log 29). A request code at its post word, and a write of an observed word, is what that command's row states. A
cycle presented while no requester is urgent is served at once (log 7, the model's choice). A cycle that a change of the map or of a
busy mark makes a dropped write or a substituted read while it is held stays held and is judged in the part cycle that serves it
(log 91, the model's choice). -/
def Obligations.HostWritePassesOrDrops : Prop :=
  ∀ (s : State) (a : Addr) (v : Word) (l : Lanes), (∀ c, s.cfg = some c → c.windowsFit) →
    let passed : State :=
      { s with mem := Memory.writeLanes s.mem a.toNat v l, path := { s.path with waiting := [], hold := 0 } }
    let dropped : Counter → State := fun k =>
      { s with rep := (s.rep.counted k 1).raised .writeDropped, path := { s.path with waiting := [], hold := 0 } }
    (s.portFree → (s.path.load = .clear ∨ a.toNat < 0x400 ∨ 0xC00 ≤ a.toNat) →
      ¬ (a.toNat = 0x400 ∧ l = .both ∧ v = Code.load) →
      (∀ c, s.cfg = some c →
        inRegion a.toNat c.win.intake 256 = false ∧ inRegion a.toNat c.win.sale 64 = false ∧
        inRegion a.toNat c.win.report 64 = false ∧ inRegion a.toNat c.win.journal (16 + 14 * c.win.jsize) = false) →
      exec (.hostWrite a v l) s = .next passed) ∧
    (s.power.main = true → s.power.reset = true → s.path.waiting = [] → exec (.hostWrite a v l) s = .next passed) ∧
    (s.power.main = true → s.power.reset = false → s.path.waiting = [] → s.path.load ≠ .clear → 0x400 ≤ a.toNat → a.toNat < 0xC00 →
      exec (.hostWrite a v l) s = .next (dropped .busyWrite)) ∧
    (∀ c, s.cfg = some c → s.power.main = true → s.power.reset = false → s.path.waiting = [] →
      (inRegion a.toNat c.win.intake 256 = true ∧ s.path.intake.getD ((a.toNat - c.win.intake) / 16) .clear ≠ .clear ∨
       inRegion a.toNat c.win.sale 64 = true ∧ s.path.sale.getD ((a.toNat - c.win.sale) / 16) .clear ≠ .clear →
        exec (.hostWrite a v l) s = .next (dropped .busyWrite)) ∧
      (inRegion a.toNat c.win.journal (16 + 14 * c.win.jsize) = true → exec (.hostWrite a v l) s = .next (dropped .protectedWrite)) ∧
      (∀ o, a.toNat = c.win.report + o → o < 64 →
        (4 ≤ o → o ≤ 13 → s.path.command ≠ .clear → exec (.hostWrite a v l) s = .next (dropped .busyWrite)) ∧
        (o = 0 ∨ o = 13 ∧ s.path.command = .clear ∨ 14 ≤ o ∧ o ≤ 26 ∨ o = 30 ∨ 32 ≤ o →
          exec (.hostWrite a v l) s = .next (dropped .protectedWrite)))) ∧
    (∀ c, s.cfg = some c → s.portFree →
      (∀ slot o, slot < 16 → o < 16 → a.toNat = c.win.intake + 16 * slot + o → s.path.intake.getD slot .clear = .clear →
        ¬ (o = 0 ∧ l = .both ∧ v = Code.submit) → exec (.hostWrite a v l) s = .next passed) ∧
      (∀ slot o, slot < 4 → o < 16 → a.toNat = c.win.sale + 16 * slot + o → s.path.sale.getD slot .clear = .clear →
        ¬ (o = 0 ∧ l = .both ∧ ∃ code, v = saleWord code) → exec (.hostWrite a v l) s = .next passed) ∧
      (∀ o, a.toNat = c.win.report + o →
        (27 ≤ o ∧ o ≤ 29 ∨ 5 ≤ o ∧ o ≤ 12 ∧ s.path.command = .clear ∨
          o = 4 ∧ s.path.command = .clear ∧ ¬ (l = .both ∧ ∃ code, v = commandWord code)) →
        exec (.hostWrite a v l) s = .next passed)) ∧
    (∀ h rest, s.power.main = true → s.power.reset = false → s.path.waiting = h :: rest → s.noCycle h = true →
      (∀ r x, s.firstUrgent = some r → s.wants r = some x → s.path.hold < 4 →
        exec (.partCycle none) s = .next (((s.landed x).served r (s.fetched x)).setHold (s.path.hold + 1)).settleLoad) ∧
      (s.firstUrgent = none ∨ 4 ≤ s.path.hold → rest = [] →
        exec (.partCycle none) s = .next
          { s.takeCycle h with path := { (s.takeCycle h).path with waiting := [], hold := 0 } })) ∧
    exec (.hostWrite 0x400 Code.load .both) s = exec .load s ∧
    (∀ c, s.cfg = some c → s.power.reset = false →
      (∀ slot : Fin 16, exec (.hostWrite (BitVec.ofNat 20 (c.win.intake + 16 * slot.val)) Code.submit .both) s = exec (.submit slot) s) ∧
      (∀ (slot : Fin 4) (code : SaleCode),
        exec (.hostWrite (BitVec.ofNat 20 (c.win.sale + 16 * slot.val)) (saleWord code) .both) s = exec (.saleSlotPost slot code) s) ∧
      (∀ code : CommandCode,
        exec (.hostWrite (BitVec.ofNat 20 (c.win.report + 4)) (commandWord code) .both) s = exec (.commandPost code) s) ∧
      exec (.hostWrite (BitVec.ofNat 20 (c.win.report + 1)) v l) s = exec (.mask v l) s ∧
      exec (.hostWrite (BitVec.ofNat 20 (c.win.report + 2)) v l) s = exec (.globalEnable v l) s ∧
      exec (.hostWrite (BitVec.ofNat 20 (c.win.report + 3)) v l) s = exec (.clearWord v l) s ∧
      exec (.hostWrite (BitVec.ofNat 20 (c.win.report + 31)) v l) s = exec (.inputReadIndex v l) s)

/-- The raising and the clearing of flags (R184): a raised flag is pending whatever the mask and the enable, once; CLEAR_WORD passes
to memory and clears exactly the flags whose bits it sets; a write of 0 clears nothing. A byte write clears those of its byte: it is
merged with the part's own copy of the word (R176), which is 0 for the clear word (log 30, the model's choice). -/
def Obligations.FlagsAreRaisedAndCleared : Prop :=
  (∀ (s : State) (f : Flag),
    s.raise f = { s with rep := { s.rep with flags := s.rep.flags ||| (1 <<< f.bit : Word) } } ∧
    (s.raise f).raise f = s.raise f) ∧
  (∀ (s : State) (c : Settings) (v : Word) (l : Lanes), s.cfg = some c → c.windowsFit → s.portFree →
    exec (.clearWord v l) s = .next
      { s with
        mem := Memory.writeLanes s.mem (c.win.report + 3) v l
        path := { s.path with waiting := [], hold := 0 }
        rep := { s.rep with flags := s.rep.flags &&& ~~~ (match l with
          | .both => v
          | .high => v &&& 0xFF00
          | .low => v &&& 0x00FF) } }) ∧
  (∀ (s : State) (c : Settings) (l : Lanes), s.cfg = some c → c.windowsFit → s.portFree →
    ∃ t, exec (.clearWord 0 l) s = .next t ∧ t.rep = s.rep)

/-- MASK and GLOBAL_ENABLE: the write passes to memory, and the part's copy takes the lanes written. INPUT_READ_INDEX: a value
in 0..15 that passes over no more than the events outstanding is the new read index; any other is dropped, counted as a
protected write. The attention line is asserted exactly while the global enable is on and some flag is unmasked, pending and
shown, and a flags word that lands is what is shown. -/
def Obligations.MaskEnableAndReadIndex : Prop :=
  (∀ (s : State) (c : Settings) (v : Word) (l : Lanes), s.cfg = some c → c.windowsFit → s.portFree →
    exec (.mask v l) s = .next
      { s with
        mem := Memory.writeLanes s.mem (c.win.report + 1) v l
        path := { s.path with waiting := [], hold := 0 }
        rep := { s.rep with mask := match l with
          | .both => v
          | .high => (v &&& 0xFF00) ||| (s.rep.mask &&& 0x00FF)
          | .low => (s.rep.mask &&& 0xFF00) ||| (v &&& 0x00FF) } } ∧
    exec (.globalEnable v l) s = .next
      { s with
        mem := Memory.writeLanes s.mem (c.win.report + 2) v l
        path := { s.path with waiting := [], hold := 0 }
        rep := { s.rep with enable := match l with
          | .both => v
          | .high => (v &&& 0xFF00) ||| (s.rep.enable &&& 0x00FF)
          | .low => (s.rep.enable &&& 0xFF00) ||| (v &&& 0x00FF) } }) ∧
  (∀ (s : State) (c : Settings) (v : Word), s.cfg = some c → c.windowsFit → s.portFree →
    (v.toNat ≤ 15 ∧ (v.toNat + 16 - s.rep.inRead) % 16 ≤ (s.rep.inWrite + 16 - s.rep.inRead) % 16 →
      exec (.inputReadIndex v .both) s = .next
        { s with
          mem := Memory.writeLanes s.mem (c.win.report + 31) v .both
          path := { s.path with waiting := [], hold := 0 }, rep := { s.rep with inRead := v.toNat } }) ∧
    (¬ (v.toNat ≤ 15 ∧ (v.toNat + 16 - s.rep.inRead) % 16 ≤ (s.rep.inWrite + 16 - s.rep.inRead) % 16) →
      exec (.inputReadIndex v .both) s = .next
        { s with
          path := { s.path with waiting := [], hold := 0 }
          rep := (s.rep.counted .protectedWrite 1).raised .writeDropped }) ∧
    (∀ (w : Word) (n : Nat), n = s.rep.inRead % 65536 / 256 * 256 + w.toNat % 256 → n ≤ 15 →
      (n + 16 - s.rep.inRead) % 16 ≤ (s.rep.inWrite + 16 - s.rep.inRead) % 16 →
      exec (.inputReadIndex w .low) s = .next
        { s with
          mem := Memory.writeLanes s.mem (c.win.report + 31) w .low
          path := { s.path with waiting := [], hold := 0 }, rep := { s.rep with inRead := n } })) ∧
  (∀ s : State, s.attention = true ↔
    ∃ w, s.rep.shown = some w ∧ s.rep.enable ≠ 0 ∧ s.rep.flags &&& s.rep.mask &&& w ≠ 0) ∧
  (∀ (s : State) (v : Word), (s.wordLanded 0 v).rep.shown = some v)

/-- CLOCK_GROUP_READ: word 0 returns the service day and latches the reading; words 1 and 2 return the latch, 0 while it is
empty; memory is neither read nor written. -/
def Obligations.ClockGroupRead : Prop :=
  ∀ (s : State) (c : Settings), s.cfg = some c → c.windowsFit → s.power.main = true → s.power.reset = false →
    s.path.waiting = [] →
    exec (.clockGroupRead 0) s = .next
      { s with
        clk := { s.clk with
          snapshot := some { day := s.bat.day, minute := s.bat.now / 60, second := s.bat.now % 60, clock := s.bat.clock } }
        path := { s.path with waiting := [], hold := 0, readData := s.bat.day } } ∧
    exec (.clockGroupRead 1) s = .next
      { s with path := { s.path with waiting := [], hold := 0, readData :=
          match s.clk.snapshot with | none => 0 | some n => BitVec.ofNat 16 n.minute } } ∧
    exec (.clockGroupRead 2) s = .next
      { s with path := { s.path with waiting := [], hold := 0, readData :=
          match s.clk.snapshot with | none => 0 | some n => BitVec.ofNat 16 (256 * n.clock.code + n.second) } }

/-! ### Posts -/

/-- LOAD: memory receives LOADING in place of the code, the load area becomes busy and the loader starts its fetch; while it
is busy a second LOAD is dropped and counted. -/
def Obligations.LoadPost : Prop :=
  ∀ s : State, (∀ c, s.cfg = some c → c.windowsFit) → s.portFree →
    (s.path.load = .clear →
      exec .load s = .next
        { s with
          mem := Memory.writeLanes s.mem 0x400 Code.loading .both
          path := { s.path with load := .post (), waiting := [], hold := 0 }
          loader := { s.loader with state := .loading, stage := .fetching [] } }) ∧
    (s.path.load ≠ .clear →
      exec .load s = .next
        { s with rep := (s.rep.counted .busyWrite 1).raised .writeDropped, path := { s.path with waiting := [], hold := 0 } })

/-- SUBMIT: an idle intake slot becomes busy, memory receives BUSY, the slot joins the FIFO, and an idle intake job starts its
fetch. A reload that waits for a ticket notes the slot, and the slots so noted wait for its answer (R175), while those before them go
on (log 15, the model's choice); a reload that finishes the slots answers it REFUSED with RECONFIGURED as its turn comes (R26, R175);
before a first acceptance has started the jobs the slot waits in the FIFO (R197, stage 4; log 14). A busy slot's post is dropped and
counted. -/
def Obligations.SubmitPost : Prop :=
  ∀ (s : State) (c : Settings) (slot : Fin 16), s.cfg = some c → c.windowsFit → s.portFree →
    (s.path.intake.getD slot.val .clear = .clear →
      ∃ stage,
        exec (.submit slot) s = .next
          { s with
            mem := Memory.writeLanes s.mem (c.win.intake + 16 * slot.val) Code.busy .both
            path := { s.path with intake := s.path.intake.set slot.val (.post ()), waiting := [], hold := 0 }
            intake := { fifo := s.intake.fifo ++ [slot.val], stage := stage }
            loader := { s.loader with stage :=
              match s.loader.stage with | .reloadTicket next late => .reloadTicket next (late ++ [slot.val]) | g => g } } ∧
        ((∀ next, s.loader.stage ≠ .reloadFinish next) →
          let head : Nat := s.intake.fifo.headD slot.val
          let waits : Bool :=
            match s.loader.stage with
            | .scanning _ => true
            | .reloadTicket _ late => (late ++ [slot.val]).contains head
            | _ => false
          stage = if s.intake.stage = .idle ∧ waits = false then .fetching [] else s.intake.stage) ∧
        (∀ next, s.loader.stage = .reloadFinish next → s.intake.stage = .idle → s.intake.fifo = [] →
          stage = .answering
            [⟨c.win.intake + 16 * slot.val + 13, Code.reconfigured, .plain⟩, ⟨c.win.intake + 16 * slot.val + 14, Code.noEntry, .plain⟩,
             ⟨c.win.intake + 16 * slot.val + 15, Code.noEntry, .plain⟩,
             ⟨c.win.intake + 16 * slot.val + 0, Code.refused, .intakePost slot.val⟩])) ∧
    (s.path.intake.getD slot.val .clear ≠ .clear →
      exec (.submit slot) s = .next
        { s with rep := (s.rep.counted .busyWrite 1).raised .writeDropped, path := { s.path with waiting := [], hold := 0 } })

/-- SALE_SLOT_POST: an idle sale slot becomes busy with its request code, memory receives BUSY, EXPIRED writes of the slot not
yet landed are abandoned, the slot joins the FIFO, and an idle issue unit starts its fetch, but for a reload that has stopped it
(R198, stage 1) and before a first acceptance has started the jobs (R197, stage 4; log 14). A busy slot's post is dropped. -/
def Obligations.SaleSlotPost : Prop :=
  ∀ (s : State) (c : Settings) (slot : Fin 4) (code : SaleCode), s.cfg = some c → c.windowsFit → s.portFree →
    (s.path.sale.getD slot.val .clear = .clear → s.loader.stage.finishing = false →
      exec (.saleSlotPost slot code) s = .next
        { s with
          mem := Memory.writeLanes s.mem (c.win.sale + 16 * slot.val) Code.busy .both
          path := { s.path with sale := s.path.sale.set slot.val (.post code), waiting := [], hold := 0 }
          issue := { s.issue with
            accs := s.issue.accs.filter fun x => x.land != .expiredReason slot.val && x.land != .expiredPost slot.val
            fifo := s.issue.fifo ++ [slot.val]
            stage := if s.issue.stage = .idle ∧ s.loader.stage.stopsIssue = false ∧ s.loader.stage.starting = false then .fetching []
                     else s.issue.stage } }) ∧
    (s.path.sale.getD slot.val .clear ≠ .clear →
      exec (.saleSlotPost slot code) s = .next
        { s with rep := (s.rep.counted .busyWrite 1).raised .writeDropped, path := { s.path with waiting := [], hold := 0 } })

/-- COMMAND_POST: an idle command word becomes busy with its code, memory receives BUSY, and the fetch of the arguments starts, or
the command is held while a reload waits for a ticket and refused RECONFIGURED while one finishes the slots and commands (R175,
R191); a first write or a move of the report block that has not reached the command word leaves it to the command (log 28, the
model's choice). Before a first acceptance has started the jobs the fetch waits (R197, stage 4; log 14). A post to a busy command
word is dropped and counted. -/
def Obligations.CommandPost : Prop :=
  ∀ (s : State) (c : Settings) (code : CommandCode), s.cfg = some c → c.windowsFit → s.portFree →
    (s.path.command = .clear →
      exec (.commandPost code) s = .next
        { s with
          mem := Memory.writeLanes s.mem (c.win.report + 4) Code.busy .both
          path := { s.path with command := .post code, waiting := [], hold := 0 }
          rep := if s.loader.stage.finishing = true
                 then { s.rep with extra := s.rep.extra.filter fun o => o != 4 }.answered c Code.refused Code.reconfigured
                 else { s.rep with
                        extra := s.rep.extra.filter fun o => o != 4
                        command := match s.loader.stage with | .reloadTicket _ _ => .held code | _ => .fetching code [] } }) ∧
    (s.loader.stage.starting = true → ∀ t, exec (.commandPost code) s = .next t → t.wants .report = none) ∧
    (s.path.command ≠ .clear →
      exec (.commandPost code) s = .next
        { s with rep := (s.rep.counted .busyWrite 1).raised .writeDropped, path := { s.path with waiting := [], hold := 0 } })

/-! ### Descriptors -/

/-- DESCRIPTOR_REJECTION: a fetched descriptor that fails a test is rejected with the first failed test's reason, and nothing else
changes. FIRST_ACCEPTANCE: one that passes every test while nothing is configured becomes the active settings, its day-start hour
and journal geometry are taken into the battery domain, and the slots are to be examined (log 14, the model's choice of steps). In
the part cycles that follow, a slot that memory shows BUSY while its mark is clear is marked and is to be answered RESTART, every
other is left as it is, the landing of REFUSED ends the mark and raises the flag, and after the last slot the jobs start:
calibration of all channels, the full recompose, both screens, the mode and its deadline (log 72), the line receiver, the report
block, the fetch of the slots posted meanwhile (log 14). ACCEPTED is to be written with the landing of the last word of the first
write of the block, the answer to a command left BUSY included, and at no landing before (R197, stages 3 to 5; log 14, 76). -/
def Obligations.DescriptorRejectedOrFirstAccepted : Prop :=
  (∀ (s : State) (got : List Word), s.loader.stage = .fetched got →
    (∀ r, s.rejection got = some r →
      exec .descriptorRejection s = .next
        { s with loader := { s.loader with
            stage := .idle, accs := s.loader.accs ++ [⟨0x403, r, .plain⟩, ⟨0x400, Code.rejected, .rejected⟩] } }) ∧
    (dnat got 1 ≠ 1 → s.rejection got = some 0x40) ∧
    (dnat got 1 = 1 → ¬ (256 ≤ dnat got 2 ∧ dnat got 2 ≤ 2048) → s.rejection got = some 0x41) ∧
    (dnat got 1 = 1 → 256 ≤ dnat got 2 → dnat got 2 ≤ 2048 →
      (checkOk got = false → s.rejection got = some 0x42) ∧
      (checkOk got = true → windowsOk (readWindows got) = false → s.rejection got = some 0x43) ∧
      (checkOk got = true → windowsOk (readWindows got) = true → valuesOk got = false → s.rejection got = some 0x44) ∧
      (checkOk got = true → windowsOk (readWindows got) = true → valuesOk got = true →
        s.rejection got = if s.cfg = none ∧ journalFails s.bat (readSettings got) = true then some 0x45 else none)) ∧
    (s.rejection got = none → s.cfg = none →
      ∃ t, exec .firstAcceptance s = .next t ∧ t.cfg = some (readSettings got) ∧
        t.loader = { s.loader with stage := .scanning 0 } ∧ t.mem = s.mem ∧ t.path = s.path ∧ t.power = s.power ∧
        t.bat = { s.bat with
          hour := dnat got 19
          day := if s.bat.clock = .set ∧ dnat got 19 ≠ s.bat.hour then s.bat.dayFor (dnat got 19) else s.bat.day
          geometry := some ⟨256 * dnat got 7, dnat got 8⟩
          write := if s.bat.geometry = some ⟨256 * dnat got 7, dnat got 8⟩ then s.bat.write else 0
          send := if s.bat.geometry = some ⟨256 * dnat got 7, dnat got 8⟩ then s.bat.send else 0
          confirm := if s.bat.geometry = some ⟨256 * dnat got 7, dnat got 8⟩ then s.bat.confirm else 0 })) ∧
  (∀ (s : State) (c : Settings) (n : Nat) (a : Nat), s.power.main = true → s.power.reset = false → s.path.waiting = [] →
    s.cfg = some c → s.loader.stage = .scanning n → s.loader.accs = [] → s.turnOf .loader (.read a) →
    let idle : Prop := if n < 16 then s.path.intake.getD n .clear = .clear else s.path.sale.getD (n - 16) .clear = .clear
    let base : Nat := if n < 16 then c.win.intake + 16 * n else c.win.sale + 16 * (n - 16)
    a = base ∧
    (s.peek a = Code.busy → idle → n < 16 →
      exec (.partCycle none) s = .next
        { s with
          path := { s.path with intake := s.path.intake.set n .restart, hold := 0 }
          loader := { s.loader with
            stage := .scanning (n + 1)
            accs := [⟨base + 13, Code.restart, .plain⟩, ⟨base + 14, Code.noEntry, .plain⟩, ⟨base + 15, Code.noEntry, .plain⟩,
                     ⟨base + 0, Code.refused, .restartIntake n⟩] } }) ∧
    (s.peek a = Code.busy → idle → 16 ≤ n →
      exec (.partCycle none) s = .next
        { s with
          path := { s.path with sale := s.path.sale.set (n - 16) .restart, hold := 0 }
          loader := { s.loader with
            stage := .scanning (n + 1)
            accs := [⟨base + 8, Code.restart, .plain⟩, ⟨base + 0, Code.refused, .restartSale (n - 16)⟩] } }) ∧
    (¬ (s.peek a = Code.busy ∧ idle) → n < 19 →
      exec (.partCycle none) s = .next
        { s with path := { s.path with hold := 0 }, loader := { s.loader with stage := .scanning (n + 1) } }) ∧
    (¬ (s.peek a = Code.busy ∧ idle) → n = 19 →
      ∃ t, exec (.partCycle none) s = .next t ∧ t.mem = s.mem ∧ t.cfg = s.cfg ∧ t.bat = s.bat ∧ t.table = s.table ∧
        (∀ ch x, ch < 8 → s.panel.chans[ch]? = some x →
          ∃ y, t.panel.chans[ch]? = some y ∧ y.state = .calibrating ∧ y.gain = 0 ∧ y.calStep = 0 ∧ y.debounce = 0) ∧
        t.panel.lastRound = none ∧ t.panel.roundNo = 0 ∧
        t.board.a = { TextScreen.initial with marks := List.replicate 5 true } ∧ t.board.b = t.board.a ∧
        t.board.build = none ∧ t.board.render = none ∧
        t.act.mode = (if s.act.supplyLow = true then .quiet else .active) ∧
        t.act.deadline = some (s.clk.upSec + if s.act.supplyLow = true then c.times.dormant else c.times.quiet) ∧
        t.ann.volume = (if s.act.supplyLow = true then c.ann.volQuiet else c.ann.volActive) ∧
        (t.scrA.scanning = true ∧ t.scrA.pos = .blanking ∧ t.scrA.fetch = some 0 ∧ t.scrA.fill = [] ∧
         t.scrA.latched.map Latched.base = some c.win.frameA) ∧
        (t.scrB.scanning = true ∧ t.scrB.pos = .blanking ∧ t.scrB.fetch = some 0 ∧ t.scrB.fill = [] ∧
         t.scrB.latched.map Latched.base = some c.win.frameB) ∧
        t.link = { s.link with receiver := .hunt, chainPos := some c.chain } ∧
        t.rep.written = List.replicate 64 none ∧ t.rep.probe = true ∧
        t.intake = { s.intake with
          stage := if s.intake.stage = .idle ∧ s.intake.fifo ≠ [] then .fetching [] else s.intake.stage } ∧
        t.issue = { s.issue with stage := if s.issue.stage = .idle ∧ s.issue.fifo ≠ [] then .fetching [] else s.issue.stage } ∧
        t.loader = { s.loader with stage := .firstReport, accs := [] })) ∧
  (∀ (s : State) (c : Settings) (r : Requester) (x : Access), s.cfg = some c → s.takesCycle r x → s.loader.stage = .firstReport →
    s.loader.accs = [] →
    ∃ u t : State, u = ((s.landed x).served r (s.fetched x)).setHold 0 ∧ exec (.partCycle none) s = .next t ∧
      (let whole : Prop := u.rep.extra = [] ∧ u.path.command ≠ .restart ∧
         ∀ o, o = 0 ∨ 13 ≤ o ∧ o ≤ 26 ∨ o = 30 ∨ 32 ≤ o ∧ o ≤ 63 → u.rep.written.getD o none ≠ none
       (¬ whole → t = u) ∧
       (whole → t = { u with loader := { u.loader with
         stage := .idle, accs := [⟨0x403, 0, .plain⟩, ⟨0x400, Code.accepted, .accepted⟩] } }))) ∧
  (∀ (s : State) (n : Nat) (a : Acc) (slot : Nat), s.power.main = true → s.power.reset = false → s.path.waiting = [] →
    s.loader.stage = .scanning n → n < 20 → s.loader.accs = [a] → s.turnOf .loader (.write a.addr a.val) →
    (a.land = .restartIntake slot →
      exec (.partCycle none) s = .next
        { s with
          mem := Memory.writeLanes s.mem a.addr a.val .both
          path := { s.path with intake := s.path.intake.set slot .clear, hold := 0 }
          loader := { s.loader with accs := [] }, rep := s.rep.raised .intake }) ∧
    (a.land = .restartSale slot →
      exec (.partCycle none) s = .next
        { s with
          mem := Memory.writeLanes s.mem a.addr a.val .both
          path := { s.path with sale := s.path.sale.set slot .clear, hold := 0 }
          loader := { s.loader with accs := [] }, rep := s.rep.raised .sale }))

/-- RELOAD_ACCEPTANCE: a ticket in work is waited for; then a journal change with unconfirmed records is rejected. Otherwise every
intake slot not yet answered, the sale slot in work and the command in work are answered REFUSED with RECONFIGURED at their old
place, and a CALIBRATE loses the mask it waited for while its calibrations run on (R26, R85, R86, R191; log 48, the model's choice);
with none of them and no FORWARD in work, every live quote is ended with RECONFIGURED, slot 0 first (log 64, the model's choice);
and with no quote live and no write of the issue unit waiting, the new settings take effect, the selection is in IDLE, a frame in
reception is discarded, the volume is that of the mode, and ACCEPTED is to be written (log 15, the model's choice of steps); images
that an UPDATE frame has still to apply are not waited for (log 88, the model's choice). A reload that waits for a ticket goes on in
just these ways after the part cycle that ends the ticket, so the slots and the command posted while it waited are answered
RECONFIGURED with the rest (R175), or go on where it is rejected (log 15). -/
def Obligations.ReloadAcceptance : Prop :=
  ∀ (s : State) (c : Settings) (got : List Word), s.cfg = some c → s.loader.stage = .fetched got → s.rejection got = none →
    (s.ticketInWork = true →
      exec .reloadAcceptance s = .next { s with loader := { s.loader with stage := .reloadTicket (readSettings got) [] } }) ∧
    (s.ticketInWork = false → journalFails s.bat (readSettings got) = true →
      exec .reloadAcceptance s = .next
        { s with
          loader := { s.loader with
            stage := .idle, accs := s.loader.accs ++ [⟨0x403, Code.journalBusy, .plain⟩, ⟨0x400, Code.rejected, .rejected⟩] }
          intake := { s.intake with
            stage := if s.intake.stage = .idle ∧ s.intake.fifo ≠ [] then .fetching [] else s.intake.stage }
          rep := { s.rep with command := match s.rep.command with | .held code => .fetching code [] | x => x }
          issue := { s.issue with
            stage := if s.issue.stage = .idle ∧ s.issue.fifo ≠ [] then .fetching [] else s.issue.stage } }) ∧
    (s.ticketInWork = false → journalFails s.bat (readSettings got) = false →
      s.intake.fifo ≠ [] ∨ s.issue.fifo ≠ [] ∨ s.rep.command ≠ .idle ∨ s.path.command ≠ .clear ∨ s.forwarding = true →
      exec .reloadAcceptance s = .next
        { s with
          loader := { s.loader with stage := .reloadFinish (readSettings got) }
          intake := { s.intake with stage :=
            match s.intake.fifo, s.intake.stage with
            | [], st => st
            | _ :: _, .answering accs => .answering accs
            | slot :: _, _ => .answering
              [⟨c.win.intake + 16 * slot + 13, Code.reconfigured, .plain⟩, ⟨c.win.intake + 16 * slot + 14, Code.noEntry, .plain⟩,
               ⟨c.win.intake + 16 * slot + 15, Code.noEntry, .plain⟩, ⟨c.win.intake + 16 * slot + 0, Code.refused, .intakePost slot⟩] }
          issue :=
            match s.issue.fifo with
            | [] => s.issue
            | slot :: _ =>
              { s.issue with
                records := s.issue.records.set slot .empty, stage := .answering
                accs := (if s.issue.stage = .answering then
                    s.issue.accs.filter fun x => !inRegion x.addr (c.win.sale + 16 * slot) 16
                  else s.issue.accs) ++
                  [⟨c.win.sale + 16 * slot + 8, Code.reconfigured, .plain⟩,
                   ⟨c.win.sale + 16 * slot + 0, Code.refused, .salePost slot⟩] }
          rep :=
            match s.rep.command with
            | .idle => s.rep
            | .answering _ => s.rep
            | _ => s.rep.answered c Code.refused Code.reconfigured
          board :=
            match s.rep.command with
            | .owned _ => { s.board with noticeFetch := none }
            | _ => s.board
          panel :=
            match s.rep.command with
            | .owned _ => { s.panel with calMask := none }
            | _ => s.panel }) ∧
    (s.ticketInWork = false → journalFails s.bat (readSettings got) = false → s.slotsFinished = true →
      (∀ slot, slot < 4 → s.path.sale.getD slot .clear = .clear) →
      s.issue.accs ≠ [] ∨ (∃ slot q, slot < 4 ∧ s.issue.records.getD slot .empty = .live q) →
      ∃ t, exec .reloadAcceptance s = .next t ∧
        (∀ slot, slot < 4 → t.issue.records.getD slot .empty =
          match s.issue.records.getD slot .empty with | .live q => .voided q .reconfigured | r => r) ∧
        t = { s with
          loader := { s.loader with stage := .reloadFinish (readSettings got) }
          issue := { s.issue with
            records := t.issue.records
            accs := s.issue.accs ++ (List.range 4).flatMap fun slot =>
              match s.issue.records.getD slot .empty with
              | .live _ => [⟨c.win.sale + 16 * slot + 8, Code.reconfigured, .expiredReason slot⟩,
                            ⟨c.win.sale + 16 * slot + 0, Code.expired, .expiredPost slot⟩]
              | _ => [] } }) ∧
    (s.ticketInWork = false → journalFails s.bat (readSettings got) = false → s.slotsFinished = true → s.issue.accs = [] →
      (∀ (slot : Nat) (q : Quote), s.issue.records.getD slot .empty ≠ .live q) →
      ∃ t, exec .reloadAcceptance s = .next t ∧ t.cfg = some (readSettings got) ∧ t.mem = s.mem ∧ t.path = s.path ∧
        t.sel.state = .idle ∧ t.sel.cursor = none ∧ t.panel.tracker = none ∧ t.bat.hour = dnat got 19 ∧
        t.bat.geometry = some ⟨256 * dnat got 7, dnat got 8⟩ ∧
        t.link = { s.link with
          receiver := .hunt
          history := if c.link.haltId = (readSettings got).link.haltId then s.link.history else none
          lastReply := if c.link.haltId = (readSettings got).link.haltId then s.link.lastReply else none
          chainPos := if c.chain = (readSettings got).chain then s.link.chainPos else some (readSettings got).chain } ∧
        t.ann.volume = (match t.act.mode with
          | .active => (readSettings got).ann.volActive
          | .quiet => (readSettings got).ann.volQuiet
          | .dormant => (readSettings got).ann.volDormant) ∧
        t.loader = { s.loader with
          stage := .idle, accs := s.loader.accs ++ [⟨0x403, 0, .plain⟩, ⟨0x400, Code.accepted, .accepted⟩] }) ∧
    (∀ (r : Requester) (x : Access) (u : State) (late : List Nat),
      u.takesCycle r x → s = (((u.landed x).served r (u.fetched x)).setHold 0).modLoader (fun l => { l with stage := .fetched got }) →
      ((u.landed x).served r (u.fetched x)).loader.stage = .reloadTicket (readSettings got) late →
      (s.ticketInWork = true → exec (.partCycle none) u = .next (((u.landed x).served r (u.fetched x)).setHold 0)) ∧
      (s.ticketInWork = false → exec (.partCycle none) u = exec .reloadAcceptance s))

/-! ### The departure table -/

/-- An update image is checked before it is applied: a field out of range answers BAD_FIELD, a day tag the table may not take
answers WRONG_DAY, and either changes nothing but its source's job. The fields are in range exactly when the train and the tag are,
a CANCEL's reason is, and a RECORD's direction, S and count are, its destination and calling stops are present and not the halt's own
stop, and no calling stop stands twice or is the destination (R11). DELETE: an entry the table does not hold answers
NOT_FOUND; one it holds leaves the table, alone, and no live quote stays bound to it. -/
def Obligations.UpdateChecksAndDelete : Prop :=
  ∀ (s : State) (c : Settings) (src : Source) (im : List Word) (k : UpdateKind), s.cfg = some c → s.turn src im k →
    (imageFieldsOk c k (readImage im) = false →
      exec (k.command src) s = .next (s.handBack c src im Code.badField)) ∧
    (imageFieldsOk c k (readImage im) = true ↔
      1 ≤ (readImage im).train ∧ (readImage im).tag ≤ 3 ∧ (k = .cancel → (readImage im).reason ≤ 15) ∧
      (k = .record →
        (readImage im).direction ≤ 1 ∧ (readImage im).sched ≤ 86399 ∧ (readImage im).nCalling ≤ 6 ∧
        c.present (readImage im).dest = true ∧ (readImage im).dest ≠ c.fare.halt ∧
        (∀ x ∈ (readImage im).calling, c.present x = true ∧ x ≠ c.fare.halt ∧ x ≠ (readImage im).dest) ∧
        (readImage im).calling.Nodup)) ∧
    (imageFieldsOk c k (readImage im) = true →
      (relationOf s.bat.day (readImage im).tag = .unheld ∨
       relationOf s.bat.day (readImage im).tag = .previous ∧ s.entry? (readImage im).who = none) →
      exec (k.command src) s = .next (s.handBack c src im Code.wrongDay)) ∧
    (∀ slot rest, src = .loc → s.intake.fifo = slot :: rest → s.handBack c .loc im Code.badField =
      { s with intake := { s.intake with
          stage := .answering [⟨c.win.intake + 16 * slot + 13, Code.badField, .plain⟩,
           ⟨c.win.intake + 16 * slot + 14, entryWord (s.entry? (readImage im).who), .plain⟩,
           ⟨c.win.intake + 16 * slot + 15, reportWord (s.entry? (readImage im).who), .plain⟩,
           ⟨c.win.intake + 16 * slot + 0, Code.done, .intakePost slot⟩] } }) ∧
    (k = .delete → s.accepts c .delete (readImage im) →
      (s.entry? (readImage im).who = none → exec (.delete src) s = .next (s.handBack c src im Code.notFound)) ∧
      (∀ e, s.entry? (readImage im).who = some e →
        ∃ t, exec (.delete src) s = .next (t.handBack c src im Code.applied) ∧ Inner s t ∧
          t.table = s.table.filter (fun x => !decide (x.who = e.who)) ∧ t.noLiveQuote e.who))

/-- RECORD: an unknown identity is added while there is room, or takes the place of the entry eviction gives up, or is
answered TABLE_FULL; a known one is a duplicate, is replaced, or is stale, by its version. The calling list is the image's, its bytes
read high byte first (log 82, the model's choice). -/
def Obligations.RecordAddsOrReplaces : Prop :=
  ∀ (s : State) (c : Settings) (src : Source) (im : List Word), s.cfg = some c → s.turn src im .record →
    s.accepts c .record (readImage im) →
    (s.entry? (readImage im).who = none →
      (s.table.length < 48 →
        ∃ t e, exec (.record src) s = .next (t.handBack c src im Code.added) ∧ Inner s t ∧
          t.table.length = s.table.length + 1 ∧ (∀ x ∈ s.table, x ∈ t.table) ∧ t.entry? (readImage im).who = some e ∧
          e = { newEntry src (readImage im) with phase := e.phase, dueAnn := e.dueAnn } ∧
          e.phase = (if s.bat.clock = .unset then .waiting
            else if ((readImage im).sched : Int) + c.proj.grace ≤ e.now s.bat then .departed
            else if ((readImage im).sched : Int) - c.proj.window ≤ e.now s.bat then .due else .waiting) ∧
          (e.dueAnn = true ↔ e.phase = .due)) ∧
      (48 ≤ s.table.length →
        evictee s.bat s.table (relationOf s.bat.day (readImage im).tag) (readImage im).sched = none →
        exec (.record src) s = .next (s.handBack c src im Code.tableFull)) ∧
      (∀ v, 48 ≤ s.table.length →
        evictee s.bat s.table (relationOf s.bat.day (readImage im).tag) (readImage im).sched = some v →
        ∃ t, exec (.record src) s = .next (t.handBack c src im Code.added) ∧ Inner s t ∧ t.entry? v.who = none ∧
          (t.entry? (readImage im).who).isSome = true ∧ (∀ x ∈ s.table, x.who ≠ v.who → x ∈ t.table) ∧
          t.rep.flags &&& Flag.tableLost.word = Flag.tableLost.word)) ∧
    (∀ e, s.entry? (readImage im).who = some e →
      (((readImage im).version + 256 - e.version) % 256 = 0 →
        exec (.record src) s = .next (s.handBack c src im Code.duplicate)) ∧
      (127 < ((readImage im).version + 256 - e.version) % 256 →
        exec (.record src) s = .next (s.handBack c src im Code.staleVersion)) ∧
      (1 ≤ ((readImage im).version + 256 - e.version) % 256 → ((readImage im).version + 256 - e.version) % 256 ≤ 127 →
        ∃ t n, exec (.record src) s = .next (t.handBack c src im Code.replaced) ∧ Inner s t ∧
          t.entry? (readImage im).who = some n ∧ (∀ x ∈ t.table, x.who = n.who ∨ x ∈ s.table) ∧
          (∀ x ∈ s.table, x.who ≠ n.who → x ∈ t.table) ∧
          (n.train = e.train ∧ n.tag = e.tag ∧ n.dir = directionOf (readImage im).direction ∧
           n.sched = (readImage im).sched ∧ n.dest = (readImage im).dest ∧ n.calling = (readImage im).calling ∧
           n.recovery = (readImage im).recovery ∧ n.noSale = (readImage im).noSale ∧
           n.version = (readImage im).version ∧ n.source = src ∧ n.report = e.report ∧ n.cancel = e.cancel ∧
           n.exp = n.sched + 60 * n.hm) ∧
          ((readImage im).noSale = true → t.noLiveQuote n.who)))

/-- CANCEL, REINSTATE and DEPARTED: an unknown identity answers NOT_FOUND; the phases that do not take the update answer
TOO_LATE, DUPLICATE or ALREADY_CANCELLED and change nothing; otherwise the entry, alone, takes its new phase and cancellation. The
announcer is handed a CANCEL request and withdraws the entry's DUE and DELAY, in either order (R56, R152; log 23); a reinstated entry
that is DUE and not yet announced hands it a DUE request (R54); a departed one has its DUE and DELAY withdrawn (R56). -/
def Obligations.CancelReinstateDeparted : Prop :=
  ∀ (s : State) (c : Settings) (src : Source) (im : List Word), s.cfg = some c →
    (s.turn src im .cancel → s.accepts c .cancel (readImage im) →
      (s.entry? (readImage im).who = none → exec (.cancel src) s = .next (s.handBack c src im Code.notFound)) ∧
      (∀ e, s.entry? (readImage im).who = some e →
        (e.phase = .departed → exec (.cancel src) s = .next (s.handBack c src im Code.tooLate)) ∧
        (e.phase = .cancelled → e.cancel = some (readImage im).reason →
          exec (.cancel src) s = .next (s.handBack c src im Code.duplicate)) ∧
        (e.phase ≠ .departed → ¬ (e.phase = .cancelled ∧ e.cancel = some (readImage im).reason) →
          ∃ t, exec (.cancel src) s = .next (t.handBack c src im Code.applied) ∧ Inner s t ∧
            t.table = s.table.map (fun x => if x.who = e.who then
              { e with cancel := some (readImage im).reason, phase := .cancelled
                       timeliness := e.classify s.bat c.proj s.clk.upSec
                       dueAnn := if e.phase = .cancelled then e.dueAnn else false } else x) ∧
            (e.phase ≠ .cancelled → t.noLiveQuote e.who) ∧
            (e.phase ≠ .cancelled →
              s.announced t (fun u => (u.handRequest .cancel e.who).annCancelled e.who) ∨
              s.announced t (fun u => (u.annCancelled e.who).handRequest .cancel e.who)) ∧
            (e.phase = .cancelled → s.announced t (fun u => u.handRequest .cancel e.who))))) ∧
    (s.turn src im .reinstate → s.accepts c .reinstate (readImage im) →
      (s.entry? (readImage im).who = none → exec (.reinstate src) s = .next (s.handBack c src im Code.notFound)) ∧
      (∀ e, s.entry? (readImage im).who = some e →
        (e.phase ≠ .cancelled → exec (.reinstate src) s = .next (s.handBack c src im Code.duplicate)) ∧
        (e.phase = .cancelled →
          ∃ t n, exec (.reinstate src) s = .next (t.handBack c src im Code.applied) ∧ Inner s t ∧
            t.table = s.table.map (fun x => if x.who = e.who then n else x) ∧
            n = { e with cancel := none, phase := n.phase, timeliness := e.classify s.bat c.proj s.clk.upSec
                         dueAnn := if n.phase = .due then true else e.dueAnn } ∧
            n.phase = (if s.bat.clock = .set ∧ (e.exp : Int) - c.proj.window ≤ e.now s.bat then .due else .waiting) ∧
            (n.phase = .due → e.dueAnn = false → s.announced t (fun u => u.handRequest .due e.who)) ∧
            (n.phase = .waiting ∨ e.dueAnn = true → s.announced t id)))) ∧
    (s.turn src im .departed → s.accepts c .departed (readImage im) →
      (s.entry? (readImage im).who = none → exec (.departed src) s = .next (s.handBack c src im Code.notFound)) ∧
      (∀ e, s.entry? (readImage im).who = some e →
        (e.phase = .departed → exec (.departed src) s = .next (s.handBack c src im Code.duplicate)) ∧
        (e.phase = .cancelled → exec (.departed src) s = .next (s.handBack c src im Code.alreadyCancelled)) ∧
        (e.phase = .waiting ∨ e.phase = .due →
          ∃ t, exec (.departed src) s = .next (t.handBack c src im Code.applied) ∧ Inner s t ∧
            t.table = s.table.map (fun x => if x.who = e.who then
              { e with phase := .departed, timeliness := e.classify s.bat c.proj s.clk.upSec } else x) ∧
            t.noLiveQuote e.who ∧ s.announced t (fun u => u.withdrawQueued e.who [.due, .delay]))))

/-- REPORT: the entry holds the report, with its delay raised to -900 seconds and the uptime of its arrival; the shown delay follows
the pending delay with its cap and its hysteresis; the expected time follows the shown delay. A departed entry answers TOO_LATE. A
DUE entry outside its window returns to WAITING whether or not the report has moved its E (log 63), and the departure test applies
also before the first halt second after a REINSTATE (log 84), both the model's choice. An entry that enters DUE unannounced hands
the announcer a DUE request, one that leaves it for WAITING or departs has its requests withdrawn, and a changed delay that stands
the announce step above the minutes last announced hands a DELAY request (R51, R54 to R56), also where the change is a fall (log 85,
the model's choice). That an evaluation which enters DUE hands no DELAY, since its DUE mark is set before R55's test (log 24), and
that a withdrawn DUE leaves the queue before the DELAY of the same evaluation enters it (log 53), are the model's choice. A request
takes the place of the same one in the queue, or stands behind those of its priority; a full queue gives up its last request for one
of higher priority, or drops the new one, counted, as a DELAY is while supply-low is asserted (R145, R147, R153). -/
def Obligations.ReportProjects : Prop :=
  ∀ (s : State) (c : Settings) (src : Source) (im : List Word), s.cfg = some c → s.turn src im .report →
    s.accepts c .report (readImage im) →
    (s.entry? (readImage im).who = none → exec (.report src) s = .next (s.handBack c src im Code.notFound)) ∧
    (∀ e, s.entry? (readImage im).who = some e →
      (e.phase = .departed → exec (.report src) s = .next (s.handBack c src im Code.tooLate)) ∧
      (e.phase ≠ .departed →
        ∃ t n, exec (.report src) s = .next (t.handBack c src im Code.applied) ∧ Inner s t ∧
          t.entry? (readImage im).who = some n ∧
          (∀ x ∈ t.table, x.who = n.who ∨ x ∈ s.table) ∧ (∀ x ∈ s.table, x.who ≠ n.who → x ∈ t.table) ∧
          (let d : Int := max (-900) (readImage im).delay
           let cap : Nat := (107999 - e.sched) / 60
           let pm : Nat := min ((d - 60 * e.recovery).toNat / 60) cap
           n = { e with
             report := some
               { delay := d, point := (readImage im).point, final := (readImage im).final, arrival := s.clk.upSec }
             hm := min (if e.report = none ∨ e.hm < pm ∨ pm + 2 ≤ e.hm ∨ (readImage im).final = true then pm else e.hm) cap
             exp := e.sched + 60 * n.hm
             timeliness := if c.proj.late ≤ n.hm then .late else .onTime
             phase := n.phase
             dueAnn := if n.phase = .due ∧ e.phase ≠ .due then true
                       else if n.phase = .waiting ∧ e.phase = .due then false else e.dueAnn
             delayAnn := n.delayAnn }) ∧
          (e.phase = .cancelled → n.phase = .cancelled) ∧
          (e.phase ≠ .cancelled → n.phase =
            if s.bat.clock = .unset then .waiting
            else if (n.exp : Int) + c.proj.grace ≤ n.now s.bat then .departed
            else if (n.exp : Int) - c.proj.window ≤ n.now s.bat then .due else .waiting) ∧
          (let phased : State → State := fun u =>
             if n.phase = e.phase then u
             else match n.phase with
               | .due => if e.dueAnn = true then u else u.handRequest .due e.who
               | .waiting => u.withdrawQueued e.who [.due]
               | _ => u.withdrawQueued e.who [.due, .delay]
           let delay : Prop := n.hm ≠ e.hm ∧ (n.phase = .waiting ∨ n.phase = .due) ∧ n.dueAnn = false ∧
             e.delayAnn.getD 0 + c.proj.step ≤ min n.hm 59
           (delay → n.delayAnn = some (min n.hm 59) ∧ s.announced t (fun u => (phased u).handRequest .delay e.who)) ∧
           (¬ delay → n.delayAnn = e.delayAnn ∧ s.announced t phased)))) ∧
    (∀ (k : AnnKind) (who : TrainId) (a : Announcement),
      let r : AnnReq := { kind := k, who := some who, clips := [] }
      let held : Prop := ∃ x ∈ s.ann.queue, x.kind = k ∧ x.who = some who
      let placed : List AnnReq → List AnnReq := fun q =>
        q.takeWhile (fun x => decide (k.priority ≤ x.kind.priority)) ++ r :: q.dropWhile (fun x => decide (k.priority ≤ x.kind.priority))
      let after : Nat → List AnnReq → State := fun lost q =>
        { s with ann := { s.ann with queue := q }, rep := s.rep.counted .annDrop lost }
      (k = .delay ∧ s.ann.supplyLow = true → s.handRequest k who = { s with rep := s.rep.counted .annDrop 1 }) ∧
      (¬ (k = .delay ∧ s.ann.supplyLow = true) → s.ann.current = some a →
        a.cut ≠ none ∨ k.priority ≤ a.kind.priority ∧ (∀ x ∈ s.ann.queue, x.kind.priority ≤ a.kind.priority) →
        (held → s.handRequest k who =
          after 0 (s.ann.queue.map fun x => if x.kind = k ∧ x.who = some who then r else x)) ∧
        (¬ held → s.ann.queue.length < 4 → s.handRequest k who = after 0 (placed s.ann.queue)) ∧
        (∀ last, ¬ held → 4 ≤ s.ann.queue.length → s.ann.queue.getLast? = some last →
          s.handRequest k who =
            after 1 (if last.kind.priority < k.priority then placed s.ann.queue.dropLast else s.ann.queue))))

/-! ### Sales and the journal -/

/-- QUOTE: the tests are applied in order, and the first that fails answers REFUSED with its reason and leaves no quote; a request
that passes leaves a LIVE quote, whose fare, train, validity end and the reason "none" are written before QUOTED, in this order (log
87, the model's choice). -/
def Obligations.QuoteAnswers : Prop :=
  ∀ (s : State) (c : Settings) (slot : Nat) (req : List Word), s.cfg = some c → s.saleReady .quote = some (slot, req) →
    (∀ r, s.quoteDecision c req = .error r →
      exec .quote s = .next (s.saleAnswered c slot .empty [(8, r)] Code.refused)) ∧
    (∀ q, s.quoteDecision c req = .ok q →
      exec .quote s = .next
        (s.saleAnswered c slot (.live q)
          [(9, BitVec.ofNat 16 (q.fare / 65536)), (10, BitVec.ofNat 16 q.fare),
           (11, BitVec.ofNat 16 (match q.bound with | none => 0 | some w => w.train)),
           (12, BitVec.ofNat 16 (q.validity / 65536)), (13, BitVec.ofNat 16 q.validity), (8, 0)] Code.quoted)) ∧
    (let n := readCounts (req.getD 1 0)
     let dest := (req.getD 2 0).toNat
     (s.bat.clock = .unset → s.quoteDecision c req = .error Code.clockUnset) ∧
     (s.bat.clock = .set →
       (9 < n.adults ∨ 9 < n.conc ∨ 9 < n.children ∨ 63 < dest ∨ c.present dest = false ∨
          productOf (req.getD 0 0).toNat = none → s.quoteDecision c req = .error Code.badField) ∧
       (∀ p, productOf (req.getD 0 0).toNat = some p → n.adults ≤ 9 → n.conc ≤ 9 → n.children ≤ 9 → dest ≤ 63 →
         c.present dest = true →
         (n.total = 0 → s.quoteDecision c req = .error Code.noPassenger) ∧
         (9 < n.total → s.quoteDecision c req = .error Code.tooMany) ∧
         (1 ≤ n.total → n.total ≤ 9 →
           (dest = c.fare.halt → s.quoteDecision c req = .error Code.sameStop) ∧
           (dest ≠ c.fare.halt → s.bat.freeEntries = 0 → s.quoteDecision c req = .error Code.journalFull) ∧
           (dest ≠ c.fare.halt → 0 < s.bat.freeEntries →
             (p = .day → s.anySellable c = false → s.quoteDecision c req = .error Code.noService) ∧
             (p ≠ .day → s.bind? c dest (req.getD 3 0).toNat = none →
               s.quoteDecision c req = .error (if req.getD 3 0 = 0 then Code.noService else Code.trainNotSellable)) ∧
             (∀ e, p ≠ .day → s.bind? c dest (req.getD 3 0).toNat = some e →
               s.bat.couldCommit p (c.totalFare dest p e.sched n) = false →
               s.quoteDecision c req = .error Code.totalFull) ∧
             (∀ e, p ≠ .day → s.bind? c dest (req.getD 3 0).toNat = some e →
               s.bat.couldCommit p (c.totalFare dest p e.sched n) = true →
               s.quoteDecision c req = .ok
                 { product := p, counts := n, dest := dest, bound := some e.who, fare := c.totalFare dest p e.sched n
                   validity := validityEnd s.bat c p (some e), expiry := s.clk.upSec + c.fare.quoteLife }) ∧
             (p = .day → s.anySellable c = true →
               (s.bat.couldCommit .day (c.totalFare dest .day s.bat.now n) = false →
                 s.quoteDecision c req = .error Code.totalFull) ∧
               (s.bat.couldCommit .day (c.totalFare dest .day s.bat.now n) = true →
                 s.quoteDecision c req = .ok
                   { product := .day, counts := n, dest := dest, bound := none, fare := c.totalFare dest .day s.bat.now n
                     validity := 86399, expiry := s.clk.upSec + c.fare.quoteLife })))))))

/-- ISSUE: the issue check applies its tests in order, and the first that fails answers REFUSED with its reason; a check that
passes empties the quote record and starts the ticket's writes at the write index: thirteen words, then UNSENT into the state
word. -/
def Obligations.IssueChecksThenWrites : Prop :=
  ∀ (s : State) (c : Settings) (slot : Nat) (req : List Word), s.cfg = some c → s.saleReady .issue = some (slot, req) →
    (∀ r, s.issueCheck c slot = .error r →
      exec .issue s = .next (s.saleAnswered c slot .empty [(8, r)] Code.refused)) ∧
    (s.bat.clock = .unset → s.issueCheck c slot = .error Code.clockUnset) ∧
    (s.bat.clock = .set →
      (s.issue.records.getD slot .empty = .empty → s.issueCheck c slot = .error Code.notQuoted) ∧
      (∀ q why, s.issue.records.getD slot .empty = .voided q why →
        s.issueCheck c slot = .error (if why = .departureGone then Code.departureGone else Code.notQuoted)) ∧
      (∀ q, s.issue.records.getD slot .empty = .live q →
        (s.quoteStands c q = false → s.issueCheck c slot = .error Code.departureGone) ∧
        (s.quoteStands c q = true → s.bat.freeEntries = 0 → s.issueCheck c slot = .error Code.journalFull) ∧
        (s.quoteStands c q = true → 0 < s.bat.freeEntries → s.bat.couldCommit q.product q.fare = false →
          s.issueCheck c slot = .error Code.totalFull) ∧
        (s.quoteStands c q = true → 0 < s.bat.freeEntries → s.bat.couldCommit q.product q.fare = true →
          ∃ (g : Geometry) (t : Ticket) (w : Nat → Word),
            s.bat.geometry = some g ∧
            (t.product = q.product ∧ t.counts = q.counts ∧ t.dest = q.dest ∧ t.fare = q.fare ∧ t.day = s.bat.day ∧
             t.second = s.bat.now ∧ (q.product ≠ .single → t.validity = q.validity)) ∧
            (w 0 = BitVec.ofNat 16 (s.bat.nextSerial / 65536) ∧ w 1 = BitVec.ofNat 16 s.bat.nextSerial ∧ w 2 = s.bat.day ∧
             w 3 = BitVec.ofNat 16 (s.bat.now / 65536) ∧ w 4 = BitVec.ofNat 16 s.bat.now ∧
             w 5 = BitVec.ofNat 16 (4096 * q.product.code + (256 * q.counts.adults + 16 * q.counts.conc + q.counts.children)) ∧
             w 6 = BitVec.ofNat 16 (256 * q.dest + c.fare.halt) ∧
             w 7 = BitVec.ofNat 16 (match q.bound with | none => 0 | some d => d.train) ∧
             w 8 = BitVec.ofNat 16 (t.validity / 65536) ∧ w 9 = BitVec.ofNat 16 t.validity ∧
             w 10 = BitVec.ofNat 16 (q.fare / 65536) ∧ w 11 = BitVec.ofNat 16 q.fare ∧
             w 12 = crcWords ((List.range 12).map w)) ∧
            exec .issue s = .next
              { s with issue := { s.issue with
                  records := s.issue.records.set slot .empty, stage := .ticket t
                  accs := s.issue.accs ++
                    (List.range 13).map (fun k => ⟨g.base + 16 + 14 * (s.bat.write % g.size) + k, w k, .plain⟩) ++
                    [⟨g.base + 16 + 14 * (s.bat.write % g.size) + 13, Code.unsent, .journalState⟩] } })))

/-- COMMIT: the part cycle that completes the state word write advances the product's count and total, the next serial and the write
index in one event, then the mirror, with its values as they stand when it is queued (log 55, the model's choice), the serial, the
fare, the train, the validity end, the reason "none" and ISSUED are to be written, in this order (log 87, the model's choice);
JOURNAL_LOW is raised when the free entries fall below an eighth. Any other occasion leaves the state (log 1, 10, the model's
choice). -/
def Obligations.CommitTicket : Prop :=
  ∀ (s : State) (c : Settings) (g : Geometry) (t : Ticket) (slot : Nat) (rest : List Nat) (a : Acc) (more : List Acc),
    s.power.main = true → s.cfg = some c → s.bat.geometry = some g → s.issue.stage = .ticket t → s.issue.fifo = slot :: rest →
    s.issue.accs = a :: more → a.land = .journalState →
    s.loader.stage = .idle ∨ s.loader.stage = .firstReport ∧ s.firstWritten = false ∨ (∃ n late, s.loader.stage = .reloadTicket n late) →
    (s.grant = some (.inr .issue) →
      ∃ b : Battery,
        b = { s.bat with
          nextSerial := s.bat.nextSerial + 1, write := (s.bat.write + 1) % (2 * g.size)
          single := if t.product = .single then ⟨s.bat.single.count + 1, s.bat.single.cents + t.fare⟩ else s.bat.single
          ret := if t.product = .ret then ⟨s.bat.ret.count + 1, s.bat.ret.cents + t.fare⟩ else s.bat.ret
          dayTicket := if t.product = .day then ⟨s.bat.dayTicket.count + 1, s.bat.dayTicket.cents + t.fare⟩
                       else s.bat.dayTicket } ∧
        exec .commit s = .next
          { s with
            bat := b
            mem := Memory.writeLanes s.mem a.addr a.val .both
            path := { s.path with hold := if s.path.waiting = [] then 0 else s.path.hold + 1 }
            rep := if g.size / 8 ≤ s.bat.freeEntries ∧ b.freeEntries < g.size / 8 then s.rep.raised .journalLow else s.rep
            issue := { s.issue with
              stage := .answering
              accs := more ++ (b.mirror.zipIdx.map fun p => ⟨g.base + p.2, p.1, .plain⟩) ++
                ([(14, BitVec.ofNat 16 (s.bat.nextSerial / 65536)), (15, BitVec.ofNat 16 s.bat.nextSerial),
                  (9, BitVec.ofNat 16 (t.fare / 65536)), (10, BitVec.ofNat 16 t.fare), (11, BitVec.ofNat 16 t.train),
                  (12, BitVec.ofNat 16 (t.validity / 65536)), (13, BitVec.ofNat 16 t.validity), (8, (0 : Word))].map
                  fun x : Nat × Word => ⟨c.win.sale + 16 * slot + x.1, x.2, .plain⟩) ++
                [⟨c.win.sale + 16 * slot + 0, Code.issued, .salePost slot⟩] } }) ∧
    (s.grant ≠ some (.inr .issue) → exec .commit s = .next s)

/-- RELEASE: the slot's quote record becomes NONE, whatever state it was in; "none" is to be written into the reason word and
EMPTY into the post word, with the same result on a slot with no quote. -/
def Obligations.ReleaseEmpties : Prop :=
  ∀ (s : State) (c : Settings) (slot : Nat) (req : List Word), s.cfg = some c → s.saleReady .release = some (slot, req) →
    exec .release s = .next
      { s with issue := { s.issue with
          records := s.issue.records.set slot .empty, stage := .answering
          accs := s.issue.accs ++
            [⟨c.win.sale + 16 * slot + 8, 0, .plain⟩, ⟨c.win.sale + 16 * slot + 0, Code.empty, .salePost slot⟩] } }

/-! ### Commands of the report block -/

/-- SET_CLOCK: refused AUTHORITY while the line office has authority and the link is UP, even out of range (log 43, the model's
choice), refused BAD_FIELD out of range, and otherwise taken as a setting, its service second by the formula of R33 throughout (log 79,
the model's choice), and answered DONE. -/
def Obligations.SetClockCommand : Prop :=
  ∀ (s : State) (c : Settings) (args : List Word), s.cfg = some c → s.rep.command = .ready .setClock args →
    (c.link.authority = true ∧ s.link.state = .up →
      exec .setClock s = .next { s with rep := s.rep.answered c Code.refused Code.authority }) ∧
    (¬ (c.link.authority = true ∧ s.link.state = .up) →
      (86399 < pairVal (args.getD 0 0) (args.getD 1 0) →
        exec .setClock s = .next { s with rep := s.rep.answered c Code.refused Code.badField }) ∧
      (pairVal (args.getD 0 0) (args.getD 1 0) ≤ 86399 →
        ∃ t, s.clockTaken t (pairVal (args.getD 0 0) (args.getD 1 0)) (args.getD 2 0) ∧
          exec .setClock s = .next { t with rep := t.rep.answered c Code.done 0 }))

/-- CALIBRATE starts the calibration of the channels it names and is held until they end; RESEED sets the baseline of each
named channel that is in use to its filtered count, or sends it to calibration outside the band, and is answered DONE; a mask
that names no channel or more than eight is refused BAD_FIELD. That a channel a CALIBRATE names keeps its baseline when channel 7,
named with it, leaves WET rests on the ascending order in which the channels are taken (log 83, the model's choice). -/
def Obligations.CalibrateAndReseed : Prop :=
  ∀ (s : State) (c : Settings) (args : List Word), s.cfg = some c →
    (s.rep.command = .ready .calibrate args →
      ((args.getD 0 0).toNat = 0 ∨ 255 < (args.getD 0 0).toNat →
        exec .calibrate s = .next { s with rep := s.rep.answered c Code.refused Code.badField }) ∧
      (0 < (args.getD 0 0).toNat → (args.getD 0 0).toNat ≤ 255 →
        ∃ t, exec .calibrate s = .next t ∧ Front s t ∧ t.rep.command = .owned .calibrate ∧
          t.panel.calMask = some (args.getD 0 0).toNat ∧
          (∀ ch x, ch < 8 → s.panel.chans[ch]? = some x → (args.getD 0 0).toNat.testBit ch = true →
            t.panel.chans[ch]? = some { x with state := .calibrating, gain := 0, calStep := 0, debounce := 0 }) ∧
          (∀ ch, ch < 8 → s.wet = false → (args.getD 0 0).toNat.testBit ch = false →
            t.panel.chans[ch]? = s.panel.chans[ch]?))) ∧
    (s.rep.command = .ready .reseed args →
      ((args.getD 0 0).toNat = 0 ∨ 255 < (args.getD 0 0).toNat →
        exec .reseed s = .next { s with rep := s.rep.answered c Code.refused Code.badField }) ∧
      (0 < (args.getD 0 0).toNat → (args.getD 0 0).toNat ≤ 255 → s.wet = false →
        ∃ t, exec .reseed s = .next t ∧ Front s t ∧ t.rep = s.rep.answered c Code.done 0 ∧
          ∀ ch x, ch < 8 → s.panel.chans[ch]? = some x →
            t.panel.chans[ch]? = some
              (if (args.getD 0 0).toNat.testBit ch = true ∧ (x.state = .idle ∨ x.state = .active) then
                if (x.filtered.tdiv 16 - (c.panel.target : Int)).natAbs ≤ c.panel.target / 8 then
                  { x with
                    state := .idle, debounce := if x.state = .active then 0 else x.debounce, baseline := x.filtered, delta := 0 }
                else
                  { x with state := .calibrating, gain := 0, calStep := 0, debounce := 0, baseline := x.filtered, delta := 0 }
               else x)))

/-- PLAY: a count or a clip number out of range is refused BAD_FIELD; a full queue whose last request has no lower priority is
refused QUEUE_FULL and counted; otherwise the request is placed behind those of its priority, a full queue giving up its last
request, counted, and answered DONE (R146, R147). With none current the queue starts (R148); a current announcement that a queued
request outranks is counted and cut, PLAYING at its clip's end, STARTING at once with the queue starting (R151). LOCAL_NOTICE: a
length or text out of range is refused BAD_FIELD, also with a duration of 0 (log 66, the model's choice), an empty text or a
duration of 0 clears the local notice, and any other starts the fetch of the text, one word in each part cycle that is the notice's
turn (log 25, the model's choice): the last one replaces the local notice, whose time starts then, marks row 4 of both screens if it
changed, and answers DONE (R121). -/
def Obligations.PlayAndLocalNotice : Prop :=
  (∀ (s : State) (c : Settings) (f : NoticeFetch) (x : Access), s.cfg = some c → s.takesCycle .composer x → s.noticeFirst = true →
    s.board.noticeFetch = some f →
    let words : List Word := f.got ++ [s.peek (f.addr + f.got.length)]
    let note : Notice :=
      { text := (words.flatMap fun w => [w.toNat / 256, w.toNat % 256]).take f.len, expiry := s.clk.upSec + f.duration }
    let d : Board := { s.board with noticeFetch := none, ownNotice := some note }
    x = .read (f.addr + f.got.length) ∧
    (words.length < (f.len + 1) / 2 →
      ∃ n, exec (.partCycle none) s = .next
        ({ s with
          free := n, board := { s.board with noticeFetch := some { f with got := words } }
          path := { s.path with hold := 0 } } : State).settleLoad) ∧
    ((f.len + 1) / 2 ≤ words.length →
      ∃ n, exec (.partCycle none) s = .next
        ({ s with
          free := n, board := if s.board.ownNotice = some note then d else s.noticesMarked d
          rep := s.rep.answered c Code.done 0, path := { s.path with hold := 0 } } : State).settleLoad)) ∧
  ∀ (s : State) (c : Settings) (args : List Word), s.cfg = some c →
    (s.rep.command = .ready .play args →
      ((args.getD 0 0).toNat = 0 ∨ 8 < (args.getD 0 0).toNat ∨
          (∃ k, k < (args.getD 0 0).toNat ∧ 127 < (wordChars args.tail (args.getD 0 0).toNat).getD k 0) →
        exec .play s = .next { s with rep := s.rep.answered c Code.refused Code.badField }) ∧
      (∀ clips, playClips args = some clips →
        let request : AnnReq := { kind := .play, who := none, clips := clips }
        let placed : List AnnReq → List AnnReq := fun q =>
          q.takeWhile (fun r => decide (2 ≤ r.kind.priority)) ++ request :: q.dropWhile (fun r => decide (2 ≤ r.kind.priority))
        (s.ann.queue.length < 4 ∨ (∃ l, s.ann.queue.getLast? = some l ∧ l.kind.priority < 2) →
          let queue := if s.ann.queue.length < 4 then placed s.ann.queue else placed s.ann.queue.dropLast
          let rep := s.rep.counted .annDrop (if s.ann.queue.length < 4 then 0 else 1)
          (s.ann.current = none → ∃ t, exec .play s = .next t ∧ Front s t ∧ t.rep = rep.answered c Code.done 0 ∧
            t = { s with rep := t.rep, ann := (({ s with ann := { s.ann with queue := queue } } : State).startFrom c queue).ann } ∧
            (s.ann.queue = [] → (∀ k ∈ clips, c.clips ≤ k) → t.ann.current = none ∧ t.ann.queue = []) ∧
            (s.ann.queue = [] → (∃ k ∈ clips, k < c.clips) →
              ∃ a, t.ann.current = some a ∧ a.kind = .play ∧ a.playing = false ∧ a.clips = clips ∧ t.ann.queue = [])) ∧
          (∀ a, s.ann.current = some a → a.cut ≠ none ∨ (∀ r ∈ queue, r.kind.priority ≤ a.kind.priority) →
            exec .play s = .next
              { s with rep := rep.answered c Code.done 0, ann := { s.ann with queue := queue } }) ∧
          (∀ a, s.ann.current = some a → a.cut = none → (∃ r ∈ queue, a.kind.priority < r.kind.priority) →
            (a.playing = true → exec .play s = .next
              { s with
                rep := (rep.counted .annDrop 1).answered c Code.done 0
                ann := { s.ann with queue := queue, current := some { a with cut := some .preempted } } }) ∧
            (a.playing = false → exec .play s = .next
              { s with
                rep := (rep.counted .annDrop 1).answered c Code.done 0
                ann := (({ s with ann := { s.ann with
                  queue := queue, current := none, fifo := [], level := 128 } } : State).startFrom c queue).ann }))) ∧
        (4 ≤ s.ann.queue.length → (∀ l, s.ann.queue.getLast? = some l → 2 ≤ l.kind.priority) → s.ann.current ≠ none →
          exec .play s = .next { s with rep := (s.rep.counted .annDrop 1).answered c Code.refused Code.queueFull }))) ∧
    (s.rep.command = .ready .localNotice args →
      (64 < (args.getD 2 0).toNat ∨
          1048576 < pairAddr (args.getD 0 0) (args.getD 1 0) + ((args.getD 2 0).toNat + 1) / 2 →
        exec .localNotice s = .next { s with rep := s.rep.answered c Code.refused Code.badField }) ∧
      ((args.getD 2 0).toNat ≤ 64 → pairAddr (args.getD 0 0) (args.getD 1 0) + ((args.getD 2 0).toNat + 1) / 2 ≤ 1048576 →
        (args.getD 2 0 = 0 ∨ args.getD 3 0 = 0 →
          exec .localNotice s = .next
            { s with
              rep := s.rep.answered c Code.done 0
              board := if s.board.ownNotice = none then s.board else s.noticesMarked { s.board with ownNotice := none } }) ∧
        (args.getD 2 0 ≠ 0 → args.getD 3 0 ≠ 0 →
          exec .localNotice s = .next
            { s with
              rep := { s.rep with command := .owned .localNotice }
              board := { s.board with
                noticeFetch := some
                  { addr := pairAddr (args.getD 0 0) (args.getD 1 0), len := (args.getD 2 0).toNat
                    duration := (args.getD 3 0).toNat, got := [] } } })))

/-- SELECTION_DONE: in HANDED the machine goes to BROWSE when presence holds and to IDLE when not, with page 0, in IDLE too (log 89,
the model's choice), its cursor and product standing (log 32, the model's choice), and DONE is answered; elsewhere it is refused
NOT_HANDED. JOURNAL_PUSH: refused NO_RECORDS with nothing unconfirmed, otherwise the push mark is set. -/
def Obligations.SelectionDoneAndJournalPush : Prop :=
  ∀ (s : State) (c : Settings) (args : List Word), s.cfg = some c →
    (s.rep.command = .ready .selectionDone args →
      (s.sel.state ≠ .handed →
        exec .selectionDone s = .next { s with rep := s.rep.answered c Code.refused Code.notHanded }) ∧
      (s.sel.state = .handed →
        ∃ t, exec .selectionDone s = .next t ∧ Front s t ∧ t.rep = s.rep.answered c Code.done 0 ∧
          t.sel = { s.sel with
            state := if s.presence = true then .browse else .idle, page := 0, handed := none, leave := none })) ∧
    (s.rep.command = .ready .journalPush args →
      (s.bat.unconfirmed = 0 →
        exec .journalPush s = .next { s with rep := s.rep.answered c Code.refused Code.noRecords }) ∧
      (0 < s.bat.unconfirmed →
        exec .journalPush s = .next { s with link := { s.link with push := true }, rep := s.rep.answered c Code.done 0 }))

/-! ### The line -/

/-- FRAME_ERROR, FRAME_GAP_EXPIRY and FOREIGN_FRAME, while the receiver takes characters. In HUNT only a START begins a frame and
nothing is counted, and a character with a low stop bit, a START among them, is discarded there (log 73, the model's choice); the
header and then the body are collected; a SEQ or LENGTH out of range, check bytes that differ, and, in HEADER or BODY alone, a
character error or a gap beyond the limit discard and count the frame. A frame command completes the frame whose first bytes are in
reception (log 21, the model's choice). A good frame for another halt is counted, another halt's reply is not. That the characters
come with FRAME_ERROR, and the idle line with FRAME_GAP_EXPIRY, is log 22, and that SEQ is tested at the last header byte log 68,
the model's choice. A time elapsed since an instant above the present uptime is 0 (log 86, the model's choice). -/
def Obligations.FrameErrorsAndForeignFrames : Prop :=
  ∀ (s : State) (c : Settings), s.cfg = some c → s.hears →
    let now := s.clk.upSec * 1024 + s.clk.upSub
    let inPhase : Receiver → State := fun r => { s with link := { s.link with receiver := r } }
    let counted : State := { s with rep := s.rep.counted .frameError 1 }
    ((∀ (chars : List Byte) (bad : Bool), (0xC5 : Byte) ∉ chars → exec (.frameError ⟨chars, bad⟩) s = .next s) ∧
      (∀ gap, exec (.frameGapExpiry gap) s = .next s) ∧
      (∀ got : List Byte, got.length < 4 → exec (.frameError ⟨0xC5 :: got, false⟩) s = .next (inPhase (.header got now)))) ∧
    (∀ (kind seq halt len : Byte) (rest : List Byte),
      (7 < seq.toNat ∨ 60 < len.toNat → exec (.frameError ⟨[0xC5, kind, seq, halt, len], false⟩) s = .next counted) ∧
      (seq.toNat ≤ 7 → len.toNat ≤ 60 →
        (rest.length < 2 * len.toNat + 2 →
          exec (.frameError ⟨0xC5 :: kind :: seq :: halt :: len :: rest, false⟩) s =
            .next (inPhase (.body (kind :: seq :: halt :: len :: rest) now))) ∧
        (rest.length = 2 * len.toNat + 2 →
          wordBytes [crcBytes (kind :: seq :: halt :: len :: rest.take (2 * len.toNat))] ≠ rest.drop (2 * len.toNat) →
          exec (.frameError ⟨0xC5 :: kind :: seq :: halt :: len :: rest, false⟩) s = .next counted))) ∧
    (∀ (got : List Byte) (since : Nat) (r : Receiver), r = .header got since ∨ r = .body got since →
      exec (.frameError ⟨[], true⟩) (inPhase r) = .next counted ∧
      (∀ gap, (1024 * c.link.gap < 1000 * (now - since + gap) → exec (.frameGapExpiry gap) (inPhase r) = .next counted) ∧
        (1000 * (now - since + gap) ≤ 1024 * c.link.gap → exec (.frameGapExpiry gap) (inPhase r) = .next (inPhase r))) ∧
      (∀ (i : Instr) (kind : Byte) (seq : Fin 8) (payload : List Word), addressedFrame i = some (kind, seq, payload) →
        1000 * (now - since) ≤ 1024 * c.link.gap →
        0xC5 :: got <+: Frame.bytes { kind := kind, seq := seq.val, halt := BitVec.ofNat 8 c.link.haltId, payload := payload } →
        exec i (inPhase r) = exec i s)) ∧
    (∀ (kind halt : Byte) (seq : Fin 8) (payload : List Word), payload.length ≤ 60 →
      (halt.toNat ≠ c.link.haltId → isReplyKind kind = false → ¬ (halt = 255 ∧ (kind = 0x03 ∨ kind = 0x04)) →
        exec (.foreignFrame kind halt seq payload) s = .next { s with rep := s.rep.counted .foreignFrame 1 }) ∧
      (isReplyKind kind = true → exec (.foreignFrame kind halt seq payload) s = .next s))

/-- A duplicate: an addressed frame that repeats the sequence number and the check word of the last is counted, applies
nothing, and is answered with the last reply again. -/
def Obligations.DuplicateFrame : Prop :=
  ∀ (s : State) (c : Settings) (i : Instr) (kind : Byte) (seq : Fin 8) (payload : List Word), s.cfg = some c → s.hears →
    addressedFrame i = some (kind, seq, payload) → payload.length ≤ 60 →
    s.link.history = some (c.frameMark kind seq payload) →
    (∀ bytes, s.link.lastReply = some bytes →
      exec i s = .next
        { s.heard c with
          link := { (s.heard c).link with pending := some (s.replyAt c seq (.built bytes)) }
          rep := (s.heard c).rep.counted .duplicateFrame 1 }) ∧
    (s.link.lastReply = none → exec i s = .next { s.heard c with rep := (s.heard c).rep.counted .duplicateFrame 1 })

/-- POLL and a frame of an unknown kind: with unsent records, up to four are handed for sending, their state words to be
rewritten SENT (in index order, log 71, the model's choice); with none, the push mark hands the oldest unconfirmed ones again and is
cleared (log 74, the model's choice); otherwise IDLE is answered. A JOURNAL reply reads the 13 ticket words of each record in turn, one
in each of its part cycles, and with the last one is built of the record count and those words (R167), which with the history empty
leaves the last reply (log 81, the model's choice). STATUS_REQUEST: the status, the table count, the free entries and the flags are
answered. -/
def Obligations.PollAndStatus : Prop :=
  (∀ (s : State) (c : Settings) (g : Geometry) (r : Reply) (todo : List Nat) (got : List Word) (x : Access), s.cfg = some c →
    s.takesCycle .link x → s.bat.geometry = some g → s.link.pending = some r → r.build = .journal todo got →
    let a : Nat := g.base + 16 + 14 * (todo.getD (got.length / 13) 0 % g.size) + got.length % 13
    let words : List Word := got ++ [s.peek a]
    x = .read a ∧
    (words.length ≠ 13 * todo.length →
      exec (.partCycle none) s = .next
        ({ s with
          link := { s.link with pending := some { r with build := .journal todo words } }
          path := { s.path with hold := 0 } } : State).settleLoad) ∧
    (words.length = 13 * todo.length →
      let bytes := Frame.bytes
        { kind := 0x83, seq := r.seq, halt := BitVec.ofNat 8 r.haltId, payload := BitVec.ofNat 16 todo.length :: words }
      exec (.partCycle none) s = .next
        ({ s with
          link := { s.link with
            pending := some { r with build := .built bytes }
            lastReply := if s.link.history = none then s.link.lastReply else some bytes }
          path := { s.path with hold := 0 } } : State).settleLoad)) ∧
  ∀ (s : State) (c : Settings) (i : Instr) (kind : Byte) (seq : Fin 8) (payload : List Word), s.cfg = some c → s.hears →
    addressedFrame i = some (kind, seq, payload) → payload.length ≤ 60 →
    s.link.history ≠ some (c.frameMark kind seq payload) →
    (kind = 0x01 ∨ isInboundKind kind = false →
      (s.bat.geometry = none ∨ s.bat.send = s.bat.write ∧ s.link.push = false →
        exec i s = .next ((s.awaiting c kind seq payload (.built [])).replied c seq 0x84 [])) ∧
      (∀ g, s.bat.geometry = some g → 0 < (s.bat.write + 2 * g.size - s.bat.send) % (2 * g.size) → s.bat.send ≠ s.bat.write →
        let n := min 4 ((s.bat.write + 2 * g.size - s.bat.send) % (2 * g.size))
        let is := (List.range n).map fun k => (s.bat.send + k) % (2 * g.size)
        exec i s = .next
          { s.awaiting c kind seq payload (.journal is []) with
            bat := { s.bat with send := (s.bat.send + n) % (2 * g.size) }
            issue := { s.issue with
              accs := s.issue.accs ++ is.map fun x => ⟨g.base + 16 + 14 * (x % g.size) + 13, Code.sent, .plain⟩ } }) ∧
      (∀ g, s.bat.geometry = some g → s.bat.send = s.bat.write → s.link.push = true →
        let n := min 4 ((s.bat.send + 2 * g.size - s.bat.confirm) % (2 * g.size))
        let is := (List.range n).map fun k => (s.bat.confirm + k) % (2 * g.size)
        let t := s.awaiting c kind seq payload (if n = 0 then .built [] else .journal is [])
        let u : State := { t with link := { t.link with push := false } }
        exec i s = .next (if n = 0 then u.replied c seq 0x84 [] else u))) ∧
    (kind = 0x06 →
      exec i s = .next
        ((s.awaiting c kind seq payload (.built [])).replied c seq 0x82
          [BitVec.ofNat 16 (s.act.mode.code + (if s.act.supplyLow then 4 else 0) + 8 + 32 * s.bat.clock.code),
           BitVec.ofNat 16 s.table.length, BitVec.ofNat 16 s.bat.freeEntries, (s.heard c).rep.flags]))

/-- UPDATE: a payload that is not one to four images is answered BAD_FRAME; otherwise its images go to their application one
by one. FORWARD: the entry at the chain position is to be read; NO_BUFFER is answered, without reading it, for an entry outside the
address space, and where no position has been set, which the spec knows no case of (log 41, the model's choice). Its six words read, an
EMPTY entry of enough capacity, which lies with the buffer's words apart from every window and the descriptor, is delivered to: the
payload, its length and kind, and last FULL, at whose landing the position moves on, FORWARD is raised and ACK OK is built; any other
is answered NO_BUFFER with nothing written (R170, R171). The model's choice is that the descriptor of R171 is its active length from
0x00400, not the load area (log 44), and that a reply built with the history empty leaves the last reply (log 81). -/
def Obligations.UpdateAndForwardFrames : Prop :=
  (∀ (s : State) (c : Settings) (r : Reply) (x : Access), s.cfg = some c → s.takesCycle .link x → s.link.pending = some r →
    let goes : ReplyBuild → List Host.Cell → State := fun b m =>
      { s with mem := m, link := { s.link with pending := some { r with build := b } }, path := { s.path with hold := 0 } }
    let acked : Word → State → State := fun status t =>
      let bytes := Frame.bytes { kind := 0x81, seq := r.seq, halt := BitVec.ofNat 8 r.haltId, payload := [status] }
      { t with link := { t.link with
          pending := some { r with build := .built bytes }
          lastReply := if s.link.history = none then s.link.lastReply else some bytes } }
    (∀ pos payload got, r.build = .chainRead pos payload got →
      let words : List Word := got ++ [s.peek (pos + got.length)]
      let addr : Nat → Nat := fun k => (words.getD k 0).toNat % 16 * 65536 + (words.getD (k + 1) 0).toNat
      let apart : Nat → Nat → Prop := fun a n =>
        ∀ w ∈ [(0x400, c.len), (c.win.intake, 256), (c.win.sale, 64), (c.win.report, 64), (c.win.journal, 16 + 14 * c.win.jsize),
            (c.win.frameA, 79 * c.win.strideA + 32), (c.win.frameB, 79 * c.win.strideB + 32)], a + n ≤ w.1 ∨ w.1 + w.2 ≤ a
      let open_ : Prop := words.getD 0 0 = 0 ∧ payload.length ≤ (words.getD 1 0).toNat ∧ apart pos 8 ∧
        (payload ≠ [] → addr 2 + payload.length ≤ 1048576 ∧ apart (addr 2) payload.length)
      x = .read (pos + got.length) ∧
      (got.length < 5 → exec (.partCycle none) s = .next (goes (.chainRead pos payload words) s.mem).settleLoad) ∧
      (5 ≤ got.length → open_ →
        exec (.partCycle none) s = .next
          (goes (.chainWrite (payload.zipIdx.map (fun p => ⟨addr 2 + p.2, p.1, .plain⟩) ++
            [⟨pos + 6, BitVec.ofNat 16 payload.length, .plain⟩, ⟨pos + 7, payload.getD 0 0, .plain⟩,
             ⟨pos, 1, .chainFull (if addr 4 = 0 then c.chain else addr 4)⟩])) s.mem).settleLoad) ∧
      (5 ≤ got.length → ¬ open_ →
        exec (.partCycle none) s = .next (acked Code.ackNoBuffer (goes r.build s.mem)).settleLoad)) ∧
    (∀ w rest, r.build = .chainWrite (w :: rest) →
      let m := Memory.writeLanes s.mem w.addr w.val .both
      x = .write w.addr w.val ∧
      (∀ next, w.land = .chainFull next →
        exec (.partCycle none) s = .next
          (acked Code.ackOk
            { s with
              mem := m, link := { s.link with chainPos := some next }, rep := s.rep.raised .forward
              path := { s.path with hold := 0 } }).settleLoad) ∧
      ((∀ next, w.land ≠ .chainFull next) → exec (.partCycle none) s = .next (goes (.chainWrite rest) m).settleLoad))) ∧
  ∀ (s : State) (c : Settings) (seq : Fin 8) (payload : List Word), s.cfg = some c → s.hears → payload.length ≤ 60 →
    (s.link.history ≠ some (c.frameMark 0x02 seq payload) →
      (let n := (payload.getD 0 0).toNat
       ((n = 0 ∨ 4 < n ∨ payload.length ≠ 1 + 9 * n) →
        exec (.update seq payload) s = .next
          ((s.awaiting c 0x02 seq payload (.built [])).replied c seq 0x81 [Code.ackBadFrame])) ∧
       (1 ≤ n → n ≤ 4 → payload.length = 1 + 9 * n → imageKind ((payload.drop 1).take 9) ≠ none →
        ∃ rest, rest.length = n - 1 ∧
          (∀ k, k < n → ((payload.drop 1).take 9 :: rest)[k]? = some ((payload.drop (1 + 9 * k)).take 9)) ∧
          exec (.update seq payload) s = .next
            (s.awaiting c 0x02 seq payload (.updating ((payload.drop 1).take 9 :: rest) []))))) ∧
    (s.link.history ≠ some (c.frameMark 0x07 seq payload) →
      (∀ pos, s.link.chainPos = some pos → pos + 7 ≤ 1048575 →
        exec (.forward seq payload) s = .next (s.awaiting c 0x07 seq payload (.chainRead pos payload []))) ∧
      (s.link.chainPos = none ∨ (∃ pos, s.link.chainPos = some pos ∧ 1048575 < pos + 7) →
        exec (.forward seq payload) s = .next
          ((s.awaiting c 0x07 seq payload (.built [])).replied c seq 0x81 [Code.ackNoBuffer])))

/-- CLOCK and NOTICE: a broadcast is applied when it fits and is never answered; an addressed one is answered BAD_FRAME when
it does not fit, and is applied and answered like a POLL when it does. A setting's service second is the formula's throughout (log 79,
the model's choice). A NOTICE sets the line notice, or clears it for an
empty text or a duration of 0. -/
def Obligations.ClockAndNoticeFrames : Prop :=
  ∀ (s : State) (c : Settings) (seq : Fin 8) (payload : List Word), s.cfg = some c → s.hears → payload.length ≤ 60 →
    (clockPayload payload = none →
      exec (.clock .broadcast seq payload) s = .next (s.heard c) ∧
      (s.link.history ≠ some (c.frameMark 0x03 seq payload) →
        exec (.clock .addressed seq payload) s = .next
          ((s.awaiting c 0x03 seq payload (.built [])).replied c seq 0x81 [Code.ackBadFrame]))) ∧
    (∀ civil day, clockPayload payload = some (civil, day) →
      (∃ t, (s.heard c).clockTaken t civil day ∧ exec (.clock .broadcast seq payload) s = .next t) ∧
      (s.link.history ≠ some (c.frameMark 0x03 seq payload) →
        ∃ t, (s.awaiting c 0x03 seq payload (.built [])).clockTaken t civil day ∧
          exec (.clock .addressed seq payload) s = .next t.replyJournal)) ∧
    (noticePayload payload = none →
      exec (.notice .broadcast seq payload) s = .next (s.heard c) ∧
      (s.link.history ≠ some (c.frameMark 0x04 seq payload) →
        exec (.notice .addressed seq payload) s = .next
          ((s.awaiting c 0x04 seq payload (.built [])).replied c seq 0x81 [Code.ackBadFrame]))) ∧
    (∀ dur text, noticePayload payload = some (dur, text) →
      let held := if dur = 0 ∨ text = [] then none else some { text := text, expiry := s.clk.upSec + dur : Notice }
      (∃ t, Front (s.heard c) t ∧ t.board.lineNotice = held ∧ t.board.ownNotice = s.board.ownNotice ∧
        exec (.notice .broadcast seq payload) s = .next t) ∧
      (s.link.history ≠ some (c.frameMark 0x04 seq payload) →
        ∃ t, Front (s.awaiting c 0x04 seq payload (.built [])) t ∧ t.board.lineNotice = held ∧
          t.board.ownNotice = s.board.ownNotice ∧ exec (.notice .addressed seq payload) s = .next t.replyJournal))

/-- JOURNAL_CONFIRM: the sent entries up to the serial are confirmed: their state words are to be rewritten CONFIRMED, the
confirm index passes them and the mirror is to be rewritten, with its values as they stand when it is queued (log 55; the order of the
state words is log 71, both the model's choice); a serial before the oldest, or with nothing sent, confirms none;
a payload that is not a serial is answered BAD_FRAME. -/
def Obligations.JournalConfirm : Prop :=
  ∀ (s : State) (c : Settings) (seq : Fin 8) (payload : List Word), s.cfg = some c → s.hears → payload.length ≤ 60 →
    s.link.history ≠ some (c.frameMark 0x05 seq payload) →
    (payload.length ≠ 2 →
      exec (.journalConfirm seq payload) s = .next
        ((s.awaiting c 0x05 seq payload (.built [])).replied c seq 0x81 [Code.ackBadFrame])) ∧
    (∀ (g : Geometry) (hi lo : Word), payload = [hi, lo] → s.bat.geometry = some g →
      let serial := hi.toNat * 65536 + lo.toNat
      let oldest := s.bat.nextSerial - (s.bat.write + 2 * g.size - s.bat.confirm) % (2 * g.size)
      let sent := (s.bat.send + 2 * g.size - s.bat.confirm) % (2 * g.size)
      let n := if sent = 0 ∨ serial < oldest then 0 else min serial (oldest + sent - 1) - oldest + 1
      let t := s.awaiting c 0x05 seq payload (.built [])
      let b := { s.bat with confirm := (s.bat.confirm + n) % (2 * g.size) }
      exec (.journalConfirm seq payload) s = .next
        (if n = 0 then t
         else
          { t with
            bat := b
            issue := { s.issue with
              accs := s.issue.accs ++
                (List.range n).map (fun k =>
                  ⟨g.base + 16 + 14 * ((s.bat.confirm + k) % (2 * g.size) % g.size) + 13, Code.confirmed, .plain⟩) ++
                b.mirror.zipIdx.map fun p => ⟨g.base + p.2, p.1, .plain⟩ } } : State).replyJournal)

/-- REPLY_SEND: a built reply is sent once its turnaround has passed, but not while the host reset input is asserted (log 13, the
model's choice); REPLY_END: the transmit enable is released. A time elapsed since an instant above the present uptime is 0 (log 86,
the model's choice). -/
def Obligations.ReplySendAndEnd : Prop :=
  ∀ s : State,
    (∀ (r : Reply) (bytes : List Byte), s.link.pending = some r → r.build = .built bytes → s.power.reset = false →
      (1024 * r.turnaround ≤ 1000 * (s.clk.upSec * 1024 + s.clk.upSub - r.since) →
        exec .replySend s = .next { s with link := { s.link with pending := none, sending := some bytes } }) ∧
      (1000 * (s.clk.upSec * 1024 + s.clk.upSub - r.since) < 1024 * r.turnaround → exec .replySend s = .next s)) ∧
    (s.link.pending = none ∨ s.power.reset = true → exec .replySend s = .next s) ∧
    exec .replyEnd s = .next { s with link := { s.link with sending := none } }

/-! ### Invariants of every step -/

/-- The memory list keeps its canonical form: addresses rising, no cell that holds the unlisted byte. -/
def Obligations.MemoryStaysCanonical : Prop :=
  ∀ s t : State, Memory.wf s.mem = true → step s = .next t → Memory.wf t.mem = true

/-- The host is held for at most four part cycles, and for none while no cycle of its waits (R181). The announcer's queue holds at most
four requests, in order of priority, no request twice (R147). -/
def Obligations.HostHeldAtMostFour : Prop :=
  (∀ s t : State, s.HoldBounded → step s = .next t → t.HoldBounded) ∧
  (∀ s t : State, s.QueueOrdered → step s = .next t → t.QueueOrdered)

/-- The table holds at most 48 entries, no two of one identity (R5). It stands in listing order (R4), and the mode is bounded by its
DUE entries and by supply-low (R138), given that it is empty before the first acceptance, which every step keeps as well. -/
def Obligations.TableStaysSound : Prop :=
  (∀ s t : State, s.TableSound → step s = .next t → t.TableSound) ∧
  (∀ s t : State, s.EmptyBeforeAcceptance → step s = .next t → t.EmptyBeforeAcceptance) ∧
  (∀ s t : State, s.EmptyBeforeAcceptance → s.TableSound → s.Listed → step s = .next t → t.Listed) ∧
  (∀ s t : State, s.EmptyBeforeAcceptance → s.TableSound → s.ModeBounded → step s = .next t → t.ModeBounded)

/-- The windows in force, and those a reload is about to put in force, are windows a descriptor may have (R194). The journal's indices
stay in ring order, with at most J entries unconfirmed (R79). -/
def Obligations.WindowsStayFitting : Prop :=
  (∀ s t : State, s.WindowsFit → step s = .next t → t.WindowsFit) ∧
  (∀ s t : State, s.JournalOrdered → step s = .next t → t.JournalOrdered)

/-- The invariants hold at reset. -/
def Obligations.InvariantsAtReset : Prop :=
  Memory.wf State.reset.mem = true ∧ State.reset.HoldBounded ∧ State.reset.TableSound ∧ State.reset.WindowsFit ∧
  State.reset.QueueOrdered ∧ State.reset.EmptyBeforeAcceptance ∧ State.reset.Listed ∧ State.reset.ModeBounded ∧
  State.reset.JournalOrdered
end

