-- ==== Sys2Proof/Laws/State.lean ====
section
/-! SUPPORT. One lemma per field per update of the state, so that no proof unfolds a record update. -/

namespace Sys2Proof.Machine.State

variable (s : State)

/-! ### `modBat` -/

@[simp] theorem modBat_pending (f : Battery → Battery) : (s.modBat f).pending = s.pending := rfl
@[simp] theorem modBat_free (f : Battery → Battery) : (s.modBat f).free = s.free := rfl
@[simp] theorem modBat_mem (f : Battery → Battery) : (s.modBat f).mem = s.mem := rfl
@[simp] theorem modBat_power (f : Battery → Battery) : (s.modBat f).power = s.power := rfl
@[simp] theorem modBat_bat (f : Battery → Battery) : (s.modBat f).bat = f s.bat := rfl
@[simp] theorem modBat_clk (f : Battery → Battery) : (s.modBat f).clk = s.clk := rfl
@[simp] theorem modBat_cfg (f : Battery → Battery) : (s.modBat f).cfg = s.cfg := rfl
@[simp] theorem modBat_table (f : Battery → Battery) : (s.modBat f).table = s.table := rfl
@[simp] theorem modBat_dueCount (f : Battery → Battery) : (s.modBat f).dueCount = s.dueCount := rfl
@[simp] theorem modBat_intake (f : Battery → Battery) : (s.modBat f).intake = s.intake := rfl
@[simp] theorem modBat_issue (f : Battery → Battery) : (s.modBat f).issue = s.issue := rfl
@[simp] theorem modBat_panel (f : Battery → Battery) : (s.modBat f).panel = s.panel := rfl
@[simp] theorem modBat_sel (f : Battery → Battery) : (s.modBat f).sel = s.sel := rfl
@[simp] theorem modBat_board (f : Battery → Battery) : (s.modBat f).board = s.board := rfl
@[simp] theorem modBat_act (f : Battery → Battery) : (s.modBat f).act = s.act := rfl
@[simp] theorem modBat_ann (f : Battery → Battery) : (s.modBat f).ann = s.ann := rfl
@[simp] theorem modBat_link (f : Battery → Battery) : (s.modBat f).link = s.link := rfl
@[simp] theorem modBat_path (f : Battery → Battery) : (s.modBat f).path = s.path := rfl
@[simp] theorem modBat_rep (f : Battery → Battery) : (s.modBat f).rep = s.rep := rfl
@[simp] theorem modBat_loader (f : Battery → Battery) : (s.modBat f).loader = s.loader := rfl
@[simp] theorem modBat_scrA (f : Battery → Battery) : (s.modBat f).scrA = s.scrA := rfl
@[simp] theorem modBat_scrB (f : Battery → Battery) : (s.modBat f).scrB = s.scrB := rfl

/-! ### `modClk` -/

@[simp] theorem modClk_pending (f : HaltClock → HaltClock) : (s.modClk f).pending = s.pending := rfl
@[simp] theorem modClk_free (f : HaltClock → HaltClock) : (s.modClk f).free = s.free := rfl
@[simp] theorem modClk_mem (f : HaltClock → HaltClock) : (s.modClk f).mem = s.mem := rfl
@[simp] theorem modClk_power (f : HaltClock → HaltClock) : (s.modClk f).power = s.power := rfl
@[simp] theorem modClk_bat (f : HaltClock → HaltClock) : (s.modClk f).bat = s.bat := rfl
@[simp] theorem modClk_clk (f : HaltClock → HaltClock) : (s.modClk f).clk = f s.clk := rfl
@[simp] theorem modClk_cfg (f : HaltClock → HaltClock) : (s.modClk f).cfg = s.cfg := rfl
@[simp] theorem modClk_table (f : HaltClock → HaltClock) : (s.modClk f).table = s.table := rfl
@[simp] theorem modClk_dueCount (f : HaltClock → HaltClock) : (s.modClk f).dueCount = s.dueCount := rfl
@[simp] theorem modClk_intake (f : HaltClock → HaltClock) : (s.modClk f).intake = s.intake := rfl
@[simp] theorem modClk_issue (f : HaltClock → HaltClock) : (s.modClk f).issue = s.issue := rfl
@[simp] theorem modClk_panel (f : HaltClock → HaltClock) : (s.modClk f).panel = s.panel := rfl
@[simp] theorem modClk_sel (f : HaltClock → HaltClock) : (s.modClk f).sel = s.sel := rfl
@[simp] theorem modClk_board (f : HaltClock → HaltClock) : (s.modClk f).board = s.board := rfl
@[simp] theorem modClk_act (f : HaltClock → HaltClock) : (s.modClk f).act = s.act := rfl
@[simp] theorem modClk_ann (f : HaltClock → HaltClock) : (s.modClk f).ann = s.ann := rfl
@[simp] theorem modClk_link (f : HaltClock → HaltClock) : (s.modClk f).link = s.link := rfl
@[simp] theorem modClk_path (f : HaltClock → HaltClock) : (s.modClk f).path = s.path := rfl
@[simp] theorem modClk_rep (f : HaltClock → HaltClock) : (s.modClk f).rep = s.rep := rfl
@[simp] theorem modClk_loader (f : HaltClock → HaltClock) : (s.modClk f).loader = s.loader := rfl
@[simp] theorem modClk_scrA (f : HaltClock → HaltClock) : (s.modClk f).scrA = s.scrA := rfl
@[simp] theorem modClk_scrB (f : HaltClock → HaltClock) : (s.modClk f).scrB = s.scrB := rfl

/-! ### `modIntake` -/

@[simp] theorem modIntake_pending (f : Intake → Intake) : (s.modIntake f).pending = s.pending := rfl
@[simp] theorem modIntake_free (f : Intake → Intake) : (s.modIntake f).free = s.free := rfl
@[simp] theorem modIntake_mem (f : Intake → Intake) : (s.modIntake f).mem = s.mem := rfl
@[simp] theorem modIntake_power (f : Intake → Intake) : (s.modIntake f).power = s.power := rfl
@[simp] theorem modIntake_bat (f : Intake → Intake) : (s.modIntake f).bat = s.bat := rfl
@[simp] theorem modIntake_clk (f : Intake → Intake) : (s.modIntake f).clk = s.clk := rfl
@[simp] theorem modIntake_cfg (f : Intake → Intake) : (s.modIntake f).cfg = s.cfg := rfl
@[simp] theorem modIntake_table (f : Intake → Intake) : (s.modIntake f).table = s.table := rfl
@[simp] theorem modIntake_dueCount (f : Intake → Intake) : (s.modIntake f).dueCount = s.dueCount := rfl
@[simp] theorem modIntake_intake (f : Intake → Intake) : (s.modIntake f).intake = f s.intake := rfl
@[simp] theorem modIntake_issue (f : Intake → Intake) : (s.modIntake f).issue = s.issue := rfl
@[simp] theorem modIntake_panel (f : Intake → Intake) : (s.modIntake f).panel = s.panel := rfl
@[simp] theorem modIntake_sel (f : Intake → Intake) : (s.modIntake f).sel = s.sel := rfl
@[simp] theorem modIntake_board (f : Intake → Intake) : (s.modIntake f).board = s.board := rfl
@[simp] theorem modIntake_act (f : Intake → Intake) : (s.modIntake f).act = s.act := rfl
@[simp] theorem modIntake_ann (f : Intake → Intake) : (s.modIntake f).ann = s.ann := rfl
@[simp] theorem modIntake_link (f : Intake → Intake) : (s.modIntake f).link = s.link := rfl
@[simp] theorem modIntake_path (f : Intake → Intake) : (s.modIntake f).path = s.path := rfl
@[simp] theorem modIntake_rep (f : Intake → Intake) : (s.modIntake f).rep = s.rep := rfl
@[simp] theorem modIntake_loader (f : Intake → Intake) : (s.modIntake f).loader = s.loader := rfl
@[simp] theorem modIntake_scrA (f : Intake → Intake) : (s.modIntake f).scrA = s.scrA := rfl
@[simp] theorem modIntake_scrB (f : Intake → Intake) : (s.modIntake f).scrB = s.scrB := rfl

/-! ### `modIssue` -/

@[simp] theorem modIssue_pending (f : IssueUnit → IssueUnit) : (s.modIssue f).pending = s.pending := rfl
@[simp] theorem modIssue_free (f : IssueUnit → IssueUnit) : (s.modIssue f).free = s.free := rfl
@[simp] theorem modIssue_mem (f : IssueUnit → IssueUnit) : (s.modIssue f).mem = s.mem := rfl
@[simp] theorem modIssue_power (f : IssueUnit → IssueUnit) : (s.modIssue f).power = s.power := rfl
@[simp] theorem modIssue_bat (f : IssueUnit → IssueUnit) : (s.modIssue f).bat = s.bat := rfl
@[simp] theorem modIssue_clk (f : IssueUnit → IssueUnit) : (s.modIssue f).clk = s.clk := rfl
@[simp] theorem modIssue_cfg (f : IssueUnit → IssueUnit) : (s.modIssue f).cfg = s.cfg := rfl
@[simp] theorem modIssue_table (f : IssueUnit → IssueUnit) : (s.modIssue f).table = s.table := rfl
@[simp] theorem modIssue_dueCount (f : IssueUnit → IssueUnit) : (s.modIssue f).dueCount = s.dueCount := rfl
@[simp] theorem modIssue_intake (f : IssueUnit → IssueUnit) : (s.modIssue f).intake = s.intake := rfl
@[simp] theorem modIssue_issue (f : IssueUnit → IssueUnit) : (s.modIssue f).issue = f s.issue := rfl
@[simp] theorem modIssue_panel (f : IssueUnit → IssueUnit) : (s.modIssue f).panel = s.panel := rfl
@[simp] theorem modIssue_sel (f : IssueUnit → IssueUnit) : (s.modIssue f).sel = s.sel := rfl
@[simp] theorem modIssue_board (f : IssueUnit → IssueUnit) : (s.modIssue f).board = s.board := rfl
@[simp] theorem modIssue_act (f : IssueUnit → IssueUnit) : (s.modIssue f).act = s.act := rfl
@[simp] theorem modIssue_ann (f : IssueUnit → IssueUnit) : (s.modIssue f).ann = s.ann := rfl
@[simp] theorem modIssue_link (f : IssueUnit → IssueUnit) : (s.modIssue f).link = s.link := rfl
@[simp] theorem modIssue_path (f : IssueUnit → IssueUnit) : (s.modIssue f).path = s.path := rfl
@[simp] theorem modIssue_rep (f : IssueUnit → IssueUnit) : (s.modIssue f).rep = s.rep := rfl
@[simp] theorem modIssue_loader (f : IssueUnit → IssueUnit) : (s.modIssue f).loader = s.loader := rfl
@[simp] theorem modIssue_scrA (f : IssueUnit → IssueUnit) : (s.modIssue f).scrA = s.scrA := rfl
@[simp] theorem modIssue_scrB (f : IssueUnit → IssueUnit) : (s.modIssue f).scrB = s.scrB := rfl

/-! ### `modPanel` -/

@[simp] theorem modPanel_pending (f : Panel → Panel) : (s.modPanel f).pending = s.pending := rfl
@[simp] theorem modPanel_free (f : Panel → Panel) : (s.modPanel f).free = s.free := rfl
@[simp] theorem modPanel_mem (f : Panel → Panel) : (s.modPanel f).mem = s.mem := rfl
@[simp] theorem modPanel_power (f : Panel → Panel) : (s.modPanel f).power = s.power := rfl
@[simp] theorem modPanel_bat (f : Panel → Panel) : (s.modPanel f).bat = s.bat := rfl
@[simp] theorem modPanel_clk (f : Panel → Panel) : (s.modPanel f).clk = s.clk := rfl
@[simp] theorem modPanel_cfg (f : Panel → Panel) : (s.modPanel f).cfg = s.cfg := rfl
@[simp] theorem modPanel_table (f : Panel → Panel) : (s.modPanel f).table = s.table := rfl
@[simp] theorem modPanel_dueCount (f : Panel → Panel) : (s.modPanel f).dueCount = s.dueCount := rfl
@[simp] theorem modPanel_intake (f : Panel → Panel) : (s.modPanel f).intake = s.intake := rfl
@[simp] theorem modPanel_issue (f : Panel → Panel) : (s.modPanel f).issue = s.issue := rfl
@[simp] theorem modPanel_panel (f : Panel → Panel) : (s.modPanel f).panel = f s.panel := rfl
@[simp] theorem modPanel_sel (f : Panel → Panel) : (s.modPanel f).sel = s.sel := rfl
@[simp] theorem modPanel_board (f : Panel → Panel) : (s.modPanel f).board = s.board := rfl
@[simp] theorem modPanel_act (f : Panel → Panel) : (s.modPanel f).act = s.act := rfl
@[simp] theorem modPanel_ann (f : Panel → Panel) : (s.modPanel f).ann = s.ann := rfl
@[simp] theorem modPanel_link (f : Panel → Panel) : (s.modPanel f).link = s.link := rfl
@[simp] theorem modPanel_path (f : Panel → Panel) : (s.modPanel f).path = s.path := rfl
@[simp] theorem modPanel_rep (f : Panel → Panel) : (s.modPanel f).rep = s.rep := rfl
@[simp] theorem modPanel_loader (f : Panel → Panel) : (s.modPanel f).loader = s.loader := rfl
@[simp] theorem modPanel_scrA (f : Panel → Panel) : (s.modPanel f).scrA = s.scrA := rfl
@[simp] theorem modPanel_scrB (f : Panel → Panel) : (s.modPanel f).scrB = s.scrB := rfl

/-! ### `modSel` -/

@[simp] theorem modSel_pending (f : Selection → Selection) : (s.modSel f).pending = s.pending := rfl
@[simp] theorem modSel_free (f : Selection → Selection) : (s.modSel f).free = s.free := rfl
@[simp] theorem modSel_mem (f : Selection → Selection) : (s.modSel f).mem = s.mem := rfl
@[simp] theorem modSel_power (f : Selection → Selection) : (s.modSel f).power = s.power := rfl
@[simp] theorem modSel_bat (f : Selection → Selection) : (s.modSel f).bat = s.bat := rfl
@[simp] theorem modSel_clk (f : Selection → Selection) : (s.modSel f).clk = s.clk := rfl
@[simp] theorem modSel_cfg (f : Selection → Selection) : (s.modSel f).cfg = s.cfg := rfl
@[simp] theorem modSel_table (f : Selection → Selection) : (s.modSel f).table = s.table := rfl
@[simp] theorem modSel_dueCount (f : Selection → Selection) : (s.modSel f).dueCount = s.dueCount := rfl
@[simp] theorem modSel_intake (f : Selection → Selection) : (s.modSel f).intake = s.intake := rfl
@[simp] theorem modSel_issue (f : Selection → Selection) : (s.modSel f).issue = s.issue := rfl
@[simp] theorem modSel_panel (f : Selection → Selection) : (s.modSel f).panel = s.panel := rfl
@[simp] theorem modSel_sel (f : Selection → Selection) : (s.modSel f).sel = f s.sel := rfl
@[simp] theorem modSel_board (f : Selection → Selection) : (s.modSel f).board = s.board := rfl
@[simp] theorem modSel_act (f : Selection → Selection) : (s.modSel f).act = s.act := rfl
@[simp] theorem modSel_ann (f : Selection → Selection) : (s.modSel f).ann = s.ann := rfl
@[simp] theorem modSel_link (f : Selection → Selection) : (s.modSel f).link = s.link := rfl
@[simp] theorem modSel_path (f : Selection → Selection) : (s.modSel f).path = s.path := rfl
@[simp] theorem modSel_rep (f : Selection → Selection) : (s.modSel f).rep = s.rep := rfl
@[simp] theorem modSel_loader (f : Selection → Selection) : (s.modSel f).loader = s.loader := rfl
@[simp] theorem modSel_scrA (f : Selection → Selection) : (s.modSel f).scrA = s.scrA := rfl
@[simp] theorem modSel_scrB (f : Selection → Selection) : (s.modSel f).scrB = s.scrB := rfl

/-! ### `modBoard` -/

@[simp] theorem modBoard_pending (f : Board → Board) : (s.modBoard f).pending = s.pending := rfl
@[simp] theorem modBoard_free (f : Board → Board) : (s.modBoard f).free = s.free := rfl
@[simp] theorem modBoard_mem (f : Board → Board) : (s.modBoard f).mem = s.mem := rfl
@[simp] theorem modBoard_power (f : Board → Board) : (s.modBoard f).power = s.power := rfl
@[simp] theorem modBoard_bat (f : Board → Board) : (s.modBoard f).bat = s.bat := rfl
@[simp] theorem modBoard_clk (f : Board → Board) : (s.modBoard f).clk = s.clk := rfl
@[simp] theorem modBoard_cfg (f : Board → Board) : (s.modBoard f).cfg = s.cfg := rfl
@[simp] theorem modBoard_table (f : Board → Board) : (s.modBoard f).table = s.table := rfl
@[simp] theorem modBoard_dueCount (f : Board → Board) : (s.modBoard f).dueCount = s.dueCount := rfl
@[simp] theorem modBoard_intake (f : Board → Board) : (s.modBoard f).intake = s.intake := rfl
@[simp] theorem modBoard_issue (f : Board → Board) : (s.modBoard f).issue = s.issue := rfl
@[simp] theorem modBoard_panel (f : Board → Board) : (s.modBoard f).panel = s.panel := rfl
@[simp] theorem modBoard_sel (f : Board → Board) : (s.modBoard f).sel = s.sel := rfl
@[simp] theorem modBoard_board (f : Board → Board) : (s.modBoard f).board = f s.board := rfl
@[simp] theorem modBoard_act (f : Board → Board) : (s.modBoard f).act = s.act := rfl
@[simp] theorem modBoard_ann (f : Board → Board) : (s.modBoard f).ann = s.ann := rfl
@[simp] theorem modBoard_link (f : Board → Board) : (s.modBoard f).link = s.link := rfl
@[simp] theorem modBoard_path (f : Board → Board) : (s.modBoard f).path = s.path := rfl
@[simp] theorem modBoard_rep (f : Board → Board) : (s.modBoard f).rep = s.rep := rfl
@[simp] theorem modBoard_loader (f : Board → Board) : (s.modBoard f).loader = s.loader := rfl
@[simp] theorem modBoard_scrA (f : Board → Board) : (s.modBoard f).scrA = s.scrA := rfl
@[simp] theorem modBoard_scrB (f : Board → Board) : (s.modBoard f).scrB = s.scrB := rfl

/-! ### `modScrA` -/

@[simp] theorem modScrA_pending (f : Scan → Scan) : (s.modScrA f).pending = s.pending := rfl
@[simp] theorem modScrA_free (f : Scan → Scan) : (s.modScrA f).free = s.free := rfl
@[simp] theorem modScrA_mem (f : Scan → Scan) : (s.modScrA f).mem = s.mem := rfl
@[simp] theorem modScrA_power (f : Scan → Scan) : (s.modScrA f).power = s.power := rfl
@[simp] theorem modScrA_bat (f : Scan → Scan) : (s.modScrA f).bat = s.bat := rfl
@[simp] theorem modScrA_clk (f : Scan → Scan) : (s.modScrA f).clk = s.clk := rfl
@[simp] theorem modScrA_cfg (f : Scan → Scan) : (s.modScrA f).cfg = s.cfg := rfl
@[simp] theorem modScrA_table (f : Scan → Scan) : (s.modScrA f).table = s.table := rfl
@[simp] theorem modScrA_dueCount (f : Scan → Scan) : (s.modScrA f).dueCount = s.dueCount := rfl
@[simp] theorem modScrA_intake (f : Scan → Scan) : (s.modScrA f).intake = s.intake := rfl
@[simp] theorem modScrA_issue (f : Scan → Scan) : (s.modScrA f).issue = s.issue := rfl
@[simp] theorem modScrA_panel (f : Scan → Scan) : (s.modScrA f).panel = s.panel := rfl
@[simp] theorem modScrA_sel (f : Scan → Scan) : (s.modScrA f).sel = s.sel := rfl
@[simp] theorem modScrA_board (f : Scan → Scan) : (s.modScrA f).board = s.board := rfl
@[simp] theorem modScrA_act (f : Scan → Scan) : (s.modScrA f).act = s.act := rfl
@[simp] theorem modScrA_ann (f : Scan → Scan) : (s.modScrA f).ann = s.ann := rfl
@[simp] theorem modScrA_link (f : Scan → Scan) : (s.modScrA f).link = s.link := rfl
@[simp] theorem modScrA_path (f : Scan → Scan) : (s.modScrA f).path = s.path := rfl
@[simp] theorem modScrA_rep (f : Scan → Scan) : (s.modScrA f).rep = s.rep := rfl
@[simp] theorem modScrA_loader (f : Scan → Scan) : (s.modScrA f).loader = s.loader := rfl
@[simp] theorem modScrA_scrA (f : Scan → Scan) : (s.modScrA f).scrA = f s.scrA := rfl
@[simp] theorem modScrA_scrB (f : Scan → Scan) : (s.modScrA f).scrB = s.scrB := rfl

/-! ### `modScrB` -/

@[simp] theorem modScrB_pending (f : Scan → Scan) : (s.modScrB f).pending = s.pending := rfl
@[simp] theorem modScrB_free (f : Scan → Scan) : (s.modScrB f).free = s.free := rfl
@[simp] theorem modScrB_mem (f : Scan → Scan) : (s.modScrB f).mem = s.mem := rfl
@[simp] theorem modScrB_power (f : Scan → Scan) : (s.modScrB f).power = s.power := rfl
@[simp] theorem modScrB_bat (f : Scan → Scan) : (s.modScrB f).bat = s.bat := rfl
@[simp] theorem modScrB_clk (f : Scan → Scan) : (s.modScrB f).clk = s.clk := rfl
@[simp] theorem modScrB_cfg (f : Scan → Scan) : (s.modScrB f).cfg = s.cfg := rfl
@[simp] theorem modScrB_table (f : Scan → Scan) : (s.modScrB f).table = s.table := rfl
@[simp] theorem modScrB_dueCount (f : Scan → Scan) : (s.modScrB f).dueCount = s.dueCount := rfl
@[simp] theorem modScrB_intake (f : Scan → Scan) : (s.modScrB f).intake = s.intake := rfl
@[simp] theorem modScrB_issue (f : Scan → Scan) : (s.modScrB f).issue = s.issue := rfl
@[simp] theorem modScrB_panel (f : Scan → Scan) : (s.modScrB f).panel = s.panel := rfl
@[simp] theorem modScrB_sel (f : Scan → Scan) : (s.modScrB f).sel = s.sel := rfl
@[simp] theorem modScrB_board (f : Scan → Scan) : (s.modScrB f).board = s.board := rfl
@[simp] theorem modScrB_act (f : Scan → Scan) : (s.modScrB f).act = s.act := rfl
@[simp] theorem modScrB_ann (f : Scan → Scan) : (s.modScrB f).ann = s.ann := rfl
@[simp] theorem modScrB_link (f : Scan → Scan) : (s.modScrB f).link = s.link := rfl
@[simp] theorem modScrB_path (f : Scan → Scan) : (s.modScrB f).path = s.path := rfl
@[simp] theorem modScrB_rep (f : Scan → Scan) : (s.modScrB f).rep = s.rep := rfl
@[simp] theorem modScrB_loader (f : Scan → Scan) : (s.modScrB f).loader = s.loader := rfl
@[simp] theorem modScrB_scrA (f : Scan → Scan) : (s.modScrB f).scrA = s.scrA := rfl
@[simp] theorem modScrB_scrB (f : Scan → Scan) : (s.modScrB f).scrB = f s.scrB := rfl

/-! ### `modAct` -/

@[simp] theorem modAct_pending (f : Activity → Activity) : (s.modAct f).pending = s.pending := rfl
@[simp] theorem modAct_free (f : Activity → Activity) : (s.modAct f).free = s.free := rfl
@[simp] theorem modAct_mem (f : Activity → Activity) : (s.modAct f).mem = s.mem := rfl
@[simp] theorem modAct_power (f : Activity → Activity) : (s.modAct f).power = s.power := rfl
@[simp] theorem modAct_bat (f : Activity → Activity) : (s.modAct f).bat = s.bat := rfl
@[simp] theorem modAct_clk (f : Activity → Activity) : (s.modAct f).clk = s.clk := rfl
@[simp] theorem modAct_cfg (f : Activity → Activity) : (s.modAct f).cfg = s.cfg := rfl
@[simp] theorem modAct_table (f : Activity → Activity) : (s.modAct f).table = s.table := rfl
@[simp] theorem modAct_dueCount (f : Activity → Activity) : (s.modAct f).dueCount = s.dueCount := rfl
@[simp] theorem modAct_intake (f : Activity → Activity) : (s.modAct f).intake = s.intake := rfl
@[simp] theorem modAct_issue (f : Activity → Activity) : (s.modAct f).issue = s.issue := rfl
@[simp] theorem modAct_panel (f : Activity → Activity) : (s.modAct f).panel = s.panel := rfl
@[simp] theorem modAct_sel (f : Activity → Activity) : (s.modAct f).sel = s.sel := rfl
@[simp] theorem modAct_board (f : Activity → Activity) : (s.modAct f).board = s.board := rfl
@[simp] theorem modAct_act (f : Activity → Activity) : (s.modAct f).act = f s.act := rfl
@[simp] theorem modAct_ann (f : Activity → Activity) : (s.modAct f).ann = s.ann := rfl
@[simp] theorem modAct_link (f : Activity → Activity) : (s.modAct f).link = s.link := rfl
@[simp] theorem modAct_path (f : Activity → Activity) : (s.modAct f).path = s.path := rfl
@[simp] theorem modAct_rep (f : Activity → Activity) : (s.modAct f).rep = s.rep := rfl
@[simp] theorem modAct_loader (f : Activity → Activity) : (s.modAct f).loader = s.loader := rfl
@[simp] theorem modAct_scrA (f : Activity → Activity) : (s.modAct f).scrA = s.scrA := rfl
@[simp] theorem modAct_scrB (f : Activity → Activity) : (s.modAct f).scrB = s.scrB := rfl

/-! ### `modAnn` -/

@[simp] theorem modAnn_pending (f : Announcer → Announcer) : (s.modAnn f).pending = s.pending := rfl
@[simp] theorem modAnn_free (f : Announcer → Announcer) : (s.modAnn f).free = s.free := rfl
@[simp] theorem modAnn_mem (f : Announcer → Announcer) : (s.modAnn f).mem = s.mem := rfl
@[simp] theorem modAnn_power (f : Announcer → Announcer) : (s.modAnn f).power = s.power := rfl
@[simp] theorem modAnn_bat (f : Announcer → Announcer) : (s.modAnn f).bat = s.bat := rfl
@[simp] theorem modAnn_clk (f : Announcer → Announcer) : (s.modAnn f).clk = s.clk := rfl
@[simp] theorem modAnn_cfg (f : Announcer → Announcer) : (s.modAnn f).cfg = s.cfg := rfl
@[simp] theorem modAnn_table (f : Announcer → Announcer) : (s.modAnn f).table = s.table := rfl
@[simp] theorem modAnn_dueCount (f : Announcer → Announcer) : (s.modAnn f).dueCount = s.dueCount := rfl
@[simp] theorem modAnn_intake (f : Announcer → Announcer) : (s.modAnn f).intake = s.intake := rfl
@[simp] theorem modAnn_issue (f : Announcer → Announcer) : (s.modAnn f).issue = s.issue := rfl
@[simp] theorem modAnn_panel (f : Announcer → Announcer) : (s.modAnn f).panel = s.panel := rfl
@[simp] theorem modAnn_sel (f : Announcer → Announcer) : (s.modAnn f).sel = s.sel := rfl
@[simp] theorem modAnn_board (f : Announcer → Announcer) : (s.modAnn f).board = s.board := rfl
@[simp] theorem modAnn_act (f : Announcer → Announcer) : (s.modAnn f).act = s.act := rfl
@[simp] theorem modAnn_ann (f : Announcer → Announcer) : (s.modAnn f).ann = f s.ann := rfl
@[simp] theorem modAnn_link (f : Announcer → Announcer) : (s.modAnn f).link = s.link := rfl
@[simp] theorem modAnn_path (f : Announcer → Announcer) : (s.modAnn f).path = s.path := rfl
@[simp] theorem modAnn_rep (f : Announcer → Announcer) : (s.modAnn f).rep = s.rep := rfl
@[simp] theorem modAnn_loader (f : Announcer → Announcer) : (s.modAnn f).loader = s.loader := rfl
@[simp] theorem modAnn_scrA (f : Announcer → Announcer) : (s.modAnn f).scrA = s.scrA := rfl
@[simp] theorem modAnn_scrB (f : Announcer → Announcer) : (s.modAnn f).scrB = s.scrB := rfl

/-! ### `modLink` -/

@[simp] theorem modLink_pending (f : Link → Link) : (s.modLink f).pending = s.pending := rfl
@[simp] theorem modLink_free (f : Link → Link) : (s.modLink f).free = s.free := rfl
@[simp] theorem modLink_mem (f : Link → Link) : (s.modLink f).mem = s.mem := rfl
@[simp] theorem modLink_power (f : Link → Link) : (s.modLink f).power = s.power := rfl
@[simp] theorem modLink_bat (f : Link → Link) : (s.modLink f).bat = s.bat := rfl
@[simp] theorem modLink_clk (f : Link → Link) : (s.modLink f).clk = s.clk := rfl
@[simp] theorem modLink_cfg (f : Link → Link) : (s.modLink f).cfg = s.cfg := rfl
@[simp] theorem modLink_table (f : Link → Link) : (s.modLink f).table = s.table := rfl
@[simp] theorem modLink_dueCount (f : Link → Link) : (s.modLink f).dueCount = s.dueCount := rfl
@[simp] theorem modLink_intake (f : Link → Link) : (s.modLink f).intake = s.intake := rfl
@[simp] theorem modLink_issue (f : Link → Link) : (s.modLink f).issue = s.issue := rfl
@[simp] theorem modLink_panel (f : Link → Link) : (s.modLink f).panel = s.panel := rfl
@[simp] theorem modLink_sel (f : Link → Link) : (s.modLink f).sel = s.sel := rfl
@[simp] theorem modLink_board (f : Link → Link) : (s.modLink f).board = s.board := rfl
@[simp] theorem modLink_act (f : Link → Link) : (s.modLink f).act = s.act := rfl
@[simp] theorem modLink_ann (f : Link → Link) : (s.modLink f).ann = s.ann := rfl
@[simp] theorem modLink_link (f : Link → Link) : (s.modLink f).link = f s.link := rfl
@[simp] theorem modLink_path (f : Link → Link) : (s.modLink f).path = s.path := rfl
@[simp] theorem modLink_rep (f : Link → Link) : (s.modLink f).rep = s.rep := rfl
@[simp] theorem modLink_loader (f : Link → Link) : (s.modLink f).loader = s.loader := rfl
@[simp] theorem modLink_scrA (f : Link → Link) : (s.modLink f).scrA = s.scrA := rfl
@[simp] theorem modLink_scrB (f : Link → Link) : (s.modLink f).scrB = s.scrB := rfl

/-! ### `modPath` -/

@[simp] theorem modPath_pending (f : Path → Path) : (s.modPath f).pending = s.pending := rfl
@[simp] theorem modPath_free (f : Path → Path) : (s.modPath f).free = s.free := rfl
@[simp] theorem modPath_mem (f : Path → Path) : (s.modPath f).mem = s.mem := rfl
@[simp] theorem modPath_power (f : Path → Path) : (s.modPath f).power = s.power := rfl
@[simp] theorem modPath_bat (f : Path → Path) : (s.modPath f).bat = s.bat := rfl
@[simp] theorem modPath_clk (f : Path → Path) : (s.modPath f).clk = s.clk := rfl
@[simp] theorem modPath_cfg (f : Path → Path) : (s.modPath f).cfg = s.cfg := rfl
@[simp] theorem modPath_table (f : Path → Path) : (s.modPath f).table = s.table := rfl
@[simp] theorem modPath_dueCount (f : Path → Path) : (s.modPath f).dueCount = s.dueCount := rfl
@[simp] theorem modPath_intake (f : Path → Path) : (s.modPath f).intake = s.intake := rfl
@[simp] theorem modPath_issue (f : Path → Path) : (s.modPath f).issue = s.issue := rfl
@[simp] theorem modPath_panel (f : Path → Path) : (s.modPath f).panel = s.panel := rfl
@[simp] theorem modPath_sel (f : Path → Path) : (s.modPath f).sel = s.sel := rfl
@[simp] theorem modPath_board (f : Path → Path) : (s.modPath f).board = s.board := rfl
@[simp] theorem modPath_act (f : Path → Path) : (s.modPath f).act = s.act := rfl
@[simp] theorem modPath_ann (f : Path → Path) : (s.modPath f).ann = s.ann := rfl
@[simp] theorem modPath_link (f : Path → Path) : (s.modPath f).link = s.link := rfl
@[simp] theorem modPath_path (f : Path → Path) : (s.modPath f).path = f s.path := rfl
@[simp] theorem modPath_rep (f : Path → Path) : (s.modPath f).rep = s.rep := rfl
@[simp] theorem modPath_loader (f : Path → Path) : (s.modPath f).loader = s.loader := rfl
@[simp] theorem modPath_scrA (f : Path → Path) : (s.modPath f).scrA = s.scrA := rfl
@[simp] theorem modPath_scrB (f : Path → Path) : (s.modPath f).scrB = s.scrB := rfl

/-! ### `modRep` -/

@[simp] theorem modRep_pending (f : ReportUnit → ReportUnit) : (s.modRep f).pending = s.pending := rfl
@[simp] theorem modRep_free (f : ReportUnit → ReportUnit) : (s.modRep f).free = s.free := rfl
@[simp] theorem modRep_mem (f : ReportUnit → ReportUnit) : (s.modRep f).mem = s.mem := rfl
@[simp] theorem modRep_power (f : ReportUnit → ReportUnit) : (s.modRep f).power = s.power := rfl
@[simp] theorem modRep_bat (f : ReportUnit → ReportUnit) : (s.modRep f).bat = s.bat := rfl
@[simp] theorem modRep_clk (f : ReportUnit → ReportUnit) : (s.modRep f).clk = s.clk := rfl
@[simp] theorem modRep_cfg (f : ReportUnit → ReportUnit) : (s.modRep f).cfg = s.cfg := rfl
@[simp] theorem modRep_table (f : ReportUnit → ReportUnit) : (s.modRep f).table = s.table := rfl
@[simp] theorem modRep_dueCount (f : ReportUnit → ReportUnit) : (s.modRep f).dueCount = s.dueCount := rfl
@[simp] theorem modRep_intake (f : ReportUnit → ReportUnit) : (s.modRep f).intake = s.intake := rfl
@[simp] theorem modRep_issue (f : ReportUnit → ReportUnit) : (s.modRep f).issue = s.issue := rfl
@[simp] theorem modRep_panel (f : ReportUnit → ReportUnit) : (s.modRep f).panel = s.panel := rfl
@[simp] theorem modRep_sel (f : ReportUnit → ReportUnit) : (s.modRep f).sel = s.sel := rfl
@[simp] theorem modRep_board (f : ReportUnit → ReportUnit) : (s.modRep f).board = s.board := rfl
@[simp] theorem modRep_act (f : ReportUnit → ReportUnit) : (s.modRep f).act = s.act := rfl
@[simp] theorem modRep_ann (f : ReportUnit → ReportUnit) : (s.modRep f).ann = s.ann := rfl
@[simp] theorem modRep_link (f : ReportUnit → ReportUnit) : (s.modRep f).link = s.link := rfl
@[simp] theorem modRep_path (f : ReportUnit → ReportUnit) : (s.modRep f).path = s.path := rfl
@[simp] theorem modRep_rep (f : ReportUnit → ReportUnit) : (s.modRep f).rep = f s.rep := rfl
@[simp] theorem modRep_loader (f : ReportUnit → ReportUnit) : (s.modRep f).loader = s.loader := rfl
@[simp] theorem modRep_scrA (f : ReportUnit → ReportUnit) : (s.modRep f).scrA = s.scrA := rfl
@[simp] theorem modRep_scrB (f : ReportUnit → ReportUnit) : (s.modRep f).scrB = s.scrB := rfl

/-! ### `modLoader` -/

@[simp] theorem modLoader_pending (f : Loader → Loader) : (s.modLoader f).pending = s.pending := rfl
@[simp] theorem modLoader_free (f : Loader → Loader) : (s.modLoader f).free = s.free := rfl
@[simp] theorem modLoader_mem (f : Loader → Loader) : (s.modLoader f).mem = s.mem := rfl
@[simp] theorem modLoader_power (f : Loader → Loader) : (s.modLoader f).power = s.power := rfl
@[simp] theorem modLoader_bat (f : Loader → Loader) : (s.modLoader f).bat = s.bat := rfl
@[simp] theorem modLoader_clk (f : Loader → Loader) : (s.modLoader f).clk = s.clk := rfl
@[simp] theorem modLoader_cfg (f : Loader → Loader) : (s.modLoader f).cfg = s.cfg := rfl
@[simp] theorem modLoader_table (f : Loader → Loader) : (s.modLoader f).table = s.table := rfl
@[simp] theorem modLoader_dueCount (f : Loader → Loader) : (s.modLoader f).dueCount = s.dueCount := rfl
@[simp] theorem modLoader_intake (f : Loader → Loader) : (s.modLoader f).intake = s.intake := rfl
@[simp] theorem modLoader_issue (f : Loader → Loader) : (s.modLoader f).issue = s.issue := rfl
@[simp] theorem modLoader_panel (f : Loader → Loader) : (s.modLoader f).panel = s.panel := rfl
@[simp] theorem modLoader_sel (f : Loader → Loader) : (s.modLoader f).sel = s.sel := rfl
@[simp] theorem modLoader_board (f : Loader → Loader) : (s.modLoader f).board = s.board := rfl
@[simp] theorem modLoader_act (f : Loader → Loader) : (s.modLoader f).act = s.act := rfl
@[simp] theorem modLoader_ann (f : Loader → Loader) : (s.modLoader f).ann = s.ann := rfl
@[simp] theorem modLoader_link (f : Loader → Loader) : (s.modLoader f).link = s.link := rfl
@[simp] theorem modLoader_path (f : Loader → Loader) : (s.modLoader f).path = s.path := rfl
@[simp] theorem modLoader_rep (f : Loader → Loader) : (s.modLoader f).rep = s.rep := rfl
@[simp] theorem modLoader_loader (f : Loader → Loader) : (s.modLoader f).loader = f s.loader := rfl
@[simp] theorem modLoader_scrA (f : Loader → Loader) : (s.modLoader f).scrA = s.scrA := rfl
@[simp] theorem modLoader_scrB (f : Loader → Loader) : (s.modLoader f).scrB = s.scrB := rfl

/-! ### `modPower` -/

@[simp] theorem modPower_pending (f : Power → Power) : (s.modPower f).pending = s.pending := rfl
@[simp] theorem modPower_free (f : Power → Power) : (s.modPower f).free = s.free := rfl
@[simp] theorem modPower_mem (f : Power → Power) : (s.modPower f).mem = s.mem := rfl
@[simp] theorem modPower_power (f : Power → Power) : (s.modPower f).power = f s.power := rfl
@[simp] theorem modPower_bat (f : Power → Power) : (s.modPower f).bat = s.bat := rfl
@[simp] theorem modPower_clk (f : Power → Power) : (s.modPower f).clk = s.clk := rfl
@[simp] theorem modPower_cfg (f : Power → Power) : (s.modPower f).cfg = s.cfg := rfl
@[simp] theorem modPower_table (f : Power → Power) : (s.modPower f).table = s.table := rfl
@[simp] theorem modPower_dueCount (f : Power → Power) : (s.modPower f).dueCount = s.dueCount := rfl
@[simp] theorem modPower_intake (f : Power → Power) : (s.modPower f).intake = s.intake := rfl
@[simp] theorem modPower_issue (f : Power → Power) : (s.modPower f).issue = s.issue := rfl
@[simp] theorem modPower_panel (f : Power → Power) : (s.modPower f).panel = s.panel := rfl
@[simp] theorem modPower_sel (f : Power → Power) : (s.modPower f).sel = s.sel := rfl
@[simp] theorem modPower_board (f : Power → Power) : (s.modPower f).board = s.board := rfl
@[simp] theorem modPower_act (f : Power → Power) : (s.modPower f).act = s.act := rfl
@[simp] theorem modPower_ann (f : Power → Power) : (s.modPower f).ann = s.ann := rfl
@[simp] theorem modPower_link (f : Power → Power) : (s.modPower f).link = s.link := rfl
@[simp] theorem modPower_path (f : Power → Power) : (s.modPower f).path = s.path := rfl
@[simp] theorem modPower_rep (f : Power → Power) : (s.modPower f).rep = s.rep := rfl
@[simp] theorem modPower_loader (f : Power → Power) : (s.modPower f).loader = s.loader := rfl
@[simp] theorem modPower_scrA (f : Power → Power) : (s.modPower f).scrA = s.scrA := rfl
@[simp] theorem modPower_scrB (f : Power → Power) : (s.modPower f).scrB = s.scrB := rfl

/-! ### `setTable` -/

@[simp] theorem setTable_pending (t : List Entry) : (s.setTable t).pending = s.pending := rfl
@[simp] theorem setTable_free (t : List Entry) : (s.setTable t).free = s.free := rfl
@[simp] theorem setTable_mem (t : List Entry) : (s.setTable t).mem = s.mem := rfl
@[simp] theorem setTable_power (t : List Entry) : (s.setTable t).power = s.power := rfl
@[simp] theorem setTable_bat (t : List Entry) : (s.setTable t).bat = s.bat := rfl
@[simp] theorem setTable_clk (t : List Entry) : (s.setTable t).clk = s.clk := rfl
@[simp] theorem setTable_cfg (t : List Entry) : (s.setTable t).cfg = s.cfg := rfl
@[simp] theorem setTable_table (t : List Entry) : (s.setTable t).table = t := rfl
@[simp] theorem setTable_dueCount (t : List Entry) : (s.setTable t).dueCount = s.dueCount := rfl
@[simp] theorem setTable_intake (t : List Entry) : (s.setTable t).intake = s.intake := rfl
@[simp] theorem setTable_issue (t : List Entry) : (s.setTable t).issue = s.issue := rfl
@[simp] theorem setTable_panel (t : List Entry) : (s.setTable t).panel = s.panel := rfl
@[simp] theorem setTable_sel (t : List Entry) : (s.setTable t).sel = s.sel := rfl
@[simp] theorem setTable_board (t : List Entry) : (s.setTable t).board = s.board := rfl
@[simp] theorem setTable_act (t : List Entry) : (s.setTable t).act = s.act := rfl
@[simp] theorem setTable_ann (t : List Entry) : (s.setTable t).ann = s.ann := rfl
@[simp] theorem setTable_link (t : List Entry) : (s.setTable t).link = s.link := rfl
@[simp] theorem setTable_path (t : List Entry) : (s.setTable t).path = s.path := rfl
@[simp] theorem setTable_rep (t : List Entry) : (s.setTable t).rep = s.rep := rfl
@[simp] theorem setTable_loader (t : List Entry) : (s.setTable t).loader = s.loader := rfl
@[simp] theorem setTable_scrA (t : List Entry) : (s.setTable t).scrA = s.scrA := rfl
@[simp] theorem setTable_scrB (t : List Entry) : (s.setTable t).scrB = s.scrB := rfl

/-! ### `setDueCount` -/

@[simp] theorem setDueCount_pending (n : Nat) : (s.setDueCount n).pending = s.pending := rfl
@[simp] theorem setDueCount_free (n : Nat) : (s.setDueCount n).free = s.free := rfl
@[simp] theorem setDueCount_mem (n : Nat) : (s.setDueCount n).mem = s.mem := rfl
@[simp] theorem setDueCount_power (n : Nat) : (s.setDueCount n).power = s.power := rfl
@[simp] theorem setDueCount_bat (n : Nat) : (s.setDueCount n).bat = s.bat := rfl
@[simp] theorem setDueCount_clk (n : Nat) : (s.setDueCount n).clk = s.clk := rfl
@[simp] theorem setDueCount_cfg (n : Nat) : (s.setDueCount n).cfg = s.cfg := rfl
@[simp] theorem setDueCount_table (n : Nat) : (s.setDueCount n).table = s.table := rfl
@[simp] theorem setDueCount_dueCount (n : Nat) : (s.setDueCount n).dueCount = n := rfl
@[simp] theorem setDueCount_intake (n : Nat) : (s.setDueCount n).intake = s.intake := rfl
@[simp] theorem setDueCount_issue (n : Nat) : (s.setDueCount n).issue = s.issue := rfl
@[simp] theorem setDueCount_panel (n : Nat) : (s.setDueCount n).panel = s.panel := rfl
@[simp] theorem setDueCount_sel (n : Nat) : (s.setDueCount n).sel = s.sel := rfl
@[simp] theorem setDueCount_board (n : Nat) : (s.setDueCount n).board = s.board := rfl
@[simp] theorem setDueCount_act (n : Nat) : (s.setDueCount n).act = s.act := rfl
@[simp] theorem setDueCount_ann (n : Nat) : (s.setDueCount n).ann = s.ann := rfl
@[simp] theorem setDueCount_link (n : Nat) : (s.setDueCount n).link = s.link := rfl
@[simp] theorem setDueCount_path (n : Nat) : (s.setDueCount n).path = s.path := rfl
@[simp] theorem setDueCount_rep (n : Nat) : (s.setDueCount n).rep = s.rep := rfl
@[simp] theorem setDueCount_loader (n : Nat) : (s.setDueCount n).loader = s.loader := rfl
@[simp] theorem setDueCount_scrA (n : Nat) : (s.setDueCount n).scrA = s.scrA := rfl
@[simp] theorem setDueCount_scrB (n : Nat) : (s.setDueCount n).scrB = s.scrB := rfl

/-! ### `setCfg` -/

@[simp] theorem setCfg_pending (c : Option Settings) : (s.setCfg c).pending = s.pending := rfl
@[simp] theorem setCfg_free (c : Option Settings) : (s.setCfg c).free = s.free := rfl
@[simp] theorem setCfg_mem (c : Option Settings) : (s.setCfg c).mem = s.mem := rfl
@[simp] theorem setCfg_power (c : Option Settings) : (s.setCfg c).power = s.power := rfl
@[simp] theorem setCfg_bat (c : Option Settings) : (s.setCfg c).bat = s.bat := rfl
@[simp] theorem setCfg_clk (c : Option Settings) : (s.setCfg c).clk = s.clk := rfl
@[simp] theorem setCfg_cfg (c : Option Settings) : (s.setCfg c).cfg = c := rfl
@[simp] theorem setCfg_table (c : Option Settings) : (s.setCfg c).table = s.table := rfl
@[simp] theorem setCfg_dueCount (c : Option Settings) : (s.setCfg c).dueCount = s.dueCount := rfl
@[simp] theorem setCfg_intake (c : Option Settings) : (s.setCfg c).intake = s.intake := rfl
@[simp] theorem setCfg_issue (c : Option Settings) : (s.setCfg c).issue = s.issue := rfl
@[simp] theorem setCfg_panel (c : Option Settings) : (s.setCfg c).panel = s.panel := rfl
@[simp] theorem setCfg_sel (c : Option Settings) : (s.setCfg c).sel = s.sel := rfl
@[simp] theorem setCfg_board (c : Option Settings) : (s.setCfg c).board = s.board := rfl
@[simp] theorem setCfg_act (c : Option Settings) : (s.setCfg c).act = s.act := rfl
@[simp] theorem setCfg_ann (c : Option Settings) : (s.setCfg c).ann = s.ann := rfl
@[simp] theorem setCfg_link (c : Option Settings) : (s.setCfg c).link = s.link := rfl
@[simp] theorem setCfg_path (c : Option Settings) : (s.setCfg c).path = s.path := rfl
@[simp] theorem setCfg_rep (c : Option Settings) : (s.setCfg c).rep = s.rep := rfl
@[simp] theorem setCfg_loader (c : Option Settings) : (s.setCfg c).loader = s.loader := rfl
@[simp] theorem setCfg_scrA (c : Option Settings) : (s.setCfg c).scrA = s.scrA := rfl
@[simp] theorem setCfg_scrB (c : Option Settings) : (s.setCfg c).scrB = s.scrB := rfl

/-! ### `drawn` -/

@[simp] theorem drawn_pending : (s.drawn).pending = s.pending := rfl
@[simp] theorem drawn_free : (s.drawn).free = s.free + 1 := rfl
@[simp] theorem drawn_mem : (s.drawn).mem = s.mem := rfl
@[simp] theorem drawn_power : (s.drawn).power = s.power := rfl
@[simp] theorem drawn_bat : (s.drawn).bat = s.bat := rfl
@[simp] theorem drawn_clk : (s.drawn).clk = s.clk := rfl
@[simp] theorem drawn_cfg : (s.drawn).cfg = s.cfg := rfl
@[simp] theorem drawn_table : (s.drawn).table = s.table := rfl
@[simp] theorem drawn_dueCount : (s.drawn).dueCount = s.dueCount := rfl
@[simp] theorem drawn_intake : (s.drawn).intake = s.intake := rfl
@[simp] theorem drawn_issue : (s.drawn).issue = s.issue := rfl
@[simp] theorem drawn_panel : (s.drawn).panel = s.panel := rfl
@[simp] theorem drawn_sel : (s.drawn).sel = s.sel := rfl
@[simp] theorem drawn_board : (s.drawn).board = s.board := rfl
@[simp] theorem drawn_act : (s.drawn).act = s.act := rfl
@[simp] theorem drawn_ann : (s.drawn).ann = s.ann := rfl
@[simp] theorem drawn_link : (s.drawn).link = s.link := rfl
@[simp] theorem drawn_path : (s.drawn).path = s.path := rfl
@[simp] theorem drawn_rep : (s.drawn).rep = s.rep := rfl
@[simp] theorem drawn_loader : (s.drawn).loader = s.loader := rfl
@[simp] theorem drawn_scrA : (s.drawn).scrA = s.scrA := rfl
@[simp] theorem drawn_scrB : (s.drawn).scrB = s.scrB := rfl

/-! ### `poke` -/

@[simp] theorem poke_pending (a : Nat) (v : Word) : (s.poke a v).pending = s.pending := rfl
@[simp] theorem poke_free (a : Nat) (v : Word) : (s.poke a v).free = s.free := rfl
@[simp] theorem poke_mem (a : Nat) (v : Word) : (s.poke a v).mem = Memory.writeLanes s.mem a v .both := rfl
@[simp] theorem poke_power (a : Nat) (v : Word) : (s.poke a v).power = s.power := rfl
@[simp] theorem poke_bat (a : Nat) (v : Word) : (s.poke a v).bat = s.bat := rfl
@[simp] theorem poke_clk (a : Nat) (v : Word) : (s.poke a v).clk = s.clk := rfl
@[simp] theorem poke_cfg (a : Nat) (v : Word) : (s.poke a v).cfg = s.cfg := rfl
@[simp] theorem poke_table (a : Nat) (v : Word) : (s.poke a v).table = s.table := rfl
@[simp] theorem poke_dueCount (a : Nat) (v : Word) : (s.poke a v).dueCount = s.dueCount := rfl
@[simp] theorem poke_intake (a : Nat) (v : Word) : (s.poke a v).intake = s.intake := rfl
@[simp] theorem poke_issue (a : Nat) (v : Word) : (s.poke a v).issue = s.issue := rfl
@[simp] theorem poke_panel (a : Nat) (v : Word) : (s.poke a v).panel = s.panel := rfl
@[simp] theorem poke_sel (a : Nat) (v : Word) : (s.poke a v).sel = s.sel := rfl
@[simp] theorem poke_board (a : Nat) (v : Word) : (s.poke a v).board = s.board := rfl
@[simp] theorem poke_act (a : Nat) (v : Word) : (s.poke a v).act = s.act := rfl
@[simp] theorem poke_ann (a : Nat) (v : Word) : (s.poke a v).ann = s.ann := rfl
@[simp] theorem poke_link (a : Nat) (v : Word) : (s.poke a v).link = s.link := rfl
@[simp] theorem poke_path (a : Nat) (v : Word) : (s.poke a v).path = s.path := rfl
@[simp] theorem poke_rep (a : Nat) (v : Word) : (s.poke a v).rep = s.rep := rfl
@[simp] theorem poke_loader (a : Nat) (v : Word) : (s.poke a v).loader = s.loader := rfl
@[simp] theorem poke_scrA (a : Nat) (v : Word) : (s.poke a v).scrA = s.scrA := rfl
@[simp] theorem poke_scrB (a : Nat) (v : Word) : (s.poke a v).scrB = s.scrB := rfl

/-! ### `pokeLanes` -/

@[simp] theorem pokeLanes_pending (a : Nat) (v : Word) (l : Lanes) : (s.pokeLanes a v l).pending = s.pending := rfl
@[simp] theorem pokeLanes_free (a : Nat) (v : Word) (l : Lanes) : (s.pokeLanes a v l).free = s.free := rfl
@[simp] theorem pokeLanes_mem (a : Nat) (v : Word) (l : Lanes) : (s.pokeLanes a v l).mem = Memory.writeLanes s.mem a v l := rfl
@[simp] theorem pokeLanes_power (a : Nat) (v : Word) (l : Lanes) : (s.pokeLanes a v l).power = s.power := rfl
@[simp] theorem pokeLanes_bat (a : Nat) (v : Word) (l : Lanes) : (s.pokeLanes a v l).bat = s.bat := rfl
@[simp] theorem pokeLanes_clk (a : Nat) (v : Word) (l : Lanes) : (s.pokeLanes a v l).clk = s.clk := rfl
@[simp] theorem pokeLanes_cfg (a : Nat) (v : Word) (l : Lanes) : (s.pokeLanes a v l).cfg = s.cfg := rfl
@[simp] theorem pokeLanes_table (a : Nat) (v : Word) (l : Lanes) : (s.pokeLanes a v l).table = s.table := rfl
@[simp] theorem pokeLanes_dueCount (a : Nat) (v : Word) (l : Lanes) : (s.pokeLanes a v l).dueCount = s.dueCount := rfl
@[simp] theorem pokeLanes_intake (a : Nat) (v : Word) (l : Lanes) : (s.pokeLanes a v l).intake = s.intake := rfl
@[simp] theorem pokeLanes_issue (a : Nat) (v : Word) (l : Lanes) : (s.pokeLanes a v l).issue = s.issue := rfl
@[simp] theorem pokeLanes_panel (a : Nat) (v : Word) (l : Lanes) : (s.pokeLanes a v l).panel = s.panel := rfl
@[simp] theorem pokeLanes_sel (a : Nat) (v : Word) (l : Lanes) : (s.pokeLanes a v l).sel = s.sel := rfl
@[simp] theorem pokeLanes_board (a : Nat) (v : Word) (l : Lanes) : (s.pokeLanes a v l).board = s.board := rfl
@[simp] theorem pokeLanes_act (a : Nat) (v : Word) (l : Lanes) : (s.pokeLanes a v l).act = s.act := rfl
@[simp] theorem pokeLanes_ann (a : Nat) (v : Word) (l : Lanes) : (s.pokeLanes a v l).ann = s.ann := rfl
@[simp] theorem pokeLanes_link (a : Nat) (v : Word) (l : Lanes) : (s.pokeLanes a v l).link = s.link := rfl
@[simp] theorem pokeLanes_path (a : Nat) (v : Word) (l : Lanes) : (s.pokeLanes a v l).path = s.path := rfl
@[simp] theorem pokeLanes_rep (a : Nat) (v : Word) (l : Lanes) : (s.pokeLanes a v l).rep = s.rep := rfl
@[simp] theorem pokeLanes_loader (a : Nat) (v : Word) (l : Lanes) : (s.pokeLanes a v l).loader = s.loader := rfl
@[simp] theorem pokeLanes_scrA (a : Nat) (v : Word) (l : Lanes) : (s.pokeLanes a v l).scrA = s.scrA := rfl
@[simp] theorem pokeLanes_scrB (a : Nat) (v : Word) (l : Lanes) : (s.pokeLanes a v l).scrB = s.scrB := rfl

end Sys2Proof.Machine.State
end

