-- ==== Sys2Proof/Laws/Frames.lean ====
section
/-! SUPPORT. What the shared operations leave unchanged: one lemma per operation, in the form that carries a frame on. -/

namespace Sys2Proof.Machine

/-! ### The relations -/

/-- A report unit keeps its own. -/
theorem ReportUnit.Keeps.refl (r : ReportUnit) : r.Keeps r := ⟨rfl, rfl, rfl, rfl, rfl, rfl, rfl⟩

/-- Keeping is transitive. -/
theorem ReportUnit.Keeps.trans {r t u : ReportUnit} (h : r.Keeps t) (k : t.Keeps u) : r.Keeps u :=
  ⟨k.1.trans h.1, k.2.trans h.2, k.3.trans h.3, k.4.trans h.4, k.5.trans h.5, k.6.trans h.6, k.7.trans h.7⟩

/-- No change is a change within `Front`. -/
theorem Front.refl (s : State) : Front s s :=
  ⟨rfl, rfl, rfl, rfl, rfl, rfl, rfl, rfl, rfl, rfl, rfl, rfl, rfl, rfl, rfl, rfl, .refl _⟩

/-- `Front` is transitive. -/
theorem Front.trans {s t u : State} (h : Front s t) (k : Front t u) : Front s u :=
  ⟨k.1.trans h.1, k.2.trans h.2, k.3.trans h.3, k.4.trans h.4, k.5.trans h.5, k.6.trans h.6, k.7.trans h.7, k.8.trans h.8,
   k.9.trans h.9, k.10.trans h.10, k.11.trans h.11, k.12.trans h.12, k.13.trans h.13, k.14.trans h.14, k.15.trans h.15,
   k.16.trans h.16, h.17.trans k.17⟩

/-- No change is a change within `Inner`. -/
theorem Inner.refl (s : State) : Inner s s := ⟨rfl, rfl, rfl, rfl, rfl, rfl, rfl, rfl, rfl, rfl, rfl, rfl, .refl _⟩

/-- `Inner` is transitive. -/
theorem Inner.trans {s t u : State} (h : Inner s t) (k : Inner t u) : Inner s u :=
  ⟨k.1.trans h.1, k.2.trans h.2, k.3.trans h.3, k.4.trans h.4, k.5.trans h.5, k.6.trans h.6, k.7.trans h.7, k.8.trans h.8,
   k.9.trans h.9, k.10.trans h.10, k.11.trans h.11, k.12.trans h.12, h.13.trans k.13⟩

/-- `Front` lies within `Inner`. -/
theorem Front.inner {s t : State} (h : Front s t) : Inner s t :=
  ⟨h.pending, h.mem, h.power, h.bat, h.clk, h.cfg, h.intake, h.scrA, h.scrB, h.link, h.path, h.loader, h.rep⟩

/-- `Front` along a fold. -/
theorem Front.foldl {α : Type} {s t : State} {l : List α} {f : State → α → State}
    (hf : ∀ t x, Front s t → Front s (f t x)) (h : Front s t) : Front s (l.foldl f t) := by
  induction l generalizing t with
  | nil => exact h
  | cons x xs ih => exact ih (hf t x h)

/-- `Inner` along a fold. -/
theorem Inner.foldl {α : Type} {s t : State} {l : List α} {f : State → α → State}
    (hf : ∀ t x, Inner s t → Inner s (f t x)) (h : Inner s t) : Inner s (l.foldl f t) := by
  induction l generalizing t with
  | nil => exact h
  | cons x xs ih => exact ih (hf t x h)

variable {s t : State}

/-! ### Updates of one block -/

theorem Front.modPanel (f : Panel → Panel) (h : Front s t) : Front s (t.modPanel f) :=
  ⟨h.1, h.2, h.3, h.4, h.5, h.6, h.7, h.8, h.9, h.10, h.11, h.12, h.13, h.14, h.15, h.16, h.17⟩

theorem Inner.modPanel (f : Panel → Panel) (h : Inner s t) : Inner s (t.modPanel f) :=
  ⟨h.1, h.2, h.3, h.4, h.5, h.6, h.7, h.8, h.9, h.10, h.11, h.12, h.13⟩

theorem Front.modSel (f : Selection → Selection) (h : Front s t) : Front s (t.modSel f) :=
  ⟨h.1, h.2, h.3, h.4, h.5, h.6, h.7, h.8, h.9, h.10, h.11, h.12, h.13, h.14, h.15, h.16, h.17⟩

theorem Inner.modSel (f : Selection → Selection) (h : Inner s t) : Inner s (t.modSel f) :=
  ⟨h.1, h.2, h.3, h.4, h.5, h.6, h.7, h.8, h.9, h.10, h.11, h.12, h.13⟩

theorem Front.modBoard (f : Board → Board) (h : Front s t) : Front s (t.modBoard f) :=
  ⟨h.1, h.2, h.3, h.4, h.5, h.6, h.7, h.8, h.9, h.10, h.11, h.12, h.13, h.14, h.15, h.16, h.17⟩

theorem Inner.modBoard (f : Board → Board) (h : Inner s t) : Inner s (t.modBoard f) :=
  ⟨h.1, h.2, h.3, h.4, h.5, h.6, h.7, h.8, h.9, h.10, h.11, h.12, h.13⟩

theorem Front.modAct (f : Activity → Activity) (h : Front s t) : Front s (t.modAct f) :=
  ⟨h.1, h.2, h.3, h.4, h.5, h.6, h.7, h.8, h.9, h.10, h.11, h.12, h.13, h.14, h.15, h.16, h.17⟩

theorem Inner.modAct (f : Activity → Activity) (h : Inner s t) : Inner s (t.modAct f) :=
  ⟨h.1, h.2, h.3, h.4, h.5, h.6, h.7, h.8, h.9, h.10, h.11, h.12, h.13⟩

theorem Front.modAnn (f : Announcer → Announcer) (h : Front s t) : Front s (t.modAnn f) :=
  ⟨h.1, h.2, h.3, h.4, h.5, h.6, h.7, h.8, h.9, h.10, h.11, h.12, h.13, h.14, h.15, h.16, h.17⟩

theorem Inner.modAnn (f : Announcer → Announcer) (h : Inner s t) : Inner s (t.modAnn f) :=
  ⟨h.1, h.2, h.3, h.4, h.5, h.6, h.7, h.8, h.9, h.10, h.11, h.12, h.13⟩

theorem Inner.setTable (l : List Entry) (h : Inner s t) : Inner s (t.setTable l) :=
  ⟨h.1, h.2, h.3, h.4, h.5, h.6, h.7, h.8, h.9, h.10, h.11, h.12, h.13⟩

theorem Inner.setDueCount (n : Nat) (h : Inner s t) : Inner s (t.setDueCount n) :=
  ⟨h.1, h.2, h.3, h.4, h.5, h.6, h.7, h.8, h.9, h.10, h.11, h.12, h.13⟩

theorem Inner.modIssue (f : IssueUnit → IssueUnit) (h : Inner s t) : Inner s (t.modIssue f) :=
  ⟨h.1, h.2, h.3, h.4, h.5, h.6, h.7, h.8, h.9, h.10, h.11, h.12, h.13⟩

theorem Inner.drawn (h : Inner s t) : Inner s (t.drawn) :=
  ⟨h.1, h.2, h.3, h.4, h.5, h.6, h.7, h.8, h.9, h.10, h.11, h.12, h.13⟩


/-! ### The operations -/

theorem Front.raise (f : Flag) (h : Front s t) : Front s (t.raise f) :=
  ⟨h.1, h.2, h.3, h.4, h.5, h.6, h.7, h.8, h.9, h.10, h.11, h.12, h.13, h.14, h.15, h.16, h.17.trans ⟨rfl, rfl, rfl, rfl, rfl, rfl, rfl⟩⟩

theorem Inner.raise (f : Flag) (h : Inner s t) : Inner s (t.raise f) :=
  h.trans (Front.raise f (.refl t)).inner

theorem Front.count (c : Counter) (n : Nat) (h : Front s t) : Front s (t.count c n) :=
  ⟨h.1, h.2, h.3, h.4, h.5, h.6, h.7, h.8, h.9, h.10, h.11, h.12, h.13, h.14, h.15, h.16, h.17.trans ⟨rfl, rfl, rfl, rfl, rfl, rfl, rfl⟩⟩

theorem Inner.count (c : Counter) (n : Nat) (h : Inner s t) : Inner s (t.count c n) :=
  h.trans (Front.count c n (.refl t)).inner

theorem Front.pushInput (k : InputKind) (dest : Option Nat) (p : Product) (fare : Nat) (h : Front s t) : Front s (t.pushInput k dest p fare) := by
  unfold State.pushInput
  split
  · exact ⟨h.1, h.2, h.3, h.4, h.5, h.6, h.7, h.8, h.9, h.10, h.11, h.12, h.13, h.14, h.15, h.16, h.17.trans ⟨rfl, rfl, rfl, rfl, rfl, rfl, rfl⟩⟩
  · exact (h.count _ _).raise _

theorem Inner.pushInput (k : InputKind) (dest : Option Nat) (p : Product) (fare : Nat) (h : Inner s t) : Inner s (t.pushInput k dest p fare) :=
  h.trans (Front.pushInput k dest p fare (.refl t)).inner

theorem Front.markRows (scr : Screen) (rows : List Nat) (h : Front s t) : Front s (t.markRows scr rows) := by
  unfold State.markRows
  try dsimp only
  repeat' (with_reducible first | assumption | apply Front.modBoard | split)

theorem Inner.markRows (scr : Screen) (rows : List Nat) (h : Inner s t) : Inner s (t.markRows scr rows) :=
  h.trans (Front.markRows scr rows (.refl t)).inner

theorem Front.markBoth (rows : List Nat) (h : Front s t) : Front s (t.markBoth rows) := by
  unfold State.markBoth
  try dsimp only
  repeat' (with_reducible first | assumption | apply Front.markRows)

theorem Inner.markBoth (rows : List Nat) (h : Inner s t) : Inner s (t.markBoth rows) :=
  h.trans (Front.markBoth rows (.refl t)).inner

theorem Front.markDepartures (h : Front s t) : Front s t.markDepartures := by
  unfold State.markDepartures
  try dsimp only
  repeat' (with_reducible first | assumption | apply Front.markBoth)

theorem Inner.markDepartures  (h : Inner s t) : Inner s (t.markDepartures) :=
  h.trans (Front.markDepartures (.refl t)).inner

theorem Front.markNotices (h : Front s t) : Front s t.markNotices := by
  unfold State.markNotices
  try dsimp only
  repeat' (with_reducible first | assumption | apply Front.markBoth)

theorem Inner.markNotices  (h : Inner s t) : Inner s (t.markNotices) :=
  h.trans (Front.markNotices (.refl t)).inner

theorem Front.boardMode (old new : Mode) (h : Front s t) : Front s (t.boardMode old new) := by
  unfold State.boardMode
  try dsimp only
  repeat' (with_reducible first | assumption | apply Front.modBoard | split)

theorem Inner.boardMode (old new : Mode) (h : Inner s t) : Inner s (t.boardMode old new) :=
  h.trans (Front.boardMode old new (.refl t)).inner

theorem Front.setMode (m : Mode) (h : Front s t) : Front s (t.setMode m) := by
  unfold State.setMode
  try dsimp only
  repeat' (with_reducible first | assumption | apply Front.boardMode | apply Front.modPanel | apply Front.modAct | apply Front.modAnn | split)

theorem Inner.setMode (m : Mode) (h : Inner s t) : Inner s (t.setMode m) :=
  h.trans (Front.setMode m (.refl t)).inner

theorem Front.setDeadline (d : Option Nat) (h : Front s t) : Front s (t.setDeadline d) := by
  unfold State.setDeadline
  try dsimp only
  repeat' (with_reducible first | assumption | apply Front.modAct)

theorem Inner.setDeadline (d : Option Nat) (h : Inner s t) : Inner s (t.setDeadline d) :=
  h.trans (Front.setDeadline d (.refl t)).inner

theorem Front.activityEvent (h : Front s t) : Front s t.activityEvent := by
  unfold State.activityEvent
  try dsimp only
  repeat' (with_reducible first | assumption | apply Front.setMode | apply Front.setDeadline | split)

theorem Inner.activityEvent  (h : Inner s t) : Inner s (t.activityEvent) :=
  h.trans (Front.activityEvent (.refl t)).inner

theorem Front.idleStep (h : Front s t) : Front s t.idleStep := by
  unfold State.idleStep
  try dsimp only
  repeat' (with_reducible first | assumption | apply Front.setMode | apply Front.setDeadline | split)

theorem Inner.idleStep  (h : Inner s t) : Inner s (t.idleStep) :=
  h.trans (Front.idleStep (.refl t)).inner

theorem Front.floorOn (h : Front s t) : Front s t.floorOn := by
  unfold State.floorOn
  try dsimp only
  repeat' (with_reducible first | assumption | apply Front.setMode | apply Front.setDeadline | apply Front.modAct | split)

theorem Inner.floorOn  (h : Inner s t) : Inner s (t.floorOn) :=
  h.trans (Front.floorOn (.refl t)).inner

theorem Front.floorOff (h : Front s t) : Front s t.floorOff := by
  unfold State.floorOff
  try dsimp only
  repeat' (with_reducible first | assumption | apply Front.setDeadline | apply Front.modAct | split)

theorem Inner.floorOff  (h : Inner s t) : Inner s (t.floorOff) :=
  h.trans (Front.floorOff (.refl t)).inner

theorem Front.supplyMode (asserted : Bool) (h : Front s t) : Front s (t.supplyMode asserted) := by
  unfold State.supplyMode
  try dsimp only
  repeat' (with_reducible first | assumption | apply Front.setMode | apply Front.setDeadline | apply Front.modAct | split)

theorem Inner.supplyMode (asserted : Bool) (h : Inner s t) : Inner s (t.supplyMode asserted) :=
  h.trans (Front.supplyMode asserted (.refl t)).inner

theorem Front.startFrom (c : Settings) (x_ : List AnnReq) (h : Front s t) : Front s (t.startFrom c x_) := by
  induction x_ with
  | nil => exact h.modAnn _
  | cons r rs ih =>
    unfold State.startFrom
    split
    · exact h.modAnn _
    · exact ih

theorem Inner.startFrom (c : Settings) (x_ : List AnnReq) (h : Inner s t) : Inner s (t.startFrom c x_) :=
  h.trans (Front.startFrom c x_ (.refl t)).inner

theorem Front.startNext (h : Front s t) : Front s t.startNext := by
  unfold State.startNext
  try dsimp only
  repeat' (with_reducible first | assumption | apply Front.startFrom | split)

theorem Inner.startNext  (h : Inner s t) : Inner s (t.startNext) :=
  h.trans (Front.startNext (.refl t)).inner

theorem Front.endAnnouncement (h : Front s t) : Front s t.endAnnouncement := by
  unfold State.endAnnouncement
  try dsimp only
  repeat' (with_reducible first | assumption | apply Front.startNext | apply Front.modAnn)

theorem Inner.endAnnouncement  (h : Inner s t) : Inner s (t.endAnnouncement) :=
  h.trans (Front.endAnnouncement (.refl t)).inner

theorem Front.cut (why : CutCause) (h : Front s t) : Front s (t.cut why) := by
  unfold State.cut
  try dsimp only
  repeat' (with_reducible first | assumption | apply Front.count | apply Front.endAnnouncement | apply Front.modAnn | split)

theorem Inner.cut (why : CutCause) (h : Inner s t) : Inner s (t.cut why) :=
  h.trans (Front.cut why (.refl t)).inner

theorem Front.takeRequest (r : AnnReq) (h : Front s t) : Front s (t.takeRequest r) := by
  unfold State.takeRequest
  try dsimp only
  repeat' (with_reducible first | assumption | apply Front.count | apply Front.startNext | apply Front.cut | apply Front.modAnn | split)

theorem Inner.takeRequest (r : AnnReq) (h : Inner s t) : Inner s (t.takeRequest r) :=
  h.trans (Front.takeRequest r (.refl t)).inner

theorem Front.handRequest (k : AnnKind) (who : TrainId) (h : Front s t) : Front s (t.handRequest k who) := by
  unfold State.handRequest
  try dsimp only
  repeat' (with_reducible first | assumption | apply Front.count | apply Front.takeRequest | split)

theorem Inner.handRequest (k : AnnKind) (who : TrainId) (h : Inner s t) : Inner s (t.handRequest k who) :=
  h.trans (Front.handRequest k who (.refl t)).inner

theorem Front.withdrawQueued (who : TrainId) (kinds : List AnnKind) (h : Front s t) : Front s (t.withdrawQueued who kinds) := by
  unfold State.withdrawQueued
  try dsimp only
  repeat' (with_reducible first | assumption | apply Front.modAnn)

theorem Inner.withdrawQueued (who : TrainId) (kinds : List AnnKind) (h : Inner s t) : Inner s (t.withdrawQueued who kinds) :=
  h.trans (Front.withdrawQueued who kinds (.refl t)).inner

theorem Front.cutFor (who : TrainId) (kinds : List AnnKind) (h : Front s t) : Front s (t.cutFor who kinds) := by
  unfold State.cutFor
  try dsimp only
  repeat' (with_reducible first | assumption | apply Front.cut | split)

theorem Inner.cutFor (who : TrainId) (kinds : List AnnKind) (h : Inner s t) : Inner s (t.cutFor who kinds) :=
  h.trans (Front.cutFor who kinds (.refl t)).inner

theorem Front.annRemoved (who : TrainId) (h : Front s t) : Front s (t.annRemoved who) := by
  unfold State.annRemoved
  try dsimp only
  repeat' (with_reducible first | assumption | apply Front.withdrawQueued | apply Front.cutFor)

theorem Inner.annRemoved (who : TrainId) (h : Inner s t) : Inner s (t.annRemoved who) :=
  h.trans (Front.annRemoved who (.refl t)).inner

theorem Front.annCancelled (who : TrainId) (h : Front s t) : Front s (t.annCancelled who) := by
  unfold State.annCancelled
  try dsimp only
  repeat' (with_reducible first | assumption | apply Front.withdrawQueued | apply Front.cutFor)

theorem Inner.annCancelled (who : TrainId) (h : Inner s t) : Inner s (t.annCancelled who) :=
  h.trans (Front.annCancelled who (.refl t)).inner

theorem Front.annClear (h : Front s t) : Front s t.annClear := by
  unfold State.annClear
  try dsimp only
  repeat' (with_reducible first | assumption | apply Front.cut | apply Front.modAnn)

theorem Inner.annClear  (h : Inner s t) : Inner s (t.annClear) :=
  h.trans (Front.annClear (.refl t)).inner

theorem Front.annSupply (asserted : Bool) (h : Front s t) : Front s (t.annSupply asserted) := by
  unfold State.annSupply
  try dsimp only
  repeat' (with_reducible first | assumption | apply Front.count | apply Front.modAnn | split)

theorem Inner.annSupply (asserted : Bool) (h : Inner s t) : Inner s (t.annSupply asserted) :=
  h.trans (Front.annSupply asserted (.refl t)).inner

theorem Front.outputSample (h : Front s t) : Front s t.outputSample := by
  unfold State.outputSample
  try dsimp only
  repeat' (with_reducible first | assumption | apply Front.endAnnouncement | apply Front.cut | apply Front.modAnn | split)

theorem Inner.outputSample  (h : Inner s t) : Inner s (t.outputSample) :=
  h.trans (Front.outputSample (.refl t)).inner

theorem Front.annAdvance (h : Front s t) : Front s t.annAdvance := by
  unfold State.annAdvance
  try dsimp only
  repeat' (with_reducible first | assumption | apply Front.activityEvent | apply Front.endAnnouncement | apply Front.outputSample | apply Front.modAnn | split)

theorem Inner.annAdvance  (h : Inner s t) : Inner s (t.annAdvance) :=
  h.trans (Front.annAdvance (.refl t)).inner

theorem Front.annServed (w : Word) (h : Front s t) : Front s (t.annServed w) := by
  unfold State.annServed
  try dsimp only
  repeat' (with_reducible first | assumption | apply Front.annAdvance | apply Front.modAnn | split)

theorem Inner.annServed (w : Word) (h : Inner s t) : Inner s (t.annServed w) :=
  h.trans (Front.annServed w (.refl t)).inner

theorem Front.annPeriod (h : Front s t) : Front s t.annPeriod := by
  unfold State.annPeriod
  try dsimp only
  repeat' (with_reducible first | assumption | apply Front.raise | apply Front.count | apply Front.outputSample | split)

theorem Inner.annPeriod  (h : Inner s t) : Inner s (t.annPeriod) :=
  h.trans (Front.annPeriod (.refl t)).inner

theorem Inner.setRecord (slot : Nat) (r : QuoteRec) (h : Inner s t) : Inner s (t.setRecord slot r) := by
  unfold State.setRecord
  try dsimp only
  repeat' (with_reducible first | assumption | apply Inner.modIssue)

theorem Inner.issueWrites (accs : List Acc) (h : Inner s t) : Inner s (t.issueWrites accs) := by
  unfold State.issueWrites
  try dsimp only
  repeat' (with_reducible first | assumption | apply Inner.modIssue)

theorem Inner.voidSlot (slot : Nat) (why : VoidReason) (h : Inner s t) : Inner s (t.voidSlot slot why) := by
  unfold State.voidSlot
  try dsimp only
  repeat' (with_reducible first | assumption | apply Inner.setRecord | apply Inner.issueWrites | split)

theorem Inner.voidBound (who : TrainId) (h : Inner s t) : Inner s (t.voidBound who) := by
  unfold State.voidBound
  try dsimp only
  repeat' (with_reducible first | assumption | apply Inner.voidSlot | (apply Inner.foldl; intro _ _ _) | split)

theorem Inner.voidAll (h : Inner s t) : Inner s t.voidAll := by
  unfold State.voidAll
  try dsimp only
  repeat' (with_reducible first | assumption | apply Inner.voidSlot | (apply Inner.foldl; intro _ _ _))

theorem Front.syncLeave (entered : Bool) (h : Front s t) : Front s (t.syncLeave entered) := by
  unfold State.syncLeave
  try dsimp only
  repeat' (with_reducible first | assumption | apply Front.modSel | split)

theorem Inner.syncLeave (entered : Bool) (h : Inner s t) : Inner s (t.syncLeave entered) :=
  h.trans (Front.syncLeave entered (.refl t)).inner

theorem Front.fareEvent (h : Front s t) : Front s t.fareEvent := by
  unfold State.fareEvent
  try dsimp only
  repeat' (with_reducible first | assumption | apply Front.markRows)

theorem Inner.fareEvent  (h : Inner s t) : Inner s (t.fareEvent) :=
  h.trans (Front.fareEvent (.refl t)).inner

theorem Front.setSel (new : Selection) (h : Front s t) : Front s (t.setSel new) := by
  unfold State.setSel
  try dsimp only
  repeat' (with_reducible first | assumption | apply Front.markRows | apply Front.activityEvent | apply Front.syncLeave | apply Front.fareEvent | apply Front.modSel | split)

theorem Inner.setSel (new : Selection) (h : Inner s t) : Inner s (t.setSel new) :=
  h.trans (Front.setSel new (.refl t)).inner

theorem Front.handCount (n : Nat) (h : Front s t) : Front s (t.handCount n) := by
  unfold State.handCount
  try dsimp only
  repeat' (with_reducible first | assumption | apply Front.setSel | apply Front.modBoard | split)

theorem Inner.handCount (n : Nat) (h : Inner s t) : Inner s (t.handCount n) :=
  h.trans (Front.handCount n (.refl t)).inner

theorem Front.selIdle (h : Front s t) : Front s t.selIdle := by
  unfold State.selIdle
  try dsimp only
  repeat' (with_reducible first | assumption | apply Front.setSel)

theorem Inner.selIdle  (h : Inner s t) : Inner s (t.selIdle) :=
  h.trans (Front.selIdle (.refl t)).inner

theorem Front.adjustSel (c : Settings) (h : Front s t) : Front s (t.adjustSel c) := by
  unfold State.adjustSel
  try dsimp only
  repeat' (with_reducible first | assumption | apply Front.setSel | split)

theorem Inner.adjustSel (c : Settings) (h : Inner s t) : Inner s (t.adjustSel c) :=
  h.trans (Front.adjustSel c (.refl t)).inner

theorem Front.recomputeList (h : Front s t) : Front s t.recomputeList := by
  unfold State.recomputeList
  try dsimp only
  repeat' (with_reducible first | assumption | apply Front.fareEvent | apply Front.adjustSel | apply Front.modPanel | split)

theorem Inner.recomputeList  (h : Inner s t) : Inner s (t.recomputeList) :=
  h.trans (Front.recomputeList (.refl t)).inner

theorem Front.selBrowse (c : Settings) (x_ : SelEvent) (h : Front s t) : Front s (t.selBrowse c x_) := by
  unfold State.selBrowse
  try dsimp only
  repeat' (with_reducible first | assumption | apply Front.setSel | split)

theorem Inner.selBrowse (c : Settings) (x_ : SelEvent) (h : Inner s t) : Inner s (t.selBrowse c x_) :=
  h.trans (Front.selBrowse c x_ (.refl t)).inner

theorem Front.chooseForward (h : Front s t) : Front s t.chooseForward := by
  unfold State.chooseForward
  try dsimp only
  repeat' (with_reducible first | assumption | apply Front.setSel | split)

theorem Inner.chooseForward  (h : Inner s t) : Inner s (t.chooseForward) :=
  h.trans (Front.chooseForward (.refl t)).inner

theorem Front.selChoose (x_ : SelEvent) (h : Front s t) : Front s (t.selChoose x_) := by
  unfold State.selChoose
  try dsimp only
  repeat' (with_reducible first | assumption | apply Front.setSel | apply Front.chooseForward | split)

theorem Inner.selChoose (x_ : SelEvent) (h : Inner s t) : Inner s (t.selChoose x_) :=
  h.trans (Front.selChoose x_ (.refl t)).inner

theorem Front.confirmForward (c : Settings) (h : Front s t) : Front s (t.confirmForward c) := by
  unfold State.confirmForward
  try dsimp only
  repeat' (with_reducible first | assumption | apply Front.pushInput | apply Front.setSel)

theorem Inner.confirmForward (c : Settings) (h : Inner s t) : Inner s (t.confirmForward c) :=
  h.trans (Front.confirmForward c (.refl t)).inner

theorem Front.selConfirm (c : Settings) (x_ : SelEvent) (h : Front s t) : Front s (t.selConfirm c x_) := by
  unfold State.selConfirm
  try dsimp only
  repeat' (with_reducible first | assumption | apply Front.setSel | apply Front.confirmForward | split)

theorem Inner.selConfirm (c : Settings) (x_ : SelEvent) (h : Inner s t) : Inner s (t.selConfirm c x_) :=
  h.trans (Front.selConfirm c x_ (.refl t)).inner

theorem Front.selHanded (c : Settings) (x_ : SelEvent) (h : Front s t) : Front s (t.selHanded c x_) := by
  unfold State.selHanded
  try dsimp only
  repeat' (with_reducible first | assumption | apply Front.pushInput | apply Front.setSel | apply Front.adjustSel | split)

theorem Inner.selHanded (c : Settings) (x_ : SelEvent) (h : Inner s t) : Inner s (t.selHanded c x_) :=
  h.trans (Front.selHanded c x_ (.refl t)).inner

theorem Front.selWake (h : Front s t) : Front s t.selWake := by
  unfold State.selWake
  try dsimp only
  repeat' (with_reducible first | assumption | apply Front.setSel)

theorem Inner.selWake  (h : Inner s t) : Inner s (t.selWake) :=
  h.trans (Front.selWake (.refl t)).inner

theorem Front.selEvent (ev : SelEvent) (h : Front s t) : Front s (t.selEvent ev) := by
  unfold State.selEvent
  try dsimp only
  repeat' (with_reducible first | assumption | apply Front.selBrowse | apply Front.selChoose | apply Front.selConfirm | apply Front.selHanded | apply Front.selWake | split)

theorem Inner.selEvent (ev : SelEvent) (h : Inner s t) : Inner s (t.selEvent ev) :=
  h.trans (Front.selEvent ev (.refl t)).inner

theorem Front.selLeave (h : Front s t) : Front s t.selLeave := by
  unfold State.selLeave
  try dsimp only
  repeat' (with_reducible first | assumption | apply Front.pushInput | apply Front.selIdle | split)

theorem Inner.selLeave  (h : Inner s t) : Inner s (t.selLeave) :=
  h.trans (Front.selLeave (.refl t)).inner

theorem Front.selTimeout (h : Front s t) : Front s t.selTimeout := by
  unfold State.selTimeout
  try dsimp only
  repeat' (with_reducible first | assumption | apply Front.pushInput | apply Front.setSel)

theorem Inner.selTimeout  (h : Inner s t) : Inner s (t.selTimeout) :=
  h.trans (Front.selTimeout (.refl t)).inner

theorem Front.selDone (h : Front s t) : Front s t.selDone := by
  unfold State.selDone
  try dsimp only
  repeat' (with_reducible first | assumption | apply Front.setSel)

theorem Inner.selDone  (h : Inner s t) : Inner s (t.selDone) :=
  h.trans (Front.selDone (.refl t)).inner

theorem Inner.syncDue (h : Inner s t) : Inner s t.syncDue := by
  unfold State.syncDue
  try dsimp only
  repeat' (with_reducible first | assumption | apply Inner.floorOn | apply Inner.floorOff | apply Inner.setDueCount | split)

theorem Inner.removeEntry (who : TrainId) (h : Inner s t) : Inner s (t.removeEntry who) := by
  unfold State.removeEntry
  try dsimp only
  repeat' (with_reducible first | assumption | apply Inner.markDepartures | apply Inner.annRemoved | apply Inner.voidBound | apply Inner.syncDue | apply Inner.setTable)

theorem Inner.removeAll (l : List Entry) (h : Inner s t) : Inner s (t.removeAll l) := by
  unfold State.removeAll
  try dsimp only
  repeat' (with_reducible first | assumption | apply Inner.removeEntry | (apply Inner.foldl; intro _ _ _))

theorem Inner.countLost (n : Nat) (h : Inner s t) : Inner s (t.countLost n) := by
  unfold State.countLost
  try dsimp only
  repeat' (with_reducible first | assumption | apply Inner.raise | apply Inner.count | split)

theorem Inner.phaseEvents (old : Phase) (mark : Bool) (new : Entry) (h : Inner s t) : Inner s (t.phaseEvents old mark new) := by
  unfold State.phaseEvents
  try dsimp only
  repeat' (with_reducible first | assumption | apply Inner.activityEvent | apply Inner.handRequest | apply Inner.withdrawQueued | apply Inner.annCancelled | apply Inner.voidBound | apply Inner.drawn | split)

theorem Inner.evalEntry (c : Settings) (old cur : Entry) (after : EvalAfter) (stepped : Bool) (h : Inner s t) : Inner s (t.evalEntry c old cur after stepped) := by
  unfold State.evalEntry
  try dsimp only
  repeat' (with_reducible first | assumption | apply Inner.markDepartures | apply Inner.handRequest | apply Inner.syncDue | apply Inner.phaseEvents | apply Inner.setTable | split)

theorem Inner.evalAll (c : Settings) (h : Inner s t) : Inner s (t.evalAll c) := by
  unfold State.evalAll
  try dsimp only
  repeat' (with_reducible first | assumption | apply Inner.evalEntry | (apply Inner.foldl; intro _ _ _) | split)

theorem Inner.retire (c : Settings) (h : Inner s t) : Inner s (t.retire c) := by
  unfold State.retire
  try dsimp only
  repeat' (with_reducible first | assumption | apply Inner.removeAll | apply Inner.countLost)

theorem Inner.rollTable (h : Inner s t) : Inner s t.rollTable := by
  unfold State.rollTable
  try dsimp only
  repeat' (with_reducible first | assumption | apply Inner.markDepartures | apply Inner.syncDue | apply Inner.removeAll | apply Inner.countLost | apply Inner.setTable)

theorem Inner.evalPass (c : Settings) (h : Inner s t) : Inner s (t.evalPass c) := by
  unfold State.evalPass
  try dsimp only
  repeat' (with_reducible first | assumption | apply Inner.recomputeList | apply Inner.evalAll | apply Inner.retire)

theorem Inner.emptyTable (h : Inner s t) : Inner s t.emptyTable := by
  unfold State.emptyTable
  try dsimp only
  repeat' (with_reducible first | assumption | apply Inner.annClear | apply Inner.voidAll | apply Inner.recomputeList | apply Inner.markDepartures | apply Inner.syncDue | apply Inner.setTable | apply Inner.countLost)

theorem Inner.retestStale (c : Settings) (h : Inner s t) : Inner s (t.retestStale c) := by
  unfold State.retestStale
  try dsimp only
  repeat' (with_reducible first | assumption | apply Inner.markDepartures | apply Inner.recomputeList | apply Inner.setTable | split)

theorem Inner.makeRoom {u : State} (rel : Relation) (sched : Nat) (h : Inner s t) (hu : t.makeRoom rel sched = some u) :
    Inner s u := by
  unfold State.makeRoom at hu
  split at hu
  · cases hu; exact h
  · obtain ⟨e, _, rfl⟩ := Option.map_eq_some_iff.mp hu
    exact (h.removeEntry _).countLost _

theorem Inner.addEntry (c : Settings) (e : Entry) (h : Inner s t) : Inner s (t.addEntry c e) := by
  unfold State.addEntry
  try dsimp only
  repeat' (with_reducible first | assumption | apply Inner.markDepartures | apply Inner.recomputeList | apply Inner.evalEntry | apply Inner.setTable)

theorem Inner.recordOver (c : Settings) (src : Source) (im : Image) (e : Entry) (h : Inner s t) : Inner s (t.recordOver c src im e).1 := by
  unfold State.recordOver
  try dsimp only
  repeat' (with_reducible first | assumption | apply Inner.markDepartures | apply Inner.voidBound | apply Inner.recomputeList | apply Inner.evalEntry | split)

theorem Inner.applyRecord (c : Settings) (src : Source) (im : Image) (h : Inner s t) : Inner s (t.applyRecord c src im).1 := by
  unfold State.applyRecord
  split
  · exact h.recordOver _ _ _ _
  · split
    · exact h
    · exact (h.makeRoom _ _ (by assumption)).addEntry _ _

theorem Inner.applyDelete (im : Image) (h : Inner s t) : Inner s (t.applyDelete im).1 := by
  unfold State.applyDelete
  try dsimp only
  repeat' (with_reducible first | assumption | apply Inner.recomputeList | apply Inner.removeEntry | split)

theorem Inner.updateEntry (c : Settings) (old cur : Entry) (after : EvalAfter) (stepped : Bool) (h : Inner s t) : Inner s (t.updateEntry c old cur after stepped) := by
  unfold State.updateEntry
  try dsimp only
  repeat' (with_reducible first | assumption | apply Inner.recomputeList | apply Inner.evalEntry | split)

theorem Inner.applyCancel (c : Settings) (im : Image) (h : Inner s t) : Inner s (t.applyCancel c im).1 := by
  unfold State.applyCancel
  try dsimp only
  repeat' (with_reducible first | assumption | apply Inner.handRequest | apply Inner.updateEntry | split)

theorem Inner.applyReinstate (c : Settings) (im : Image) (h : Inner s t) : Inner s (t.applyReinstate c im).1 := by
  unfold State.applyReinstate
  try dsimp only
  repeat' (with_reducible first | assumption | apply Inner.updateEntry | split)

theorem Inner.applyReport (c : Settings) (im : Image) (h : Inner s t) : Inner s (t.applyReport c im).1 := by
  unfold State.applyReport
  try dsimp only
  repeat' (with_reducible first | assumption | apply Inner.updateEntry | split)

theorem Inner.applyDeparted (c : Settings) (im : Image) (h : Inner s t) : Inner s (t.applyDeparted c im).1 := by
  unfold State.applyDeparted
  try dsimp only
  repeat' (with_reducible first | assumption | apply Inner.updateEntry | split)

theorem Inner.applyImage (c : Settings) (src : Source) (k : UpdateKind) (im : Image) (h : Inner s t) : Inner s (t.applyImage c src k im).1 := by
  unfold State.applyImage
  try dsimp only
  repeat' (with_reducible first | assumption | apply Inner.applyRecord | apply Inner.applyDelete | apply Inner.applyCancel | apply Inner.applyReinstate | apply Inner.applyReport | apply Inner.applyDeparted | split)

theorem Front.answerCommand (c : Settings) (post value : Word) (h : Front s t) : Front s (t.answerCommand c post value) :=
  ⟨h.1, h.2, h.3, h.4, h.5, h.6, h.7, h.8, h.9, h.10, h.11, h.12, h.13, h.14, h.15, h.16, h.17.trans ⟨rfl, rfl, rfl, rfl, rfl, rfl, rfl⟩⟩

theorem Inner.answerCommand (c : Settings) (post value : Word) (h : Inner s t) : Inner s (t.answerCommand c post value) :=
  h.trans (Front.answerCommand c post value (.refl t)).inner

theorem Front.commandDone (c : Settings) (value : Word) (h : Front s t) : Front s (t.commandDone c value) := by
  unfold State.commandDone
  try dsimp only
  repeat' (with_reducible first | assumption | apply Front.answerCommand)

theorem Inner.commandDone (c : Settings) (value : Word) (h : Inner s t) : Inner s (t.commandDone c value) :=
  h.trans (Front.commandDone c value (.refl t)).inner

theorem Front.commandRefused (c : Settings) (reason : Word) (h : Front s t) : Front s (t.commandRefused c reason) := by
  unfold State.commandRefused
  try dsimp only
  repeat' (with_reducible first | assumption | apply Front.answerCommand)

theorem Inner.commandRefused (c : Settings) (reason : Word) (h : Inner s t) : Inner s (t.commandRefused c reason) :=
  h.trans (Front.commandRefused c reason (.refl t)).inner

theorem Inner.answerSale (c : Settings) (results : List (Nat × Word)) (post : Word) (h : Inner s t) : Inner s (t.answerSale c results post) := by
  unfold State.answerSale
  try dsimp only
  repeat' (with_reducible first | assumption | apply Inner.issueWrites | apply Inner.modIssue | split)

theorem Inner.refuseSale (c : Settings) (reason : Word) (h : Inner s t) : Inner s (t.refuseSale c reason) := by
  unfold State.refuseSale
  try dsimp only
  repeat' (with_reducible first | assumption | apply Inner.setRecord | apply Inner.answerSale | split)

theorem Inner.takeQuote (c : Settings) (slot : Nat) (req : List Word) (h : Inner s t) : Inner s (t.takeQuote c slot req) := by
  unfold State.takeQuote
  try dsimp only
  repeat' (with_reducible first | assumption | apply Inner.setRecord | apply Inner.answerSale | apply Inner.refuseSale | split)

theorem Inner.takeIssue (c : Settings) (slot : Nat) (h : Inner s t) : Inner s (t.takeIssue c slot) := by
  unfold State.takeIssue
  try dsimp only
  repeat' (with_reducible first | assumption | apply Inner.setRecord | apply Inner.issueWrites | apply Inner.refuseSale | apply Inner.modIssue | split)

theorem Inner.writeMirror (h : Inner s t) : Inner s t.writeMirror := by
  unfold State.writeMirror
  try dsimp only
  repeat' (with_reducible first | assumption | apply Inner.issueWrites | split)

theorem Inner.testLow (g : Geometry) (before : Nat) (h : Inner s t) : Inner s (t.testLow g before) := by
  unfold State.testLow
  try dsimp only
  repeat' (with_reducible first | assumption | apply Inner.raise | split)

theorem Inner.takeRelease (c : Settings) (slot : Nat) (h : Inner s t) : Inner s (t.takeRelease c slot) := by
  unfold State.takeRelease
  try dsimp only
  repeat' (with_reducible first | assumption | apply Inner.setRecord | apply Inner.answerSale)

theorem Inner.writeStates (g : Geometry) (is : List Nat) (v : Word) (h : Inner s t) : Inner s (t.writeStates g is v) := by
  unfold State.writeStates
  try dsimp only
  repeat' (with_reducible first | assumption | apply Inner.issueWrites)

theorem Front.setChan (ch : Nat) (c : Channel) (h : Front s t) : Front s (t.setChan ch c) := by
  unfold State.setChan
  try dsimp only
  repeat' (with_reducible first | assumption | apply Front.modPanel)

theorem Inner.setChan (ch : Nat) (c : Channel) (h : Inner s t) : Inner s (t.setChan ch c) :=
  h.trans (Front.setChan ch c (.refl t)).inner

theorem Front.panelFault (h : Front s t) : Front s t.panelFault := by
  unfold State.panelFault
  try dsimp only
  repeat' (with_reducible first | assumption | apply Front.raise | apply Front.count)

theorem Inner.panelFault  (h : Inner s t) : Inner s (t.panelFault) :=
  h.trans (Front.panelFault (.refl t)).inner

theorem Front.reseedChan (p : PanelParams) (ch : Nat) (h : Front s t) : Front s (t.reseedChan p ch) := by
  unfold State.reseedChan
  try dsimp only
  repeat' (with_reducible first | assumption | apply Front.setChan)

theorem Inner.reseedChan (p : PanelParams) (ch : Nat) (h : Inner s t) : Inner s (t.reseedChan p ch) :=
  h.trans (Front.reseedChan p ch (.refl t)).inner

theorem Front.wetEnd (p : PanelParams) (h : Front s t) : Front s (t.wetEnd p) := by
  unfold State.wetEnd
  try dsimp only
  repeat' (with_reducible first | assumption | apply Front.reseedChan | (apply Front.foldl; intro _ _ _) | split)

theorem Inner.wetEnd (p : PanelParams) (h : Inner s t) : Inner s (t.wetEnd p) :=
  h.trans (Front.wetEnd p (.refl t)).inner

theorem Front.clearTracker (h : Front s t) : Front s t.clearTracker := by
  unfold State.clearTracker
  try dsimp only
  repeat' (with_reducible first | assumption | apply Front.modPanel)

theorem Inner.clearTracker  (h : Inner s t) : Inner s (t.clearTracker) :=
  h.trans (Front.clearTracker (.refl t)).inner

theorem Front.releaseChan (p : PanelParams) (ch : Nat) (h : Front s t) : Front s (t.releaseChan p ch) := by
  unfold State.releaseChan
  try dsimp only
  repeat' (with_reducible first | assumption | apply Front.selEvent | apply Front.setChan | apply Front.wetEnd | apply Front.clearTracker | split)

theorem Inner.releaseChan (p : PanelParams) (ch : Nat) (h : Inner s t) : Inner s (t.releaseChan p ch) :=
  h.trans (Front.releaseChan p ch (.refl t)).inner

theorem Front.startCal (p : PanelParams) (ch : Nat) (h : Front s t) : Front s (t.startCal p ch) := by
  unfold State.startCal
  try dsimp only
  repeat' (with_reducible first | assumption | apply Front.setChan | apply Front.releaseChan | split)

theorem Inner.startCal (p : PanelParams) (ch : Nat) (h : Inner s t) : Inner s (t.startCal p ch) :=
  h.trans (Front.startCal p ch (.refl t)).inner

theorem Front.sampleChan (p : PanelParams) (ch r : Nat) (h : Front s t) : Front s (t.sampleChan p ch r) := by
  unfold State.sampleChan
  try dsimp only
  repeat' (with_reducible first | assumption | apply Front.setChan | apply Front.panelFault | split)

theorem Inner.sampleChan (p : PanelParams) (ch r : Nat) (h : Inner s t) : Inner s (t.sampleChan p ch r) :=
  h.trans (Front.sampleChan p ch r (.refl t)).inner

theorem Front.block (h : Front s t) : Front s t.block := by
  unfold State.block
  try dsimp only
  repeat' (with_reducible first | assumption | apply Front.setChan | apply Front.clearTracker | (apply Front.foldl; intro _ _ _))

theorem Inner.block  (h : Inner s t) : Inner s (t.block) :=
  h.trans (Front.block (.refl t)).inner

theorem Front.testRain (p : PanelParams) (h : Front s t) : Front s (t.testRain p) := by
  unfold State.testRain
  try dsimp only
  repeat' (with_reducible first | assumption | apply Front.setChan | apply Front.wetEnd | apply Front.block | split)

theorem Inner.testRain (p : PanelParams) (h : Inner s t) : Inner s (t.testRain p) :=
  h.trans (Front.testRain p (.refl t)).inner

theorem Front.testChan (p : PanelParams) (ch : Nat) (h : Front s t) : Front s (t.testChan p ch).1 := by
  unfold State.testChan
  try dsimp only
  repeat' (with_reducible first | assumption | apply Front.setChan | split)

theorem Inner.testChan (p : PanelParams) (ch : Nat) (h : Inner s t) : Inner s (t.testChan p ch).1 :=
  h.trans (Front.testChan p ch (.refl t)).inner

theorem Front.testChans (p : PanelParams) (x_ : List Nat) (h : Front s t) : Front s (t.testChans p x_).1 := by
  induction x_ generalizing t with
  | nil => exact h
  | cons ch rest ih => exact ih (h.testChan p ch)

theorem Inner.testChans (p : PanelParams) (x_ : List Nat) (h : Inner s t) : Inner s (t.testChans p x_).1 :=
  h.trans (Front.testChans p x_ (.refl t)).inner

theorem Front.slide (p : PanelParams) (h : Front s t) : Front s (t.slide p).1 := by
  unfold State.slide
  try dsimp only
  repeat' (with_reducible first | assumption | apply Front.clearTracker | apply Front.modPanel | split)

theorem Inner.slide (p : PanelParams) (h : Inner s t) : Inner s (t.slide p).1 :=
  h.trans (Front.slide p (.refl t)).inner

theorem Front.noteRound (h : Front s t) : Front s t.noteRound := by
  unfold State.noteRound
  try dsimp only
  repeat' (with_reducible first | assumption | apply Front.modPanel)

theorem Inner.noteRound  (h : Inner s t) : Inner s (t.noteRound) :=
  h.trans (Front.noteRound (.refl t)).inner

theorem Front.onsets (es : List (Nat × Edge)) (h : Front s t) : Front s (t.onsets es) := by
  unfold State.onsets
  try dsimp only
  repeat' (with_reducible first | assumption | apply Front.activityEvent | (apply Front.foldl; intro _ _ _) | split)

theorem Inner.onsets (es : List (Nat × Edge)) (h : Inner s t) : Inner s (t.onsets es) :=
  h.trans (Front.onsets es (.refl t)).inner

theorem Front.finishCal (c : Settings) (h : Front s t) : Front s (t.finishCal c) := by
  unfold State.finishCal
  try dsimp only
  repeat' (with_reducible first | assumption | apply Front.commandDone | apply Front.modPanel | split)

theorem Inner.finishCal (c : Settings) (h : Inner s t) : Inner s (t.finishCal c) :=
  h.trans (Front.finishCal c (.refl t)).inner

theorem Front.senseRound (p : PanelParams) (counts : List Nat) (h : Front s t) : Front s (t.senseRound p counts).1 := by
  unfold State.senseRound
  try dsimp only
  repeat' (with_reducible first | assumption | apply Front.sampleChan | apply Front.testRain | apply Front.testChans | apply Front.slide | apply Front.noteRound | (apply Front.foldl; intro _ _ _) | split)

theorem Inner.senseRound (p : PanelParams) (counts : List Nat) (h : Inner s t) : Inner s (t.senseRound p counts).1 :=
  h.trans (Front.senseRound p counts (.refl t)).inner

theorem Front.round (c : Settings) (counts : List Nat) (h : Front s t) : Front s (t.round c counts) := by
  unfold State.round
  try dsimp only
  repeat' (with_reducible first | assumption | apply Front.syncLeave | apply Front.selEvent | apply Front.onsets | apply Front.finishCal | apply Front.senseRound | (apply Front.foldl; intro _ _ _))

theorem Inner.round (c : Settings) (counts : List Nat) (h : Inner s t) : Inner s (t.round c counts) :=
  h.trans (Front.round c counts (.refl t)).inner

theorem Front.releaseStuck (c : Settings) (ch : Nat) (h : Front s t) : Front s (t.releaseStuck c ch) := by
  unfold State.releaseStuck
  try dsimp only
  repeat' (with_reducible first | assumption | apply Front.syncLeave | apply Front.panelFault | apply Front.reseedChan | apply Front.releaseChan)

theorem Inner.releaseStuck (c : Settings) (ch : Nat) (h : Inner s t) : Inner s (t.releaseStuck c ch) :=
  h.trans (Front.releaseStuck c ch (.refl t)).inner

theorem Front.reseedMask (p : PanelParams) (m : Nat) (h : Front s t) : Front s (t.reseedMask p m) := by
  unfold State.reseedMask
  try dsimp only
  repeat' (with_reducible first | assumption | apply Front.reseedChan | apply Front.releaseChan | (apply Front.foldl; intro _ _ _) | split)

theorem Inner.reseedMask (p : PanelParams) (m : Nat) (h : Inner s t) : Inner s (t.reseedMask p m) :=
  h.trans (Front.reseedMask p m (.refl t)).inner

theorem Front.ownCommand (code : CommandCode) (h : Front s t) : Front s (t.ownCommand code) :=
  ⟨h.1, h.2, h.3, h.4, h.5, h.6, h.7, h.8, h.9, h.10, h.11, h.12, h.13, h.14, h.15, h.16, h.17.trans ⟨rfl, rfl, rfl, rfl, rfl, rfl, rfl⟩⟩

theorem Inner.ownCommand (code : CommandCode) (h : Inner s t) : Inner s (t.ownCommand code) :=
  h.trans (Front.ownCommand code (.refl t)).inner

theorem Front.completeBuild (b : Build) (h : Front s t) : Front s (t.completeBuild b) := by
  unfold State.completeBuild
  try dsimp only
  repeat' (with_reducible first | assumption | apply Front.modBoard)

theorem Inner.completeBuild (b : Build) (h : Inner s t) : Inner s (t.completeBuild b) :=
  h.trans (Front.completeBuild b (.refl t)).inner

theorem Front.goOnBuild (b : Build) (h : Front s t) : Front s (t.goOnBuild b) := by
  unfold State.goOnBuild
  try dsimp only
  repeat' (with_reducible first | assumption | apply Front.completeBuild | apply Front.modBoard | split)

theorem Inner.goOnBuild (b : Build) (h : Inner s t) : Inner s (t.goOnBuild b) :=
  h.trans (Front.goOnBuild b (.refl t)).inner

theorem Front.countShown (c : Settings) (scr : Screen) (row : Nat) (h : Front s t) : Front s (t.countShown c scr row) := by
  unfold State.countShown
  try dsimp only
  repeat' (with_reducible first | assumption | apply Front.handCount | split)

theorem Inner.countShown (c : Settings) (scr : Screen) (row : Nat) (h : Inner s t) : Inner s (t.countShown c scr row) :=
  h.trans (Front.countShown c scr row (.refl t)).inner

theorem Front.startBuild (c : Settings) (scr : Screen) (row : Nat) (h : Front s t) : Front s (t.startBuild c scr row) := by
  unfold State.startBuild
  try dsimp only
  repeat' (with_reducible first | assumption | apply Front.goOnBuild | apply Front.countShown | apply Front.modBoard)

theorem Inner.startBuild (c : Settings) (scr : Screen) (row : Nat) (h : Inner s t) : Inner s (t.startBuild c scr row) :=
  h.trans (Front.startBuild c scr row (.refl t)).inner

theorem Front.setLineNotice (n : Option Notice) (h : Front s t) : Front s (t.setLineNotice n) := by
  unfold State.setLineNotice
  try dsimp only
  repeat' (with_reducible first | assumption | apply Front.markNotices | apply Front.modBoard | split)

theorem Inner.setLineNotice (n : Option Notice) (h : Inner s t) : Inner s (t.setLineNotice n) :=
  h.trans (Front.setLineNotice n (.refl t)).inner

theorem Front.setOwnNotice (n : Option Notice) (h : Front s t) : Front s (t.setOwnNotice n) := by
  unfold State.setOwnNotice
  try dsimp only
  repeat' (with_reducible first | assumption | apply Front.markNotices | apply Front.modBoard | split)

theorem Inner.setOwnNotice (n : Option Notice) (h : Inner s t) : Inner s (t.setOwnNotice n) :=
  h.trans (Front.setOwnNotice n (.refl t)).inner

theorem Front.takeLocalNotice (c : Settings) (addr len duration : Nat) (h : Front s t) : Front s (t.takeLocalNotice c addr len duration) := by
  unfold State.takeLocalNotice
  try dsimp only
  repeat' (with_reducible first | assumption | apply Front.commandDone | apply Front.commandRefused | apply Front.ownCommand | apply Front.setOwnNotice | apply Front.modBoard | split)

theorem Inner.takeLocalNotice (c : Settings) (addr len duration : Nat) (h : Inner s t) : Inner s (t.takeLocalNotice c addr len duration) :=
  h.trans (Front.takeLocalNotice c addr len duration (.refl t)).inner

theorem Front.takeNoticeWord (c : Settings) (n : NoticeFetch) (w : Word) (h : Front s t) : Front s (t.takeNoticeWord c n w) := by
  unfold State.takeNoticeWord
  try dsimp only
  repeat' (with_reducible first | assumption | apply Front.commandDone | apply Front.setOwnNotice | apply Front.modBoard | split)

theorem Inner.takeNoticeWord (c : Settings) (n : NoticeFetch) (w : Word) (h : Inner s t) : Inner s (t.takeNoticeWord c n w) :=
  h.trans (Front.takeNoticeWord c n w (.refl t)).inner

theorem Front.paintServed (w : Word) (h : Front s t) : Front s (t.paintServed w) := by
  unfold State.paintServed
  try dsimp only
  repeat' (with_reducible first | assumption | apply Front.goOnBuild | apply Front.modBoard | split)

theorem Inner.paintServed (w : Word) (h : Inner s t) : Inner s (t.paintServed w) :=
  h.trans (Front.paintServed w (.refl t)).inner

theorem Inner.composerServed (w : Word) (h : Inner s t) : Inner s (t.composerServed w) := by
  unfold State.composerServed
  try dsimp only
  repeat' (with_reducible first | assumption | apply Inner.takeNoticeWord | apply Inner.paintServed | apply Inner.drawn | split)

theorem Front.recompose (h : Front s t) : Front s t.recompose := by
  unfold State.recompose
  try dsimp only
  repeat' (with_reducible first | assumption | apply Front.modBoard)

theorem Inner.recompose  (h : Inner s t) : Inner s (t.recompose) :=
  h.trans (Front.recompose (.refl t)).inner

end Sys2Proof.Machine
end

