-- ==== Sys2Proof/Laws/Lists.lean ====
section
/-! SUPPORT. What the list operations do: an insertion and a sort only rearrange, and keep or bring about the order; a free order
of the commands of a cycle loses none and adds none. -/

namespace Sys2Proof.Machine

variable {α : Type}

/-! ### Insertion and sort by an order -/

theorem insertBy_perm (lt : α → α → Bool) (x : α) (l : List α) : (insertBy lt x l).Perm (x :: l) := by
  induction l with
  | nil => exact .refl _
  | cons y ys ih =>
    unfold insertBy
    split
    · exact .refl _
    · exact (ih.cons y).trans (.swap x y ys)

theorem mem_insertBy (lt : α → α → Bool) (x z : α) (l : List α) : z ∈ insertBy lt x l ↔ z = x ∨ z ∈ l := by
  rw [(insertBy_perm lt x l).mem_iff, List.mem_cons]

theorem length_insertBy (lt : α → α → Bool) (x : α) (l : List α) : (insertBy lt x l).length = l.length + 1 :=
  (insertBy_perm lt x l).length_eq

/-- An insertion goes behind the longest front of the list that the comparison does not place it before. -/
theorem insertBy_eq_takeWhile (p : α → Bool) (x : α) (l : List α) (lt : α → α → Bool) (h : ∀ y, lt x y = !p y) :
    insertBy lt x l = l.takeWhile p ++ x :: l.dropWhile p := by
  induction l with
  | nil => rfl
  | cons y ys ih =>
    unfold insertBy
    rw [h]
    cases hp : p y <;> simp [hp, ih]

/-- An insertion into a list in order leaves it in order, for an asymmetric and negatively transitive comparison. -/
theorem insertBy_ordered (lt : α → α → Bool) (asymm : ∀ a b, lt a b = true → lt b a = false)
    (trans : ∀ a b c, lt a b = true → lt c b = false → lt c a = false) (x : α) (l : List α)
    (h : l.Pairwise fun a b => lt b a = false) : (insertBy lt x l).Pairwise fun a b => lt b a = false := by
  induction l with
  | nil => exact List.pairwise_singleton _ _
  | cons y ys ih =>
    obtain ⟨hy, hys⟩ := List.pairwise_cons.mp h
    unfold insertBy
    split
    · rename_i hlt
      refine List.pairwise_cons.mpr ⟨?_, h⟩
      intro z hz
      rcases List.mem_cons.mp hz with rfl | hz
      · exact asymm _ _ hlt
      · exact trans _ _ _ hlt (hy z hz)
    · rename_i hlt
      refine List.pairwise_cons.mpr ⟨?_, ih hys⟩
      intro z hz
      rcases (mem_insertBy lt x z ys).mp hz with rfl | hz
      · exact Bool.eq_false_iff.mpr hlt
      · exact hy z hz

theorem sortBy_perm (lt : α → α → Bool) (l : List α) : (sortBy lt l).Perm l := by
  have h : ∀ (l acc : List α), (l.foldl (fun acc x => insertBy lt x acc) acc).Perm (acc ++ l) := by
    intro l
    induction l with
    | nil => intro acc; simp
    | cons x xs ih =>
      intro acc
      refine (ih _).trans ?_
      refine ((insertBy_perm lt x acc).append_right xs).trans ?_
      exact List.perm_middle.symm
  exact h l []

/-- A sort leaves the list in order. -/
theorem sortBy_ordered (lt : α → α → Bool) (asymm : ∀ a b, lt a b = true → lt b a = false)
    (trans : ∀ a b c, lt a b = true → lt c b = false → lt c a = false) (l : List α) :
    (sortBy lt l).Pairwise fun a b => lt b a = false := by
  have h : ∀ (l acc : List α), (acc.Pairwise fun a b => lt b a = false) →
      (l.foldl (fun acc x => insertBy lt x acc) acc).Pairwise fun a b => lt b a = false := by
    intro l
    induction l with
    | nil => intro acc h; exact h
    | cons x xs ih => intro acc h; exact ih _ (insertBy_ordered lt asymm trans x acc h)
  exact h l [] .nil

/-! ### A free order -/

theorem insertAt_perm (n : Nat) (x : α) (l : List α) : (insertAt n x l).Perm (x :: l) := by
  induction l generalizing n with
  | nil => unfold insertAt; exact .refl _
  | cons y ys ih =>
    cases n with
    | zero => exact .refl _
    | succ m => exact ((ih m).cons y).trans (.swap x y ys)

theorem shuffle_perm (n : Nat) (l : List α) : (shuffle n l).Perm l := by
  induction l generalizing n with
  | nil => exact .refl _
  | cons x xs ih => exact (insertAt_perm _ x _).trans ((ih (n + 1)).cons x)

theorem mem_shuffle (n : Nat) (x : α) (l : List α) : x ∈ shuffle n l ↔ x ∈ l := (shuffle_perm n l).mem_iff

end Sys2Proof.Machine
end

