-- ==== Sys2Proof/Laws/Memory.lean ====
section
/-! SUPPORT. The memory's laws: every write keeps the canonical form, and a read gives what was written last. -/

namespace Sys2Proof.Machine.Memory

/-- A list canonical above `lo` is canonical above every lower bound. -/
theorem wfAbove_mono {m : List Host.Cell} {lo lo' : Nat} (h : wfAbove lo m) (hl : lo' ≤ lo) : wfAbove lo' m := by
  cases m with
  | nil => rfl
  | cons c rest =>
    simp only [wfAbove, Bool.and_eq_true, decide_eq_true_eq] at h ⊢
    exact ⟨⟨Nat.le_trans hl h.1.1, h.1.2⟩, h.2⟩

/-- Writing a cell at or above the bound keeps a list canonical above it. -/
theorem wfAbove_writeByte {m : List Host.Cell} {lo k : Nat} (v : Byte) (h : wfAbove lo m) (hk : lo ≤ k) :
    wfAbove lo (writeByte m k v) := by
  induction m generalizing lo with
  | nil => simp only [writeByte]; split <;> simp_all [wfAbove]
  | cons c rest ih =>
    obtain ⟨a, b⟩ := c
    simp only [wfAbove, Bool.and_eq_true, decide_eq_true_eq] at h
    obtain ⟨⟨hlo, hb⟩, hr⟩ := h
    simp only [writeByte]
    split
    · next hka =>
      split
      · simp [wfAbove, hlo, hb, hr]
      · next hv =>
        simp only [wfAbove, Bool.and_eq_true, decide_eq_true_eq]
        exact ⟨⟨hk, hv⟩, ⟨⟨by omega, hb⟩, hr⟩⟩
    · split
      · next hka =>
        split
        · exact wfAbove_mono hr (by omega)
        · next hv =>
          simp only [wfAbove, Bool.and_eq_true, decide_eq_true_eq]
          exact ⟨⟨by omega, hv⟩, by subst hka; exact hr⟩
      · simp only [wfAbove, Bool.and_eq_true, decide_eq_true_eq]
        exact ⟨⟨hlo, hb⟩, ih hr (by omega)⟩

/-- A byte write keeps the canonical form. -/
theorem wf_writeByte {m : List Host.Cell} (k : Nat) (v : Byte) (h : wf m) : wf (writeByte m k v) :=
  wfAbove_writeByte v h (Nat.zero_le k)

/-- A write of the enabled lanes keeps the canonical form. -/
theorem wf_writeLanes {m : List Host.Cell} (a : Nat) (v : Word) (l : Lanes) (h : wf m) : wf (writeLanes m a v l) := by
  cases l
  · exact wf_writeByte _ _ (wf_writeByte _ _ h)
  · exact wf_writeByte _ _ h
  · exact wf_writeByte _ _ h

/-- Below the bound a canonical list holds nothing. -/
theorem readByte_below {m : List Host.Cell} {lo k : Nat} (h : wfAbove lo m) (hk : k < lo) :
    readByte m k = Config.unlistedByte := by
  induction m generalizing lo with
  | nil => rfl
  | cons c rest ih =>
    obtain ⟨a, b⟩ := c
    simp only [wfAbove, Bool.and_eq_true, decide_eq_true_eq] at h
    rw [readByte, if_neg (by omega)]
    exact ih h.2 (by omega)

/-- What a byte reads as after a byte write to a list canonical above `lo`. -/
theorem readByte_writeByte_above {m : List Host.Cell} {lo : Nat} (k : Nat) (v : Byte) (j : Nat) (h : wfAbove lo m) :
    readByte (writeByte m k v) j = if j = k then v else readByte m j := by
  induction m generalizing lo with
  | nil =>
    simp only [writeByte]
    split
    · next hv => by_cases hj : j = k <;> simp [readByte, hj, hv]
    · by_cases hj : k = j
      · simp [readByte, hj]
      · simp [readByte, hj, Ne.symm hj]
  | cons c rest ih =>
    obtain ⟨a, b⟩ := c
    simp only [wfAbove, Bool.and_eq_true, decide_eq_true_eq] at h
    obtain ⟨⟨hlo, hb⟩, hr⟩ := h
    simp only [writeByte]
    split
    · next hka =>
      split
      · next hv =>
        by_cases hj : j = k
        · subst hj
          rw [if_pos rfl, readByte, if_neg (by omega), readByte_below hr (by omega), hv]
        · rw [if_neg hj]
      · by_cases hj : k = j
        · subst hj; simp [readByte]
        · rw [readByte, if_neg hj, if_neg (Ne.symm hj)]
    · split
      · next hka =>
        subst hka
        split
        · next hv =>
          by_cases hj : j = k
          · subst hj
            rw [if_pos rfl, readByte_below hr (by omega), hv]
          · rw [if_neg hj, readByte, if_neg (Ne.symm hj)]
        · by_cases hj : k = j
          · subst hj; simp [readByte]
          · rw [readByte, if_neg hj, if_neg (Ne.symm hj), readByte, if_neg hj]
      · next h1 h2 =>
        rw [readByte, readByte]
        by_cases hj : a = j
        · rw [if_pos hj, if_pos hj, if_neg (by omega)]
        · rw [if_neg hj, if_neg hj, ih hr]

/-- What a byte reads as after a byte write. -/
theorem readByte_writeByte {m : List Host.Cell} (h : wf m) (k : Nat) (v : Byte) (j : Nat) :
    readByte (writeByte m k v) j = if j = k then v else readByte m j := readByte_writeByte_above k v j h

/-- A word is its two bytes. -/
theorem hiByte_append_loByte (v : Word) : hiByte v ++ loByte v = v := by
  apply BitVec.eq_of_getLsbD_eq
  intro i hi
  rw [BitVec.getLsbD_append]
  simp only [hiByte, loByte, BitVec.getLsbD_extractLsb']
  by_cases h8 : i < 8
  · simp [h8]
  · have : i - 8 < 8 := by omega
    simp [h8, this, show 8 + (i - 8) = i by omega]

/-- A word reads as it was written. -/
theorem readWord_writeLanes_same {m : List Host.Cell} (h : wf m) (a : Nat) (v : Word) :
    readWord (writeLanes m a v .both) a = v := by
  have h1 := wf_writeByte (2 * a) (hiByte v) h
  simp only [readWord, writeLanes]
  rw [readByte_writeByte h1, readByte_writeByte h, readByte_writeByte h1, if_neg (by omega), if_pos rfl, if_pos rfl]
  exact hiByte_append_loByte v

/-- A write leaves every other word as it was. -/
theorem readWord_writeLanes_other {m : List Host.Cell} (h : wf m) {a b : Nat} (v : Word) (l : Lanes) (hab : b ≠ a) :
    readWord (writeLanes m a v l) b = readWord m b := by
  have h1 := wf_writeByte (2 * a) (hiByte v) h
  cases l <;> simp only [readWord, writeLanes]
  · rw [readByte_writeByte h1, readByte_writeByte h, readByte_writeByte h1, readByte_writeByte h, if_neg (by omega),
      if_neg (by omega), if_neg (by omega), if_neg (by omega)]
  · rw [readByte_writeByte h, readByte_writeByte h, if_neg (by omega), if_neg (by omega)]
  · rw [readByte_writeByte h, readByte_writeByte h, if_neg (by omega), if_neg (by omega)]

end Sys2Proof.Machine.Memory
end

