-- ==== Sys2Proof/Laws/Ops.lean ====
section
/-! SUPPORT. What the shared operations do, each in one equation between records. -/

namespace Sys2Proof.Machine

variable (s : State)

/-! ### Flags, counters, input events, command results -/

theorem State.raise_eq (f : Flag) : s.raise f = { s with rep := s.rep.raised f } := rfl

theorem State.count_eq (c : Counter) (n : Nat) : s.count c n = { s with rep := s.rep.counted c n } := rfl

theorem State.panelFault_eq : s.panelFault = { s with rep := (s.rep.counted .panelFault 1).raised .panelFault } := rfl

theorem State.dropBusy_eq : s.dropBusy = { s with rep := (s.rep.counted .busyWrite 1).raised .writeDropped } := rfl

theorem State.dropProtected_eq : s.dropProtected = { s with rep := (s.rep.counted .protectedWrite 1).raised .writeDropped } := rfl

theorem State.commandDone_eq (c : Settings) (v : Word) :
    s.commandDone c v = { s with rep := s.rep.answered c Code.done v } := rfl

theorem State.commandRefused_eq (c : Settings) (v : Word) :
    s.commandRefused c v = { s with rep := s.rep.answered c Code.refused v } := rfl

theorem State.pushInput_eq (k : InputKind) (d : Option Nat) (p : Product) (f : Nat) :
    s.pushInput k d p f = { s with rep := s.rep.tookInput k d p f s.clk.upSec } := by
  by_cases h : (s.rep.inWrite + 16 - s.rep.inRead) % 16 < 8
  · have e : s.rep.tookInput k d p f s.clk.upSec = { s.rep with
        entries := s.rep.entries.set (s.rep.inWrite % 8) (inputEntry k d p f s.clk.upSec)
        inWrite := (s.rep.inWrite + 1) % 16, unshown := s.rep.unshown + 1 } := if_pos h
    rw [e]; exact if_pos h
  · have e : s.rep.tookInput k d p f s.clk.upSec = (s.rep.counted .inputLost 1).raised .inputLost := if_neg h
    rw [e]; exact if_neg h

/-! ### Deadlines -/

theorem State.reached_some (d : Nat) : s.reached (some d) = decide (d ≤ s.clk.upSec) := rfl

theorem State.reached_none : s.reached none = false := rfl

/-! ### Rebuild marks -/

theorem State.markRows_none (scr : Screen) (rows : List Nat) (h : s.cfg = none) : s.markRows scr rows = s :=
  if_neg (by rw [h]; exact Bool.false_ne_true)

theorem State.markRows_some (scr : Screen) (rows : List Nat) (c : Settings) (h : s.cfg = some c) :
    s.markRows scr rows = { s with board := s.board.modText scr (·.marked rows) } :=
  if_pos (by rw [h]; rfl)

theorem State.markNotices_eq : s.markNotices = { s with board := s.noticesMarked s.board } := by
  rcases Option.eq_none_or_eq_some s.cfg with h | ⟨c, h⟩
  · have e : s.noticesMarked s.board = s.board := if_neg (by rw [h]; exact Bool.false_ne_true)
    rw [e]
    simp only [State.markNotices, State.markBoth, State.markRows_none s _ _ h]
  · have e : s.noticesMarked s.board = { s.board with a := s.board.a.marked [4], b := s.board.b.marked [4] } :=
      if_pos (by rw [h]; rfl)
    rw [e, State.markNotices, State.markBoth, State.markRows_some s _ _ c h]
    exact State.markRows_some _ .b [4] c h

/-! ### The issue unit -/

theorem State.setRecord_eq (slot : Nat) (r : QuoteRec) :
    s.setRecord slot r = { s with issue := { s.issue with records := s.issue.records.set slot r } } := rfl

theorem State.issueWrites_eq (accs : List Acc) :
    s.issueWrites accs = { s with issue := { s.issue with accs := s.issue.accs ++ accs } } := rfl

/-! ### The windows (R175, R194) -/

theorem inRegion_iff (a base len : Nat) : inRegion a base len = true ↔ base ≤ a ∧ a < base + len := by
  unfold inRegion
  rw [Bool.and_eq_true, decide_eq_true_eq, decide_eq_true_eq]

theorem inRegion_false_iff (a base len : Nat) : inRegion a base len = false ↔ ¬ (base ≤ a ∧ a < base + len) := by
  rw [Bool.eq_false_iff, ne_eq, inRegion_iff]

/-- Where the watched windows of fitting settings lie: in memory, behind or before the load area, and apart from each other. -/
theorem Settings.windowsFit.places {c : Settings} (h : c.windowsFit) :
    (c.win.intake ≤ 1048320 ∧ c.win.sale ≤ 1048512 ∧ c.win.report ≤ 1048512) ∧
    ((3072 ≤ c.win.intake ∨ c.win.intake ≤ 768) ∧ (3072 ≤ c.win.sale ∨ c.win.sale ≤ 960) ∧ (3072 ≤ c.win.report ∨ c.win.report ≤ 960)) ∧
    (c.win.intake + 256 ≤ c.win.sale ∨ c.win.sale + 64 ≤ c.win.intake) ∧
    (c.win.intake + 256 ≤ c.win.report ∨ c.win.report + 64 ≤ c.win.intake) ∧
    (c.win.intake + 256 ≤ c.win.journal ∨ c.win.journal + (16 + 14 * c.win.jsize) ≤ c.win.intake) ∧
    (c.win.sale + 64 ≤ c.win.report ∨ c.win.report + 64 ≤ c.win.sale) ∧
    (c.win.sale + 64 ≤ c.win.journal ∨ c.win.journal + (16 + 14 * c.win.jsize) ≤ c.win.sale) ∧
    (c.win.report + 64 ≤ c.win.journal ∨ c.win.journal + (16 + 14 * c.win.jsize) ≤ c.win.report) := by
  have h : windowsOk c.win = true := h
  simp [windowsOk, Windows.regions, allApart, regionFits, regionsApart, loadRegion, Config.loadWord, Config.maxAddr] at h
  obtain ⟨⟨f1, f2, f3, -⟩, ⟨l1, l2, l3, -⟩, ⟨i1, i2, i3, -⟩, ⟨s1, s2, -⟩, ⟨r1, -⟩, -⟩ := h
  exact ⟨⟨f1, f2, f3⟩, ⟨l1, l2, l3⟩, i1, i2, i3, s1, s2, r1⟩

/-- A word of the intake window lies outside the load area and the other watched windows. -/
theorem Settings.windowsFit.intake {c : Settings} (h : c.windowsFit) {x : Nat} (hx : inRegion x c.win.intake 256 = true) :
    ¬ (0x400 ≤ x ∧ x < 0xC00) ∧ x < 1048576 ∧ inRegion x c.win.sale 64 = false ∧ inRegion x c.win.report 64 = false ∧
    inRegion x c.win.journal (16 + 14 * c.win.jsize) = false := by
  have p := h.places
  simp only [inRegion_iff, inRegion_false_iff] at hx ⊢
  omega

/-- A word of the sale window lies outside the load area and the other watched windows. -/
theorem Settings.windowsFit.sale {c : Settings} (h : c.windowsFit) {x : Nat} (hx : inRegion x c.win.sale 64 = true) :
    ¬ (0x400 ≤ x ∧ x < 0xC00) ∧ x < 1048576 ∧ inRegion x c.win.intake 256 = false ∧ inRegion x c.win.report 64 = false ∧
    inRegion x c.win.journal (16 + 14 * c.win.jsize) = false := by
  have p := h.places
  simp only [inRegion_iff, inRegion_false_iff] at hx ⊢
  omega

/-- A word of the report window lies outside the load area and the other watched windows. -/
theorem Settings.windowsFit.report {c : Settings} (h : c.windowsFit) {x : Nat} (hx : inRegion x c.win.report 64 = true) :
    ¬ (0x400 ≤ x ∧ x < 0xC00) ∧ x < 1048576 ∧ inRegion x c.win.intake 256 = false ∧ inRegion x c.win.sale 64 = false ∧
    inRegion x c.win.journal (16 + 14 * c.win.jsize) = false := by
  have p := h.places
  simp only [inRegion_iff, inRegion_false_iff] at hx ⊢
  omega

/-! ### The host's cycles (R174, R181) -/

theorem State.someUrgent_path (p : Path) : ({ s with path := p } : State).someUrgent = s.someUrgent := rfl

/-- A cycle that takes a part cycle, presented while the port is free, is taken at once. -/
theorem State.present_free (c : HostCycle) (h : s.portFree) (hc : s.noCycle c = false) :
    s.present c =
      (let t := ({ s with path := { s.path with waiting := [c] } } : State).takeCycle c
       { t with path := { t.path with waiting := [], hold := 0 } }) := by
  obtain ⟨h1, h2, h3, h4⟩ := h
  have e : s.queueCycle c = { s with path := { s.path with waiting := [c] } } := by
    simp only [State.queueCycle, h3, List.nil_append, State.settleHost, hc]; rfl
  have u : ({ s with path := { s.path with waiting := [c] } } : State).someUrgent = false := h4
  simp only [State.present, h1, h2, e, u]
  rfl

/-- A cycle that takes no part cycle, presented while none waits, is taken at once. -/
theorem State.present_taken (c : HostCycle) (h1 : s.power.main = true) (h3 : s.path.waiting = []) (hc : s.noCycle c = true) :
    s.present c = { s.takeCycle c with path := { (s.takeCycle c).path with waiting := [], hold := 0 } } := by
  have e : s.queueCycle c = { s.takeCycle c with path := { (s.takeCycle c).path with waiting := [], hold := 0 } } := by
    simp only [State.queueCycle, h3, List.nil_append, State.settleHost, hc]; rfl
  simp only [State.present, h1, e, if_true]
  split
  · rfl
  · rfl

/-! ### The requesters' cycles (R182) -/

/-- A requester's turn, as the arbiter finds it. -/
theorem State.turnOf_iff (r : Requester) (x : Access) : s.turnOf r x ↔ s.wants r = some x ∧ s.firstWaiting = some r := by
  unfold State.turnOf State.firstWaiting
  rw [List.find?_eq_some_iff_getElem]
  constructor
  · rintro ⟨hw, i, hi, hj⟩
    obtain ⟨hl, he⟩ := List.getElem?_eq_some_iff.mp hi
    refine ⟨hw, by simp [hw], i, hl, he, fun j hji => ?_⟩
    have hjl : j < Requester.order.length := by omega
    simp [hj j Requester.order[j] hji (List.getElem?_eq_getElem hjl)]
  · rintro ⟨hw, _, i, hl, he, hj⟩
    refine ⟨hw, i, List.getElem?_eq_some_iff.mpr ⟨hl, he⟩, fun j q hji hq => ?_⟩
    obtain ⟨hjl, rfl⟩ := List.getElem?_eq_some_iff.mp hq
    simpa using hj j hji

/-- The part cycle of the requester whose turn it is. -/
theorem State.partCycle_turn (r : Requester) (x : Access) (hr : s.power.reset = false) (hw : s.path.waiting = [])
    (h : s.turnOf r x) : s.partCycle = s.serve r := by
  have e := ((s.turnOf_iff r x).mp h).2
  simp [State.partCycle, State.grant, hw, hr, e]

/-- What serving a requester does while no host cycle waits before or after it. -/
theorem State.serve_eq (r : Requester) (x : Access) (h : s.wants r = some x)
    (hw : ((s.landed x).served r (s.fetched x)).path.waiting = []) :
    s.serve r = (((s.landed x).served r (s.fetched x)).setHold 0).settleLoad := by
  simp [State.serve, h, State.countHold, hw]

/-! ### The report writer (R188, R190) -/

/-- The pending flags word is due. -/
theorem State.flagsDue_iff : s.wordDue 0 = true ↔ s.rep.written.getD 0 none ≠ some s.rep.flags ∨ 0 ∈ s.rep.extra := by
  simp [State.wordDue, State.extraDue, partWritten, State.reportValue]

/-- The pending flags word is taken before every other word of the block. -/
theorem State.nextWord_flags (h : s.wordDue 0 = true) : s.nextWord = some 0 := by
  simp [State.nextWord, reportOrder, List.range_succ, h]

/-- The pending flags word is taken before the accesses of a command. -/
theorem State.commandNext_flags (h : s.wordDue 0 = true) : s.commandNext = .idle := if_pos h

/-- With the pending flags word not due the command in work comes next. -/
theorem State.commandNext_command (h : s.wordDue 0 = false) : s.commandNext = s.rep.command :=
  if_neg (by rw [h]; exact Bool.false_ne_true)

/-- With a descriptor in force, a writer that waits for an access waits for the next command's, or for a word of the block. -/
theorem State.reportWants_some (x : Access) (c : Settings) (hc : s.cfg = some c) (h : s.reportWants = some x) :
    s.loader.stage.starting = false ∧
    (match s.commandNext with
    | .fetching _ got => some (.read (c.win.reportWord (5 + got.length)))
    | .answering accs => nextWrite accs
    | _ => s.blockWants c) = some x := by
  cases hs : s.loader.stage.starting with
  | true => simp [State.reportWants, hs] at h
  | false =>
    refine ⟨rfl, ?_⟩
    rw [State.reportWants, hs, hc] at h
    cases hk : s.commandNext <;> rw [hk] at h <;> exact h

/-- What the landing of a write of the command in work leaves: the result word with its record, or the end of the command. -/
theorem State.reportServed_answering (c : Settings) (w : Word) (a : Acc) (rest : List Acc) (h : s.wordDue 0 = false)
    (hk : s.rep.command = .answering (a :: rest)) :
    s.reportServed c w = if rest = [] then s.commandLanded else s.resultLanded a.val rest := by
  rw [State.reportServed, s.commandNext_command h, hk]
  cases rest <;> rfl

/-- An acceptance that is not in work does not go on. -/
theorem State.settleLoad_idle (h : s.loader.stage = .idle) : s.settleLoad = s := by
  unfold State.settleLoad
  rw [h]
  cases s.cfg <;> rfl

/-- A reload waits for a ticket in just its first stage. -/
theorem LoaderStage.ticketWait_iff (g : LoaderStage) : g.ticketWait = true ↔ ∃ next late, g = .reloadTicket next late := by
  cases g <;> simp [LoaderStage.ticketWait, LoaderStage.stopsIssue, LoaderStage.finishing]

/-- The slots a reload holds are those posted while it waits for a ticket. -/
theorem LoaderStage.holds_iff (g : LoaderStage) (slot : Nat) :
    g.holds slot = true ↔ ∃ next late, g = .reloadTicket next late ∧ slot ∈ late := by
  cases g with
  | reloadTicket next late =>
    simp only [LoaderStage.holds, List.contains_iff_mem]
    exact ⟨fun h => ⟨next, late, rfl, h⟩, fun ⟨_, _, e, h⟩ => (LoaderStage.reloadTicket.inj e).2 ▸ h⟩
  | _ => simp [LoaderStage.holds]

/-- A slot posted while a reload waits for a ticket is held. -/
theorem LoaderStage.holds_noteSlot (g : LoaderStage) (slot : Nat) (h : g.ticketWait = true) : (g.noteSlot slot).holds slot = true := by
  obtain ⟨next, late, rfl⟩ := (LoaderStage.ticketWait_iff g).mp h
  simp [LoaderStage.noteSlot, LoaderStage.holds]

/-! ### The commands of a crystal cycle -/

theorem haltFirst_iff (q : List Instr) :
    haltFirst q = true ↔ ∃ x y, q = x ++ .haltSecond :: y ∧ Instr.stalenessRetest ∈ y := by
  induction q with
  | nil => simp [haltFirst]
  | cons i rest ih =>
    unfold haltFirst
    by_cases h : i = .haltSecond
    · subst h
      simp only [if_true, List.contains_iff_mem]
      constructor
      · intro hm; exact ⟨[], rest, rfl, hm⟩
      · rintro ⟨x, y, e, hy⟩
        cases x with
        | nil => simp at e; exact e ▸ hy
        | cons a x => simp at e; rw [e.2]; simp [hy]
    · rw [if_neg h, ih]
      constructor
      · rintro ⟨x, y, rfl, hy⟩; exact ⟨i :: x, y, rfl, hy⟩
      · rintro ⟨x, y, e, hy⟩
        cases x with
        | nil => simp at e; exact absurd e.1 h
        | cons a x => simp at e; exact ⟨x, y, e.2, hy⟩

end Sys2Proof.Machine
end

