-- ==== Sys2Proof/Laws/Announcer.lean ====
section
/-! SUPPORT. What the announcer's operations depend on and what the other blocks leave of it: `AnnAlike`, its congruence under a
request handed or withdrawn, and its keeping by everything else that an evaluation does. -/

namespace Sys2Proof.Machine

/-- The announcer takes requests alike in two states: they agree on its queue, its current announcement and its supply-low state,
and on what a phrase is resolved against. -/
structure AnnAlike (s t : State) : Prop where
  queue : t.ann.queue = s.ann.queue
  current : t.ann.current = s.ann.current
  supplyLow : t.ann.supplyLow = s.ann.supplyLow
  cfg : t.cfg = s.cfg
  table : t.table = s.table
  bat : t.bat = s.bat
  mem : t.mem = s.mem

variable {s t : State}

theorem AnnAlike.refl (s : State) : AnnAlike s s := ⟨rfl, rfl, rfl, rfl, rfl, rfl, rfl⟩

theorem AnnAlike.symm (h : AnnAlike s t) : AnnAlike t s :=
  ⟨h.1.symm, h.2.symm, h.3.symm, h.4.symm, h.5.symm, h.6.symm, h.7.symm⟩

theorem AnnAlike.trans {u : State} (h : AnnAlike s t) (k : AnnAlike t u) : AnnAlike s u :=
  ⟨k.1.trans h.1, k.2.trans h.2, k.3.trans h.3, k.4.trans h.4, k.5.trans h.5, k.6.trans h.6, k.7.trans h.7⟩

/-- `AnnAlike` along a fold. -/
theorem AnnAlike.foldl {α : Type} {l : List α} {f : State → α → State} (hf : ∀ t x, AnnAlike s t → AnnAlike s (f t x))
    (h : AnnAlike s t) : AnnAlike s (l.foldl f t) := by
  induction l generalizing t with
  | nil => exact h
  | cons x xs ih => exact ih (hf t x h)

/-! ### What leaves the announcer's requests alone -/

theorem AnnAlike.modPanel (f : Panel → Panel) (h : AnnAlike s t) : AnnAlike s (t.modPanel f) :=
  ⟨h.1, h.2, h.3, h.4, h.5, h.6, h.7⟩

theorem AnnAlike.modSel (f : Selection → Selection) (h : AnnAlike s t) : AnnAlike s (t.modSel f) :=
  ⟨h.1, h.2, h.3, h.4, h.5, h.6, h.7⟩

theorem AnnAlike.modBoard (f : Board → Board) (h : AnnAlike s t) : AnnAlike s (t.modBoard f) :=
  ⟨h.1, h.2, h.3, h.4, h.5, h.6, h.7⟩

theorem AnnAlike.modAct (f : Activity → Activity) (h : AnnAlike s t) : AnnAlike s (t.modAct f) :=
  ⟨h.1, h.2, h.3, h.4, h.5, h.6, h.7⟩

theorem AnnAlike.modIssue (f : IssueUnit → IssueUnit) (h : AnnAlike s t) : AnnAlike s (t.modIssue f) :=
  ⟨h.1, h.2, h.3, h.4, h.5, h.6, h.7⟩

theorem AnnAlike.modRep (f : ReportUnit → ReportUnit) (h : AnnAlike s t) : AnnAlike s (t.modRep f) :=
  ⟨h.1, h.2, h.3, h.4, h.5, h.6, h.7⟩

theorem AnnAlike.modClk (f : HaltClock → HaltClock) (h : AnnAlike s t) : AnnAlike s (t.modClk f) :=
  ⟨h.1, h.2, h.3, h.4, h.5, h.6, h.7⟩

theorem AnnAlike.drawn (h : AnnAlike s t) : AnnAlike s (t.drawn) := ⟨h.1, h.2, h.3, h.4, h.5, h.6, h.7⟩

theorem AnnAlike.setDueCount (n : Nat) (h : AnnAlike s t) : AnnAlike s (t.setDueCount n) := ⟨h.1, h.2, h.3, h.4, h.5, h.6, h.7⟩

theorem AnnAlike.raise (f : Flag) (h : AnnAlike s t) : AnnAlike s (t.raise f) := ⟨h.1, h.2, h.3, h.4, h.5, h.6, h.7⟩

theorem AnnAlike.count (c : Counter) (n : Nat) (h : AnnAlike s t) : AnnAlike s (t.count c n) :=
  ⟨h.1, h.2, h.3, h.4, h.5, h.6, h.7⟩

/-- The volume is no part of what a request meets. -/
theorem AnnAlike.volume (v : Nat) (h : AnnAlike s t) : AnnAlike s (t.modAnn fun n => { n with volume := v }) :=
  ⟨h.1, h.2, h.3, h.4, h.5, h.6, h.7⟩

theorem AnnAlike.markRows (scr : Screen) (rows : List Nat) (h : AnnAlike s t) : AnnAlike s (t.markRows scr rows) := by
  unfold State.markRows
  try dsimp only
  repeat' (with_reducible first | assumption | apply AnnAlike.modBoard | split)

theorem AnnAlike.markBoth (rows : List Nat) (h : AnnAlike s t) : AnnAlike s (t.markBoth rows) := by
  unfold State.markBoth
  try dsimp only
  repeat' (with_reducible first | assumption | apply AnnAlike.markRows)

theorem AnnAlike.markDepartures (h : AnnAlike s t) : AnnAlike s (t.markDepartures) := by
  unfold State.markDepartures
  try dsimp only
  repeat' (with_reducible first | assumption | apply AnnAlike.markBoth)

theorem AnnAlike.boardMode (old new : Mode) (h : AnnAlike s t) : AnnAlike s (t.boardMode old new) := by
  unfold State.boardMode
  try dsimp only
  repeat' (with_reducible first | assumption | apply AnnAlike.modBoard | split)

theorem AnnAlike.setMode (m : Mode) (h : AnnAlike s t) : AnnAlike s (t.setMode m) := by
  unfold State.setMode
  try dsimp only
  repeat' (with_reducible first | assumption | apply AnnAlike.boardMode | apply AnnAlike.modPanel | apply AnnAlike.modAct | apply AnnAlike.volume | split)

theorem AnnAlike.setDeadline (d : Option Nat) (h : AnnAlike s t) : AnnAlike s (t.setDeadline d) := by
  unfold State.setDeadline
  try dsimp only
  repeat' (with_reducible first | assumption | apply AnnAlike.modAct)

theorem AnnAlike.activityEvent (h : AnnAlike s t) : AnnAlike s (t.activityEvent) := by
  unfold State.activityEvent
  try dsimp only
  repeat' (with_reducible first | assumption | apply AnnAlike.setMode | apply AnnAlike.setDeadline | split)

theorem AnnAlike.floorOn (h : AnnAlike s t) : AnnAlike s (t.floorOn) := by
  unfold State.floorOn
  try dsimp only
  repeat' (with_reducible first | assumption | apply AnnAlike.setMode | apply AnnAlike.setDeadline | apply AnnAlike.modAct | split)

theorem AnnAlike.floorOff (h : AnnAlike s t) : AnnAlike s (t.floorOff) := by
  unfold State.floorOff
  try dsimp only
  repeat' (with_reducible first | assumption | apply AnnAlike.setDeadline | apply AnnAlike.modAct | split)

theorem AnnAlike.syncDue (h : AnnAlike s t) : AnnAlike s (t.syncDue) := by
  unfold State.syncDue
  try dsimp only
  repeat' (with_reducible first | assumption | apply AnnAlike.floorOn | apply AnnAlike.floorOff | apply AnnAlike.setDueCount | split)

theorem AnnAlike.setRecord (slot : Nat) (r : QuoteRec) (h : AnnAlike s t) : AnnAlike s (t.setRecord slot r) := by
  unfold State.setRecord
  try dsimp only
  repeat' (with_reducible first | assumption | apply AnnAlike.modIssue)

theorem AnnAlike.issueWrites (accs : List Acc) (h : AnnAlike s t) : AnnAlike s (t.issueWrites accs) := by
  unfold State.issueWrites
  try dsimp only
  repeat' (with_reducible first | assumption | apply AnnAlike.modIssue)

theorem AnnAlike.voidSlot (slot : Nat) (why : VoidReason) (h : AnnAlike s t) : AnnAlike s (t.voidSlot slot why) := by
  unfold State.voidSlot
  try dsimp only
  repeat' (with_reducible first | assumption | apply AnnAlike.setRecord | apply AnnAlike.issueWrites | split)

theorem AnnAlike.voidBound (who : TrainId) (h : AnnAlike s t) : AnnAlike s (t.voidBound who) := by
  unfold State.voidBound
  try dsimp only
  repeat' (with_reducible first | assumption | apply AnnAlike.voidSlot | (apply AnnAlike.foldl; intro _ _ _) | split)

theorem AnnAlike.syncLeave (entered : Bool) (h : AnnAlike s t) : AnnAlike s (t.syncLeave entered) := by
  unfold State.syncLeave
  try dsimp only
  repeat' (with_reducible first | assumption | apply AnnAlike.modSel | split)

theorem AnnAlike.fareEvent (h : AnnAlike s t) : AnnAlike s (t.fareEvent) := by
  unfold State.fareEvent
  try dsimp only
  repeat' (with_reducible first | assumption | apply AnnAlike.markRows)

theorem AnnAlike.setSel (new : Selection) (h : AnnAlike s t) : AnnAlike s (t.setSel new) := by
  unfold State.setSel
  try dsimp only
  repeat' (with_reducible first | assumption | apply AnnAlike.markRows | apply AnnAlike.activityEvent | apply AnnAlike.syncLeave | apply AnnAlike.fareEvent | apply AnnAlike.modSel | split)

theorem AnnAlike.adjustSel (c : Settings) (h : AnnAlike s t) : AnnAlike s (t.adjustSel c) := by
  unfold State.adjustSel
  try dsimp only
  repeat' (with_reducible first | assumption | apply AnnAlike.setSel | split)

theorem AnnAlike.recomputeList (h : AnnAlike s t) : AnnAlike s (t.recomputeList) := by
  unfold State.recomputeList
  try dsimp only
  repeat' (with_reducible first | assumption | apply AnnAlike.fareEvent | apply AnnAlike.adjustSel | apply AnnAlike.modPanel | split)

/-! ### What a request does depends on nothing else -/

theorem AnnAlike.resolve (h : AnnAlike s t) (c : Settings) (r : AnnReq) : t.resolve c r = s.resolve c r := by
  have hp : ∀ a, t.peek a = s.peek a := fun a => by rw [State.peek, State.peek, h.mem]
  have he : ∀ w, t.entry? w = s.entry? w := fun w => by rw [State.entry?, State.entry?, h.table]
  have hc : ∀ e w, t.itemClip c e w = s.itemClip c e w := fun e w => by unfold State.itemClip; simp only [hp, h.bat]
  unfold State.resolve
  simp only [hp, hc]
  rw [show t.entry? = s.entry? from funext he]

theorem AnnAlike.startFrom (c : Settings) (q : List AnnReq) (h : AnnAlike s t) :
    AnnAlike (s.startFrom c q) (t.startFrom c q) := by
  induction q with
  | nil => exact ⟨rfl, h.2, h.3, h.4, h.5, h.6, h.7⟩
  | cons r rs ih =>
    unfold State.startFrom
    rw [h.resolve]
    cases startOf c r (s.resolve c r) with
    | none => exact ih
    | some a => exact ⟨rfl, rfl, h.3, h.4, h.5, h.6, h.7⟩

theorem AnnAlike.startNext (h : AnnAlike s t) : AnnAlike s.startNext t.startNext := by
  unfold State.startNext
  rw [h.cfg, h.current, h.queue]
  cases s.cfg with
  | none => exact h
  | some c =>
    cases s.ann.current with
    | none => exact h.startFrom c _
    | some a => exact h

theorem AnnAlike.endAnnouncement (h : AnnAlike s t) : AnnAlike s.endAnnouncement t.endAnnouncement :=
  startNext ⟨h.1, rfl, h.3, h.4, h.5, h.6, h.7⟩

theorem AnnAlike.cut (why : CutCause) (h : AnnAlike s t) : AnnAlike (s.cut why) (t.cut why) := by
  unfold State.cut
  rw [h.current]
  cases s.ann.current with
  | none => exact h
  | some a =>
    dsimp only
    rcases hc : a.cut with _ | y
    · dsimp only
      by_cases hw : why = .preempted
      all_goals simp only [hw, if_true, if_false]
      all_goals by_cases hp : a.playing = true
      all_goals simp only [hp, if_true, if_false, Bool.false_eq_true]
      · exact ⟨h.1, rfl, h.3, h.4, h.5, h.6, h.7⟩
      · exact endAnnouncement ⟨h.1, rfl, h.3, h.4, h.5, h.6, h.7⟩
      · exact ⟨h.1, rfl, h.3, h.4, h.5, h.6, h.7⟩
      · exact endAnnouncement ⟨h.1, rfl, h.3, h.4, h.5, h.6, h.7⟩
    · exact h

theorem AnnAlike.takeRequest (r : AnnReq) (h : AnnAlike s t) : AnnAlike (s.takeRequest r) (t.takeRequest r) := by
  unfold State.takeRequest
  rw [h.queue]
  have k : AnnAlike ((s.modAnn fun n => { n with queue := (placeRequest s.ann.queue r).1 }).count .annDrop (placeRequest s.ann.queue r).2.2)
      ((t.modAnn fun n => { n with queue := (placeRequest s.ann.queue r).1 }).count .annDrop (placeRequest s.ann.queue r).2.2) :=
    ⟨rfl, h.2, h.3, h.4, h.5, h.6, h.7⟩
  dsimp only
  have ho : ∀ {u v : State}, AnnAlike u v → v.outranked = u.outranked := fun g => by unfold State.outranked; rw [g.current, g.queue]
  rw [ho k]
  split
  · exact (k.cut _).startNext
  · exact k.startNext

theorem AnnAlike.handRequest (k : AnnKind) (who : TrainId) (h : AnnAlike s t) :
    AnnAlike (s.handRequest k who) (t.handRequest k who) := by
  unfold State.handRequest
  rw [h.supplyLow]
  split
  · exact ⟨h.1, h.2, h.3, h.4, h.5, h.6, h.7⟩
  · exact h.takeRequest _

theorem AnnAlike.withdrawQueued (who : TrainId) (kinds : List AnnKind) (h : AnnAlike s t) :
    AnnAlike (s.withdrawQueued who kinds) (t.withdrawQueued who kinds) :=
  ⟨congrArg (List.filter _) h.1, h.2, h.3, h.4, h.5, h.6, h.7⟩

theorem AnnAlike.cutFor (who : TrainId) (kinds : List AnnKind) (h : AnnAlike s t) :
    AnnAlike (s.cutFor who kinds) (t.cutFor who kinds) := by
  unfold State.cutFor
  rw [h.current]
  cases s.ann.current with
  | none => exact h
  | some a =>
    dsimp only
    split
    · exact h.cut _
    · exact h

theorem AnnAlike.annCancelled (who : TrainId) (h : AnnAlike s t) : AnnAlike (s.annCancelled who) (t.annCancelled who) :=
  (h.withdrawQueued who _).cutFor who _

/-- What an evaluation hands the announcer: the phase events of the entry, then the DELAY request (R54 to R56). -/
theorem State.evalEntry_announcer (s : State) (c : Settings) (old cur : Entry) (after : EvalAfter) (stepped : Bool) :
   let new := cur.evaluated s.bat c.proj s.nowSec old after stepped
   let u := s.setTable (replaceEntry s.bat s.table old new)
   let delay : Prop := (stepped && delayDue c.proj old.hm { new with delayAnn := cur.delayAnn }) = true
   ∃ v, AnnAlike v (s.evalEntry c old cur after stepped) ∧
     ∃ w, v = (if delay then w.handRequest .delay new.who else w) ∧
     (old.phase = new.phase → AnnAlike u w) ∧
     (old.phase ≠ new.phase → new.phase = .due → AnnAlike (if cur.dueAnn then u else u.handRequest .due new.who) w) ∧
     (old.phase ≠ new.phase → new.phase = .waiting → AnnAlike (if old.phase = .due then u.withdrawQueued new.who [.due] else u) w) ∧
     (old.phase ≠ new.phase → new.phase = .departed → AnnAlike (u.withdrawQueued new.who [.due, .delay]) w) ∧
     (old.phase ≠ new.phase → new.phase = .cancelled →
        AnnAlike ((u.handRequest .cancel new.who).annCancelled new.who) w ∨
          AnnAlike ((u.annCancelled new.who).handRequest .cancel new.who) w) := by
  intro new u delay
  have hu : AnnAlike u u.syncDue := .syncDue (.refl u)
  refine ⟨_, ?_, u.syncDue.phaseEvents old.phase cur.dueAnn new, rfl, ?_, ?_, ?_, ?_, ?_⟩
  · show AnnAlike _ (if _ then State.markDepartures (if delay then _ else _) else (if delay then _ else _))
    split <;> split <;> first | exact .markDepartures (.refl _) | exact .refl _
  · intro h; unfold State.phaseEvents; rw [if_pos h]; exact hu
  · intro h h2; unfold State.phaseEvents; rw [if_neg h, h2]; dsimp only
    apply AnnAlike.activityEvent
    split
    · exact hu
    · exact hu.handRequest _ _
  · intro h h2; unfold State.phaseEvents; rw [if_neg h, h2]; dsimp only
    split
    · exact hu.withdrawQueued _ _
    · exact hu
  · intro h h2; unfold State.phaseEvents; rw [if_neg h, h2]; dsimp only
    have : AnnAlike u (u.syncDue.voidBound new.who) := .voidBound _ hu
    exact this.withdrawQueued _ _
  · intro h h2; unfold State.phaseEvents; rw [if_neg h, h2]; dsimp only
    have : AnnAlike u (u.syncDue.voidBound new.who).drawn := .drawn (.voidBound _ hu)
    split
    · exact .inl ((this.handRequest _ _).annCancelled _)
    · exact .inr ((this.annCancelled _).handRequest _ _)

/-- What the statements say of the announcer, from states it takes requests alike in. -/
theorem AnnAlike.announced {u : State} {f : State → State} (h : AnnAlike { t with ann := s.ann } u)
    (hf : ∀ {v w : State}, AnnAlike v w → AnnAlike (f v) (f w)) (k : AnnAlike (f u) t) : s.announced t f :=
  have g := (hf h).trans k
  ⟨g.1, g.2⟩

end Sys2Proof.Machine
end

