-- ==== Sys2Proof/Laws/Board.lean ====
section
/-! SUPPORT. What the completion of a row build does to a screen's cells, strip and entries. -/

namespace Sys2Proof.Machine

/-! ### Cells of a row -/

/-- A cell after a row of the cache is replaced by as many cells. -/
theorem TextScreen.getElem?_setRow (t : TextScreen) (row : Nat) (f : List Cell → List Cell)
    (hf : ∀ l, (f l).length = min l.length 32) (i : Nat) :
    (t.setRow row f).cells[i]? =
      if i / 32 = row then (f ((t.cells.drop (32 * row)).take 32))[i % 32]? else t.cells[i]? := by
  unfold TextScreen.setRow
  simp only
  have hl := hf ((t.cells.drop (32 * row)).take 32)
  rw [List.length_take, List.length_drop] at hl
  have hd := Nat.div_add_mod i 32
  have hm := Nat.mod_lt i (show 32 > 0 by omega)
  by_cases h : i / 32 = row
  · subst h
    rw [if_pos rfl, List.getElem?_append, List.getElem?_append]
    simp only [List.length_append, List.length_take, hl]
    by_cases h1 : i < t.cells.length
    · rw [if_pos (by omega), if_neg (by omega)]
      congr 1; omega
    · rw [if_neg (by omega), List.getElem?_eq_none (by simp; omega), List.getElem?_eq_none (by omega)]
  · rw [if_neg h, List.getElem?_append, List.getElem?_append]
    simp only [List.length_append, List.length_take, hl]
    rcases Nat.lt_or_ge (i / 32) row with hlt | hge
    · by_cases h1 : i < t.cells.length
      · rw [if_pos (by omega), if_pos (by omega), List.getElem?_take]
        simp; omega
      · rw [if_neg (by omega), List.getElem?_eq_none (by simp; omega), List.getElem?_eq_none (by omega)]
    · by_cases h1 : i < t.cells.length
      · rw [if_neg (by omega), List.getElem?_drop]
        congr 1; omega
      · split
        · omega
        · rw [List.getElem?_eq_none (by simp; omega), List.getElem?_eq_none (by omega)]

theorem Cell.compare_eq (cell : Cell) (t : Nat × Nat × Nat) (fg bg : Nat) :
    cell.compare t fg bg = cell.formed t.1 t.2.1 t.2.2 fg bg := by
  unfold Cell.compare Cell.formed
  split
  · rename_i h
    obtain ⟨h1, h2, h3, h4, h5⟩ := h
    cases cell; simp_all
  · rename_i h
    simp [h]

/-- A row of the cache after every cell has been compared with what the build formed for it. -/
theorem TextScreen.getElem?_compareRow (t : TextScreen) (row fg bg : Nat) (formed : List (Nat × Nat × Nat))
    (hf : formed.length = 32) (i : Nat) :
    (t.setRow row fun cells => cells.zipWith (fun cell f => cell.compare f fg bg) formed).cells[i]? =
      if i / 32 = row then
        match t.cells[i]?, formed[i % 32]? with
        | some cell, some f => some (cell.formed f.1 f.2.1 f.2.2 fg bg)
        | _, _ => none
      else t.cells[i]? := by
  rw [t.getElem?_setRow _ _ (by intro l; simp [hf])]
  split
  · rename_i h
    rw [List.getElem?_zipWith, List.getElem?_take, if_pos (Nat.mod_lt _ (by omega)), List.getElem?_drop]
    have e : 32 * row + i % 32 = i := by have := Nat.div_add_mod i 32; rw [h] at this; exact this
    rw [e]
    cases t.cells[i]? <;> cases formed[i % 32]? <;> simp [Cell.compare_eq]
  · rfl

/-! ### What a build forms -/

/-- The deadline of a period is the first sub-tick that reaches it (R125). -/
theorem subTicksOf_first (p : Nat) : p * 1024 ≤ subTicksOf p * 1000 ∧ ∀ k, k < subTicksOf p → k * 1000 < p * 1024 := by
  unfold subTicksOf ceilDiv
  exact ⟨by omega, fun k hk => by omega⟩

theorem length_stripRow (t : List Nat) (o : Nat) : (stripRow t o).length = 32 := by simp [stripRow]

theorem length_plainRow (t : List Nat) : (plainRow t).length = 32 := by simp [plainRow, padTo]

theorem getElem?_plainRow (t : List Nat) (k : Nat) (hk : k < 32) : (plainRow t)[k]? = some (cellChar (t.getD k 32), 32, 0) := by
  unfold plainRow padTo
  rw [List.getElem?_map, List.getElem?_take, if_pos hk, List.getElem?_append]
  by_cases h : k < t.length
  · simp [h]
  · rw [if_neg h, List.getElem?_replicate, if_pos (by omega)]
    simp [List.getD, List.getElem?_eq_none (show t.length ≤ k by omega)]

/-- What the completion of a build of row 4 does to the strip, its offset and its deadline (R125). -/
theorem TextScreen.takeStrip_spec (x : TextScreen) (text : List Nat) (mode : Mode) (now period : Nat) :
    let z := x.takeStrip text mode now period
    z.marks = x.marks ∧ z.entries = x.entries ∧ z.cells = x.cells ∧ z.strip = text ∧
    (text.length ≤ 32 → z.offset = 0 ∧ z.scrollAt = none) ∧
    (32 < text.length → text = x.strip → z.offset = x.offset ∧ z.scrollAt = x.scrollAt) ∧
    (32 < text.length → text ≠ x.strip →
      z.offset = 0 ∧ (mode = .dormant → z.scrollAt = none) ∧
      (mode ≠ .dormant → z.scrollAt = some (now + subTicksOf period))) := by
  unfold TextScreen.takeStrip scrolls
  by_cases h : 32 < text.length
  · simp only [h, decide_true, if_true]
    by_cases h2 : x.strip = text
    · rw [if_pos h2]
      exact ⟨rfl, rfl, rfl, h2, fun hh => by omega, fun _ _ => ⟨rfl, rfl⟩, fun _ hh => absurd h2.symm hh⟩
    · rw [if_neg h2]
      refine ⟨rfl, rfl, rfl, rfl, fun _ => by omega, fun _ he => absurd he.symm h2, fun _ _ => ⟨rfl, ?_, ?_⟩⟩
      · intro hm; simp [hm]
      · intro hm; simp [hm]
  · simp [h]

/-! ### The completion of a build -/

/-- The completion of a build gives the screen the finished row, and nothing else (R118, R124, R125). -/
theorem TextScreen.took_complete (x : TextScreen) (b : Build) (mode : Mode) (upSec now period : Nat) :
    x.Took (x.complete b mode upSec now period) b mode upSec now period := by
  obtain ⟨s1, s2, s3, s4, s5, s6, s7⟩ := x.takeStrip_spec b.text mode now period
  have hp : b.paint.at upSec =
      (match b.paint with
       | .steady fg bg => (fg, bg)
       | .flashing fg alert bg => (if upSec % 2 = 0 then fg else alert, bg)) := by
    unfold Paint.at flashFg <;> (cases b.paint <;> rfl)
  unfold TextScreen.complete
  simp only
  by_cases h4 : b.row = 4
  · simp only [h4, if_true, show ¬ (1 ≤ 4 ∧ 4 ≤ 3) by omega, if_false]
    generalize x.takeStrip b.text mode now period = z at *
    have key := z.getElem?_compareRow 4 (b.paint.at upSec).1 (b.paint.at upSec).2 _ (length_stripRow z.strip z.offset)
    constructor
    · exact s1
    · simp [h4]; exact s2
    · intro h; exact absurd h4 h
    · intro _ h; exact ⟨s4, s5 h⟩
    · intro _ h he; exact ⟨s4.trans he, s6 h he⟩
    · intro _ h he
      obtain ⟨a, b', c'⟩ := s7 h he
      exact ⟨s4, a, b', fun hm => ⟨_, c' hm, subTicksOf_first period⟩⟩
    · intro i hi
      rw [h4] at hi
      rw [key, if_neg hi, s3]
    · intro i cell hi hc
      rw [h4] at hi
      rw [key, if_pos hi, s3, hc]
      have hm := Nat.mod_lt i (show 32 > 0 by omega)
      simp only [stripRow, List.getElem?_map, List.getElem?_range hm, Option.map_some, stripCell, s4, scrolls, stripLength, stripChar, hp]
      by_cases hl : 32 < b.text.length
      · simp only [hl, decide_true, if_true, cellChar, Option.some.injEq]
        simp only [h4, true_and, if_true]
        cases b.paint <;> rfl
      · simp [hl, cellChar] <;> (cases b.paint <;> rfl)
  · simp only [h4, if_false]
    have e : ∀ w : TextScreen,
        (if 1 ≤ b.row ∧ b.row ≤ 3 then { w with entries := w.entries.set (b.row - 1) b.entry } else w).cells = w.cells := by
      intro w; split <;> rfl
    have key := x.getElem?_compareRow b.row (b.paint.at upSec).1 (b.paint.at upSec).2 _ (length_plainRow b.text)
    constructor
    · split <;> rfl
    · split <;> rfl
    · intro _; split <;> exact ⟨rfl, rfl, rfl⟩
    · intro h; exact absurd h h4
    · intro h; exact absurd h h4
    · intro h; exact absurd h h4
    · intro i hi; rw [e, key, if_neg hi]
    · intro i cell hi hc
      have hm := Nat.mod_lt i (show 32 > 0 by omega)
      rw [e, key, if_pos hi, hc, getElem?_plainRow _ _ hm]
      simp [h4, hp, cellChar] <;> (cases b.paint <;> rfl)

end Sys2Proof.Machine
end

