-- ==== Sys2Proof/Laws/Selection.lean ====
section
/-! SUPPORT. The leave deadline of the selection machine, and what a change of the selection leaves of it. -/

namespace Sys2Proof.Machine

variable {s t : State} {c : Settings}

/-! ### The leave deadline (R107) -/

/-- No passenger is near exactly when the unit finds everyone away (R98, R107). -/
theorem State.away_iff (s : State) : s.away = true ↔ ¬ s.near := by
  have e : ∀ ch, s.panel.chanActive ch = decide ((s.panel.chans.getD ch Channel.initial).state = .active) := by
    intro ch; unfold Panel.chanActive
    rw [List.getD_eq_getElem?_getD]
    cases s.panel.chans[ch]? with
    | none => simp [Channel.initial]
    | some x => rw [Option.getD_some, Bool.eq_iff_iff]; simp
  unfold State.away State.near State.presence
  simp only [e, Bool.and_eq_true, Bool.not_eq_true', decide_eq_false_iff_not, List.all_cons, List.all_nil, Bool.and_true]
  constructor
  · rintro ⟨h0, h1, h2, h3, h4, h5, h6⟩ ⟨ch, hc, ha⟩
    have : ch = 0 ∨ ch = 1 ∨ ch = 2 ∨ ch = 3 ∨ ch = 4 ∨ ch = 5 ∨ ch = 6 := by omega
    rcases this with rfl | rfl | rfl | rfl | rfl | rfl | rfl <;> contradiction
  · intro h
    refine ⟨?_, ?_, ?_, ?_, ?_, ?_, ?_⟩ <;> intro ha <;> exact h ⟨_, by omega, ha⟩

theorem SelState.leaves_iff (x : SelState) : x.leaves = true ↔ x.leavable := by
  cases x <;> simp [SelState.leaves, SelState.leavable]

theorem State.keeps_iff (s : State) : (s.sel.state.leaves && s.away) = true ↔ s.sel.state.leavable ∧ ¬ s.near := by
  rw [Bool.and_eq_true, SelState.leaves_iff, State.away_iff]

/-- The deadline is set as the condition begins or the state is entered. -/
theorem State.syncLeave_set (entered : Bool) (hc : s.cfg = some c) (hl : s.sel.state.leavable) (hn : ¬ s.near)
    (h : entered = true ∨ s.sel.leave = none) :
    s.syncLeave entered = { s with sel := { s.sel with leave := some (s.clk.upSec + c.panel.leave) } } := by
  unfold State.syncLeave
  have e : (entered || s.sel.leave.isNone) = true := by rcases h with h | h <;> simp [h]
  rw [hc]
  simp only [s.keeps_iff.mpr ⟨hl, hn⟩, e, if_true, ← hc]
  rfl

/-- A deadline that stands goes on standing. -/
theorem State.syncLeave_keep (d : Nat) (hc : s.cfg = some c) (hl : s.sel.state.leavable) (hn : ¬ s.near) (h : s.sel.leave = some d) :
    s.syncLeave false = s := by
  unfold State.syncLeave
  simp [hc, s.keeps_iff.mpr ⟨hl, hn⟩, h]

/-- With a passenger near, or in another state, there is none. -/
theorem State.syncLeave_none (entered : Bool) (hc : s.cfg = some c) (h : s.near ∨ ¬ s.sel.state.leavable) :
    s.syncLeave entered = { s with sel := { s.sel with leave := none } } := by
  unfold State.syncLeave
  have e : ¬ (s.sel.state.leaves && s.away) = true := by rw [s.keeps_iff]; rintro ⟨h1, h2⟩; exact h.elim h2 (· h1)
  rw [hc]
  simp only [if_neg e, ← hc]
  rfl

/-- After it the deadline stands exactly where R107 has it. -/
theorem State.LeaveKept.sync (entered : Bool) (hc : s.cfg = some c) : (s.syncLeave entered).LeaveKept := by
  by_cases h : s.near ∨ ¬ s.sel.state.leavable
  · rw [State.syncLeave_none entered hc h]
    exact ⟨fun hl => ⟨fun _ => h.elim id (fun hh => absurd hl hh), fun _ => rfl⟩, fun _ => rfl⟩
  · have hn : ¬ s.near := fun hh => h (.inl hh)
    have hl : s.sel.state.leavable := by by_cases hh : s.sel.state.leavable; exact hh; exact absurd (.inr hh) h
    by_cases he : entered = true ∨ s.sel.leave = none
    · rw [State.syncLeave_set entered hc hl hn he]
      exact ⟨fun _ => ⟨fun h => by simp at h, fun h => absurd h hn⟩, fun h => absurd hl h⟩
    · have h1 : entered = false := by simpa using fun hh => he (.inl hh)
      subst h1
      cases hd : s.sel.leave with
      | none => exact absurd (.inr hd) he
      | some d =>
        rw [State.syncLeave_keep d hc hl hn hd]
        exact ⟨fun _ => ⟨fun h => by rw [hd] at h; simp at h, fun h => absurd h hn⟩, fun h => absurd hl h⟩

theorem State.LeaveKept.congr (h : s.LeaveKept) (h1 : t.sel = s.sel) (h2 : t.panel.chans = s.panel.chans) : t.LeaveKept := by
  unfold State.LeaveKept State.near at *; rw [h1, h2]; exact h

/-! ### A change of the selection (R101) -/

theorem State.markRows_sel (scr : Screen) (rows : List Nat) : (s.markRows scr rows).sel = s.sel := by
  unfold State.markRows; split <;> rfl

theorem State.markRows_panel (scr : Screen) (rows : List Nat) : (s.markRows scr rows).panel = s.panel := by
  unfold State.markRows; split <;> rfl

theorem State.boardMode_sel (a b : Mode) : (s.boardMode a b).sel = s.sel ∧ (s.boardMode a b).panel = s.panel := by
  unfold State.boardMode; split
  · exact ⟨rfl, rfl⟩
  all_goals (split <;> exact ⟨rfl, rfl⟩)

theorem State.setMode_sel (m : Mode) : (s.setMode m).sel = s.sel ∧ (s.setMode m).panel.chans = s.panel.chans := by
  unfold State.setMode
  split
  · exact ⟨rfl, rfl⟩
  · have h := State.boardMode_sel (s := s.modAct fun a => { a with mode := m }) s.act.mode m
    refine ⟨?_, ?_⟩
    · simp [h.1]
    · simp [h.2]; split <;> rfl

theorem State.activityEvent_sel : s.activityEvent.sel = s.sel ∧ s.activityEvent.panel.chans = s.panel.chans := by
  unfold State.activityEvent State.setDeadline
  split
  · exact ⟨(State.setMode_sel _).1, (State.setMode_sel _).2⟩
  · exact ⟨rfl, rfl⟩

theorem State.fareEvent_sel : s.fareEvent.sel = s.sel ∧ s.fareEvent.panel = s.panel :=
  ⟨State.markRows_sel _ _, State.markRows_panel _ _⟩

/-- The selection a change puts in place is the new one but for its leave deadline. -/
theorem State.setSel_sel (new : Selection) :
    (s.setSel new).sel = ((s.modSel fun _ => new).syncLeave (s.sel.state != new.state)).sel ∧
    (s.setSel new).panel.chans = s.panel.chans := by
  have e : ((s.modSel fun _ => new).syncLeave (s.sel.state != new.state)).panel = s.panel := by
    unfold State.syncLeave; repeat' split
    all_goals rfl
  unfold State.setSel
  simp only
  repeat' split
  all_goals simp only [State.activityEvent_sel, State.fareEvent_sel, State.markRows_sel, State.markRows_panel, e, and_self]

theorem State.setSel_cfg (new : Selection) : (s.setSel new).cfg = s.cfg := (Front.setSel new (.refl s)).cfg

theorem State.setSel_clk (new : Selection) : (s.setSel new).clk = s.clk := (Front.setSel new (.refl s)).clk

end Sys2Proof.Machine
end

