-- ==== Sys2Proof/WellFormed.lean ====
section
/-! DEFINITION. Which commands are well formed: the operands that the line and the panel front end can give (R87, R156, R157, R204). -/

namespace Sys2Proof

/-- The payload words of a frame command; a command of another kind has none. -/
def Instr.payload : Instr → List Word
  | .foreignFrame _ _ _ p => p
  | .poll _ p => p
  | .update _ p => p
  | .clock _ _ p => p
  | .notice _ _ p => p
  | .journalConfirm _ p => p
  | .statusRequest _ p => p
  | .forward _ p => p
  | .unknownKindFrame _ _ p => p
  | _ => []

/-- A frame's LENGTH is 0..60 (R156). -/
def Instr.payloadOk (i : Instr) : Bool := decide (i.payload.length ≤ 60)

/-- A round has one raw count for each of the eight channels (R87). -/
def Instr.countsOk : Instr → Bool
  | .sampleRound counts => counts.length == 8
  | _ => true

/-- A frame of an unknown kind is of none of the inbound and reply kinds (R157, R204). -/
def Instr.kindOk : Instr → Bool
  | .unknownKindFrame kind _ _ => !Machine.isInboundKind kind && !Machine.isReplyKind kind
  | _ => true

/-- A FRAME_ERROR brings a character, good or bad (R155, R156). -/
def Instr.charsOk : Instr → Bool
  | .frameError cause => !cause.chars.isEmpty || cause.bad
  | _ => true

/-- A command is well formed. -/
def Instr.wellFormed (i : Instr) : Bool := i.payloadOk && i.countsOk && i.kindOk && i.charsOk

end Sys2Proof
end

