-- ==== Sys2Proof/Tests/Slice0.lean ====
section
/-! SUPPORT. Tests: the well-formedness checks, a few small values, and, for every statement that has hypotheses, a state and
operands that meet them. -/

namespace Sys2Proof.Tests

set_option Elab.async false

open Sys2Proof.Machine

/-! ### Well-formedness refuses what it should -/

theorem test_wf_payload : (Instr.poll 0 (List.replicate 60 0)).wellFormed = true ∧
    (Instr.poll 0 (List.replicate 61 0)).wellFormed = false := by decide +kernel

theorem test_wf_counts : (Instr.sampleRound [0, 0, 0, 0, 0, 0, 0, 0]).wellFormed = true ∧
    (Instr.sampleRound [0, 0, 0, 0, 0, 0, 0]).wellFormed = false := by decide +kernel

theorem test_wf_kind : (Instr.unknownKindFrame 8 0 []).wellFormed = true ∧
    (Instr.unknownKindFrame 1 0 []).wellFormed = false ∧ (Instr.unknownKindFrame 0x81 0 []).wellFormed = false := by decide +kernel

theorem test_wf_cause : (Instr.frameError ⟨[0xC5], false⟩).wellFormed = true ∧ (Instr.frameError ⟨[], true⟩).wellFormed = true ∧
    (Instr.frameError ⟨[], false⟩).wellFormed = false := by decide +kernel

/-! ### A descriptor, and a configured part -/

/-- The words of a site descriptor from word 1 on: format to quote life. -/
def desc1 : List Word :=
  [1, 256, 0, 0x10, 0x11, 0x12, 0x13, 16, 0, 0x2000, 32, 0, 0x3000, 32, 0, 0x4000, 0, 0x5000] ++
  [3, 3, 120, 60, 600, 5, 300, 3600] ++ List.replicate 16 200 ++
  [0, 30, 64, 0, 32400, 0, 57600, 80, 50, 50, 10, 3, 60, 1800, 120]

/-- Screen parameters and the first status texts. -/
def desc2 : List Word :=
  [2, 2, 1, 2, 10, 0x048C, 0x048C, 0x4444, 0x4C00, 0x4444, 0x4C00, 0x0804, 2, 100, 0x8000, 0, 0x2E02] ++ List.replicate 31 0x2020

/-- The other status texts. -/
def descTexts : List Word := List.replicate 40 0x2020

/-- Panel parameters to station name. -/
def desc3 : List Word :=
  [1000, 2, 8, 6, 20, 30, 40, 2, 60, 300, 400, 40, 10, 60] ++ [30, 60, 16, 12, 8, 0, 20, 44, 60, 112] ++ List.replicate 27 0 ++
  [2, 10, 10, 90, 7, 0] ++ List.replicate 13 0x2020

/-- Stop table and clip table. -/
def desc4 : List Word :=
  [3, 0x8000] ++ List.replicate 8 0 ++ [0x8201] ++ List.replicate 8 0 ++ [0x8302] ++ List.replicate 8 0 ++
  [3, 0, 0x6000, 64, 0, 0x6100, 64, 0, 0x6200, 64, 0]

/-- The words of the descriptor before its check word. -/
def descBody : List Word := desc1 ++ desc2 ++ descTexts ++ desc3 ++ desc4

/-- The descriptor with its check word. -/
def desc : List Word := descBody ++ [0x52DE]

/-- Its settings. -/
def cfg : Settings := readSettings desc

/-- A departure. -/
def dep : Entry :=
  { train := 101, tag := 0, dir := .up, sched := 28800, dest := 1, calling := [2], recovery := 0, noSale := false, version := 1,
    source := .line, report := none, cancel := none, hm := 0, phase := .waiting, timeliness := .noReport, exp := 28800,
    dueAnn := false, delayAnn := none }

/-- A configured part at service second 25200 of day 0, with one departure. -/
def part : State :=
  { State.reset with
    cfg := some cfg, table := [dep]
    bat := { State.reset.bat with clock := .set, civil := 36000, geometry := some ⟨0x1300, 16⟩ }
    clk := { State.reset.clk with upSec := 1000 }
    link := { State.reset.link with receiver := .hunt, chainPos := some 0x5000 }
    loader := { State.reset.loader with state := .configured } }

theorem test_check_word : crcWords descBody = 0x52DE := by
  have h1 : (wordBytes desc1).foldl (fun c b => crcByte c b.toNat) 65535 = 0x4769 := by decide +kernel
  have h2 : (wordBytes desc2).foldl (fun c b => crcByte c b.toNat) 0x4769 = 0xC99C := by decide +kernel
  have ht : (wordBytes descTexts).foldl (fun c b => crcByte c b.toNat) 0xC99C = 0x9D83 := by decide +kernel
  have h3 : (wordBytes desc3).foldl (fun c b => crcByte c b.toNat) 0x9D83 = 0xDED4 := by decide +kernel
  have h4 : (wordBytes desc4).foldl (fun c b => crcByte c b.toNat) 0xDED4 = 0x52DE := by decide +kernel
  have e : wordBytes descBody = wordBytes desc1 ++ wordBytes desc2 ++ wordBytes descTexts ++ wordBytes desc3 ++ wordBytes desc4 := by
    simp only [descBody, wordBytes, List.flatMap_append]
  unfold crcWords crcBytes
  rw [e, List.foldl_append, List.foldl_append, List.foldl_append, List.foldl_append, h1, h2, ht, h3, h4]
  rfl

theorem test_desc_checked : checkOk desc = true := by
  have h1 : (desc.take (dnat desc 2 - 2)).set 2 0 = descBody := by decide +kernel
  have h2 : dword desc (dnat desc 2 - 1) = 0x52DE := by decide +kernel
  unfold checkOk
  dsimp only
  rw [h1, h2, test_check_word]
  decide

theorem test_desc_accepted : descriptorFault desc = none := by
  have h1 : dnat desc 1 = 1 := by decide +kernel
  have h2 : 256 ≤ dnat desc 2 ∧ dnat desc 2 ≤ 2048 := by decide +kernel
  have h3 : windowsOk (readWindows desc) = true := by decide +kernel
  have h4 : valuesOk desc = true := by decide +kernel
  unfold descriptorFault
  rw [h1, test_desc_checked, h3, h4, if_neg (fun h => h rfl), if_neg (fun h => h h2)]
  rfl

theorem test_cfg_fits : cfg.windowsFit := by show windowsOk _ = true; decide +kernel

theorem test_part_free : part.portFree := ⟨rfl, rfl, rfl, by decide +kernel⟩

/-! ### A few values -/

theorem test_crc_of_digits : crcBytes [0x31, 0x32, 0x33, 0x34, 0x35, 0x36, 0x37, 0x38, 0x39] = 0x29B1 := by decide +kernel

theorem test_scaled : scaled 255 8 = 191 ∧ scaled 0 8 = 64 ∧ scaled 128 16 = 128 := by decide +kernel

theorem test_shown_delay : shownDelay 28800 1 3 (some ⟨240, 0, false, 0⟩) false = 3 ∧
    shownDelay 28800 1 3 (some ⟨60, 0, false, 0⟩) false = 0 := by decide +kernel

theorem test_relation : relationOf 0 0 = .current ∧ relationOf 0 1 = .next ∧ relationOf 0 2 = .unheld ∧
    relationOf 0 3 = .previous ∧ relationOf 65535 0 = .next := by decide +kernel

/-! ### States and operands that meet the hypotheses of the statements -/

/-- The part without main power. -/
def unpowered : State := { part with power := { part.power with main := false } }

/-- The part with the host reset input asserted. -/
def inReset : State := { part with power := { part.power with reset := true } }

theorem witness_EmptyQueueTicksTheCrystal :
    part.pending = [] ∧ part.power.main = true ∧ unpowered.pending = [] ∧ unpowered.power.main = false := by decide +kernel

theorem witness_PowerOn :
    unpowered.power.main = false ∧ unpowered.bat.marker = true ∧
    { unpowered with bat := { unpowered.bat with marker := false } }.bat.marker = false := by decide +kernel

theorem witness_PowerLossAndBackupSecond : part.power.main = true ∧ unpowered.power.main = false := by decide +kernel

theorem witness_HostReset :
    (part.power.main = true ∧ part.power.reset = false ∧ part.path.waiting = []) ∧
    inReset.power.main = true ∧ inReset.power.reset = true := by decide +kernel

/-- The part with the supply-low input asserted. -/
def lowSupply : State := { part with power := { part.power with supplyLow := true } }

theorem witness_SupplyLowChange :
    (part.power.main = true ∧ part.power.reset = false ∧ part.power.supplyLow = false) ∧
    (lowSupply.power.main = true ∧ lowSupply.power.reset = false ∧ lowSupply.power.supplyLow = true) ∧
    inReset.power.reset = true ∧ unpowered.power.main = false := by decide +kernel

theorem witness_HaltSecondAdvancesTheClock : part.power.main = true ∧ State.reset.cfg = none := by decide +kernel

/-- The part at the last second of day 0, with a departure of each day tag and a PREVIOUS one past its limit no more. -/
def lastSecond : State :=
  { part with
    bat := { part.bat with civil := 10799 }
    table := [{ dep with tag := 3, phase := .cancelled }, { dep with phase := .departed, exp := 86000 }, { dep with tag := 1 }] }

theorem witness_HaltSecondRetires :
    (part.cfg = some cfg ∧ exec .haltSecond part = .next part.haltTick ∧ part.power.main = true ∧ dep ∈ part.haltTick.table) ∧
    part.TableSound ∧ lastSecond.TableSound ∧ lastSecond.haltTick.bat.day ≠ lastSecond.bat.day ∧
    ({ part with clk := { part.clk with early := some 999 } } : State).clk.early = some 999 := by
  refine ⟨⟨rfl, rfl, rfl, by decide +kernel⟩, ⟨by decide +kernel, by decide +kernel⟩, ⟨by decide +kernel, by decide +kernel⟩,
    by decide +kernel, rfl⟩

theorem witness_StalenessRetest : part.cfg = some cfg := rfl

/-- A live quote of slot 0. -/
def quote0 (expiry : Nat) : Quote :=
  { product := .single, counts := ⟨1, 0, 0⟩, dest := 1, bound := some dep.who, fare := 200, validity := 30600, expiry := expiry }

/-- The part with a live quote in slot 0. -/
def withQuote (expiry : Nat) (m : Mark SaleCode) : State :=
  { part with
    issue := { part.issue with records := [.live (quote0 expiry), .empty, .empty, .empty] }
    path := { part.path with sale := [m, .clear, .clear, .clear] } }

theorem witness_QuoteLapse :
    ((withQuote 1000 .clear).cfg = some cfg ∧ (withQuote 1000 .clear).issue.records.getD 0 .empty = .live (quote0 1000) ∧
      (withQuote 1000 .clear).path.sale.getD 0 .clear = .clear ∧ (quote0 1000).expiry ≤ (withQuote 1000 .clear).clk.upSec) ∧
    (withQuote 1000 (.post .issue)).path.sale.getD 0 .clear ≠ .clear ∧ (withQuote 1001 .clear).clk.upSec < (quote0 1001).expiry :=
  ⟨⟨rfl, rfl, rfl, by decide⟩, by decide, by decide⟩

/-- The part in a mode with an idle deadline and the DUE floor as given. -/
def idleIn (m : Mode) (floor : Bool) (d : Nat) : State := { part with act := { part.act with mode := m, floor := floor, deadline := some d } }

theorem witness_IdleDeadline :
    ((idleIn .active false 1000).act.deadline = some 1000 ∧ 1000 ≤ (idleIn .active false 1000).clk.upSec ∧
      (idleIn .active false 1000).act.mode = .active) ∧
    ((idleIn .quiet true 1000).act.mode = .quiet ∧ (idleIn .quiet true 1000).act.floor = true) ∧
    ((idleIn .quiet false 1000).act.mode = .quiet ∧ (idleIn .quiet false 1000).act.floor = false) ∧
    (idleIn .dormant false 1000).act.mode = .dormant ∧ (idleIn .active false 1001).clk.upSec < 1001 := by decide +kernel

theorem witness_DueFlash : part.cfg = some cfg := rfl

/-- The part with both notices present until an uptime second. -/
def noticed (u : Nat) : State :=
  { part with board := { part.board with lineNotice := some ⟨[65], u⟩, ownNotice := some ⟨[66], u⟩ } }

theorem witness_NoticeExpiry :
    ((noticed 1000).board.lineNotice = some ⟨[65], 1000⟩ ∧ (noticed 1000).board.ownNotice = some ⟨[66], 1000⟩ ∧
      1000 ≤ (noticed 1000).clk.upSec) ∧ (noticed 1001).clk.upSec < 1001 := by decide +kernel

theorem witness_LossDeadline :
    ({ part with link := { part.link with lossAt := some 1000 } } : State).link.lossAt = some 1000 ∧ 1000 ≤ part.clk.upSec ∧
    ({ part with link := { part.link with lossAt := some 1001 } } : State).link.lossAt = some 1001 ∧ part.clk.upSec < 1001 := by
  decide +kernel

/-- A channel in use. -/
def chan (st : ChanState) (onset : Nat) : Channel :=
  { state := st, gain := 20, filtered := 16000, baseline := 16000, delta := 0, debounce := 0, onset := some onset, calStep := 0 }

/-- The part with every channel in a state. -/
def panelOf (x : Channel) : State := { part with panel := { part.panel with chans := List.replicate 7 x ++ [Channel.initial] } }

theorem witness_StuckTimeout :
    ((panelOf (chan .active 962559)).cfg = some cfg ∧
      (panelOf (chan .active 962559)).panel.chans[0]? = some (chan .active 962559) ∧ cfg.panel.stuck ≠ 255 ∧
      962559 + 1024 * cfg.panel.stuck < part.clk.upSec * 1024 + part.clk.upSub) ∧
    part.clk.upSec * 1024 + part.clk.upSub ≤ 962560 + 1024 * cfg.panel.stuck := ⟨⟨rfl, rfl, by decide +kernel⟩, by decide +kernel⟩

/-- The part with the selection in a state and both deadlines at an uptime second. -/
def selIn (st : SelState) (d : Nat) : State :=
  { part with sel := { state := st, cursor := some 1, product := .single, page := 0, leave := some d, handed := some d } }

theorem witness_SelectionDeadlines :
    ((selIn .browse 1000).sel.leave = some 1000 ∧ 1000 ≤ (selIn .browse 1000).clk.upSec ∧ (selIn .browse 1000).sel.state = .browse) ∧
    (selIn .choose 1000).sel.state = .choose ∧ (selIn .confirm 1000).sel.state = .confirm ∧
    ((selIn .handed 1000).sel.handed = some 1000 ∧ (selIn .handed 1000).sel.state = .handed) ∧
    (selIn .handed 1001).clk.upSec < 1001 := by decide +kernel

/-- The part with a strip that scrolls, with its deadline at a sub-tick. -/
def scrolling (d : Nat) : State :=
  { part with board := { part.board with a := { part.board.a with strip := List.replicate 33 65, scrollAt := some d } } }

theorem witness_ScrollDeadline :
    ((scrolling 1024000).cfg = some cfg ∧ ((scrolling 1024000).board.text .a).scrollAt = some 1024000 ∧
      1024000 ≤ (scrolling 1024000).clk.upSec * 1024 + (scrolling 1024000).clk.upSub) ∧
    (scrolling 1024001).clk.upSec * 1024 + (scrolling 1024001).clk.upSub < 1024001 := ⟨⟨rfl, rfl, by decide⟩, by decide⟩

/-- The panel with its last round at a sub-tick and channel 0 in a state. -/
def sensed (u : Nat) (x : Channel) : State :=
  { part with panel := { part.panel with lastRound := some u, chans := x :: List.replicate 7 Channel.initial } }

theorem witness_SampleRoundSensesThePlate :
    ((sensed 1023980 (chan .idle 0)).cfg = some cfg ∧ (sensed 1023980 (chan .idle 0)).loader.stage.starting = false ∧
      (sensed 1023980 (chan .idle 0)).panel.lastRound = some 1023980 ∧
      1023980 + part.act.mode.period ≤ part.clk.upSec * 1024 + part.clk.upSub ∧
      (sensed 1023980 (chan .idle 0)).panel.chans[0]? = some (chan .idle 0)) ∧
    (sensed 1023980 (chan .active 0)).panel.chans[0]? = some (chan .active 0) ∧
    part.clk.upSec * 1024 + part.clk.upSub < 1023981 + part.act.mode.period :=
  ⟨⟨rfl, rfl, rfl, by decide, rfl⟩, rfl, by decide⟩

/-- The part in DORMANT, at a round that samples the plate alone. -/
def dozing : State :=
  { sensed 1023000 (chan .idle 0) with
    act := { part.act with mode := .dormant }, panel := { (sensed 1023000 (chan .idle 0)).panel with roundNo := 1 } }

theorem witness_partial_round :
    dozing.cfg = some cfg ∧ dozing.loader.stage.starting = false ∧ dozing.panel.lastRound = some 1023000 ∧
    1023000 + dozing.act.mode.period ≤ dozing.clk.upSec * 1024 + dozing.clk.upSub ∧ dozing.act.mode = .dormant ∧
    dozing.panel.roundNo % 8 ≠ 0 := by decide +kernel

/-- The part with channel 7 about to change its state, and the others in one state. -/
def rain (seven : Channel) (x : Channel) : State :=
  { part with panel := { part.panel with chans := List.replicate 7 x ++ [seven] } }

/-- A command is executed and the rain reference is WET after it. -/
def wetAfter (i : Instr) (s : State) : Option Bool :=
  match exec i s with
  | .next t => some t.wet
  | _ => none

/-- An idle rain reference one sample before it becomes WET, and a WET one one sample before it ends. -/
def wetting : Channel := { chan .idle 0 with debounce := 3 }
def drying : Channel := { chan .active 0 with debounce := 3, delta := 100 }

theorem witness_SampleRoundFiltersAndCalibrates :
    (part.cfg = some cfg ∧ part.loader.stage.starting = false ∧ part.panel.lastRound = none ∧ part.act.mode ≠ .dormant ∧
      part.wet = false ∧ 1 ≤ cfg.panel.prox ∧ 1 ≤ cfg.panel.touch ∧ 1 ≤ cfg.panel.wet) ∧
    (panelOf (chan .idle 0)).panel.chans[1]? = some (chan .idle 0) ∧
    (panelOf { chan .calibrating 0 with calStep := 5 }).panel.chans[1]? = some { chan .calibrating 0 with calStep := 5 } ∧
    (panelOf { chan .calibrating 0 with calStep := 6 }).panel.chans[1]? = some { chan .calibrating 0 with calStep := 6 } ∧
    (panelOf (chan .failed 0)).wet = false ∧ part.panel.chans[7]? = some Channel.initial := by decide +kernel

theorem witness_rain :
    ((rain wetting (chan .active 0)).wet = false ∧
      wetAfter (.sampleRound [1000, 1000, 1000, 1000, 1000, 1000, 1000, 0]) (rain wetting (chan .active 0)) = some true) ∧
    ((rain drying (chan .idle 0)).wet = true ∧
      wetAfter (.sampleRound [1000, 1000, 1000, 1000, 1000, 1000, 1000, 1000]) (rain drying (chan .idle 0)) = some false) ∧
    ((rain (chan .active 0) (chan .idle 0)).wet = true ∧
      wetAfter (.sampleRound [1000, 1000, 1000, 1000, 1000, 1000, 1000, 0]) (rain (chan .active 0) (chan .idle 0)) = some true) ∧
    wetAfter (.sampleRound [1000, 1000, 1000, 1000, 1000, 1000, 1000, 1000]) (rain (chan .idle 0) (chan .idle 0)) = some false := by
  decide +kernel

/-- The panel fault counter and whether PANEL_FAULT is pending, after a command. -/
def faultsAfter (i : Instr) (s : State) : Option (Nat × Bool) :=
  match exec i s with
  | .next t => some (t.rep.counters.getD Counter.panelFault.index 0, t.rep.flags &&& Flag.panelFault.word == Flag.panelFault.word)
  | _ => none

theorem test_failed_calibrations_counted :
    faultsAfter (.sampleRound (List.replicate 8 0)) (panelOf { chan .calibrating 0 with calStep := 6 }) = some (7, true) ∧
    faultsAfter (.sampleRound (List.replicate 8 1000)) (panelOf { chan .calibrating 0 with calStep := 6 }) = some (0, false) ∧
    Counter.panelFault.index < part.rep.counters.length := by decide +kernel

/-- The panel with electrode 2 touched or not, and the gesture tracker as given. -/
def sliding (touch was : Bool) (k : Option Tracker) : State :=
  { part with panel := { part.panel with
      chans := [Channel.initial, Channel.initial, { chan (if touch then .active else .idle) 0 with delta := 50 }] ++
        List.replicate 5 Channel.initial
      pos := 80, touched := was, tracker := k } }

/-- A touch that began at a position and a sub-tick. -/
def tracked (pos at_ : Nat) : Tracker :=
  { onsetPos := pos, onsetAt := at_, startPos := pos, startAt := at_, swiped := false, held := false }

theorem witness_slide :
    ((sliding true false none).sliderTouched = true ∧ (sliding true false none).panel.touched = false) ∧
    ((sliding true true (some (tracked 45 1023900))).sliderTouched = true ∧ cfg.panel.distance ≤ ((85 : Int) - 45).natAbs ∧
      ¬ 1024 * cfg.panel.swipe < 1000 * (1024000 - 1023900)) ∧
    (1024 * max cfg.panel.tap cfg.panel.swipe < 1000 * (1024000 - 1023000) ∧ ¬ cfg.panel.distance ≤ ((85 : Int) - 46).natAbs) ∧
    ((sliding false true (some (tracked 80 1023900))).sliderTouched = false ∧ ¬ 1024 * cfg.panel.tap < 1000 * (1024000 - 1023900) ∧
      2 * ((80 : Int) - 61).natAbs < cfg.panel.distance ∧ cfg.panel.distance ≤ 2 * ((80 : Int) - 60).natAbs) ∧
    (sliding false false none).panel.touched = false := by decide +kernel

theorem witness_SelectionFollowsItsEvents :
    (selIn .idle 1).cfg = some cfg ∧ (selIn .idle 1).sel.state = .idle ∧ (selIn .browse 1).sel.state = .browse ∧
    (selIn .choose 1).sel.state = .choose ∧ (selIn .choose 1).panel.dests = [] ∧
    ({ selIn .choose 1 with panel := { part.panel with dests := [1, 2] } } : State).panel.dests ≠ [] ∧
    (selIn .choose 1).sel.cursor = some 1 ∧ [1, 2].find? (fun y => decide (1 < y)) = some 2 ∧
    [1, 2].find? (fun y => decide (2 < y)) = none ∧ ([1, 2].filter fun y => decide (y < 2)).getLast? = some 1 ∧
    ([1, 2].filter fun y => decide (y < 1)).getLast? = none ∧
    (selIn .confirm 1).sel.state = .confirm ∧ (selIn .handed 1).sel.state = .handed ∧ (selIn .handed 1).panel.dests = [] ∧
    ({ selIn .handed 1 with panel := { part.panel with dests := [2] } } : State).panel.dests ≠ [] ∧ 1 ∉ [2] := by
  decide +kernel

/-- A part that keeps the leave deadline, with a passenger near or not. -/
def leaving (st : SelState) (d : Option Nat) (near : Bool) : State :=
  { selIn st 1 with
    sel := { (selIn st 1).sel with leave := d }
    panel := { part.panel with chans := chan (if near then .active else .idle) 0 :: List.replicate 7 Channel.initial } }

theorem witness_leave_deadline :
    ((leaving .browse (some 1030) false).LeaveKept ∧ (leaving .browse none true).LeaveKept ∧ (leaving .handed none false).LeaveKept) ∧
    ¬ (leaving .browse (some 1030) false).near ∧ (leaving .browse none true).near ∧ SelState.leavable .browse ∧
    ((leaving .choose (some 1005) false).selEvent .back).sel.leave = some 1010 ∧
    ((leaving .browse (some 1005) false).selEvent .swipeFwd).sel.leave = some 1005 ∧
    ((leaving .idle none false).selEvent .ok).sel.leave = some 1010 ∧ ((leaving .idle none true).selEvent .presence).sel.leave = none ∧
    ((leaving .confirm (some 1005) false).selEvent .ok).sel.leave = none := by
  have far : ∀ st d, ¬ (leaving st d false).near := by
    rintro st d ⟨ch, hc, h⟩
    match ch, h with
    | 0, h | 1, h | 2, h | 3, h | 4, h | 5, h | 6, h => simp [leaving, chan, Channel.initial] at h
  have close : ∀ st d, (leaving st d true).near := fun _ _ => ⟨0, by decide, rfl⟩
  refine ⟨⟨⟨fun _ => ⟨nofun, fun h => absurd h (far _ _)⟩, fun h => absurd (.inl rfl) h⟩,
    ⟨fun _ => ⟨fun _ => close _ _, fun _ => rfl⟩, fun _ => rfl⟩, ⟨fun h => absurd h (by simp [SelState.leavable, leaving, selIn]), fun _ => rfl⟩⟩,
    far _ _, close _ _, .inl rfl, ?_, ?_, ?_, ?_, ?_⟩ <;> decide +kernel

/-- The part with both screens scanning at a place of the frame, with some words fetched. -/
def scanningAt (p : ScanPos) (n : Nat) : State :=
  { part with
    scrA := { Scan.initial with scanning := true, pos := p, fetch := some 0, fill := List.replicate n 0 }
    scrB := { Scan.initial with scanning := true, pos := p, fetch := some 0, fill := List.replicate n 0 } }

theorem witness_ScreenFramesAndLines :
    ((scanningAt .none 0).cfg = some cfg ∧ (scanningAt .none 0).scrA.scanning = true ∧ (scanningAt .none 0).scrA.pos = .none ∧
      (scanningAt (.line 79) 0).scrB.pos = .line 79 ∧ (scanningAt .none 0).scrA.fetch.isSome = true ∧
      (scanningAt .none 0).scrB.scanning = true ∧ (scanningAt .none 0).scrB.fetch.isSome = true) ∧
    (((scanningAt .blanking 32).scan .a).pos = .blanking ∧ ((scanningAt .blanking 32).scan .a).fill.length = 32) ∧
    (((scanningAt (.line 78) 31).scan .b).scanning = true ∧ ((scanningAt (.line 78) 31).scan .b).pos = .line 78 ∧
      ((scanningAt (.line 78) 31).scan .b).fill.length ≠ 32) :=
  ⟨⟨rfl, rfl, rfl, rfl, rfl, rfl, rfl⟩, ⟨rfl, rfl⟩, rfl, rfl, by decide⟩

/-- An announcement. -/
def annOf (playing : Bool) : Announcement :=
  { kind := .play, who := none, playing := playing, clips := [0], rest := [0], fetch := .samples 0x6000 60, out := [(0, 2)], cut := none }

/-- The part with a current announcement and some samples. -/
def sounding (playing : Bool) (fifo : List Byte) : State :=
  { part with ann := { part.ann with current := some (annOf playing), fifo := fifo } }

theorem witness_SamplePeriodUnderrun :
    part.ann.current = none ∧ ((sounding false []).ann.current = some (annOf false) ∧ (annOf false).playing = false) ∧
    ((sounding true []).ann.current = some (annOf true) ∧ (annOf true).playing = true ∧ (sounding true []).ann.fifo = []) ∧
    (sounding true [200, 100]).ann.fifo = 200 :: [100] ∧ (annOf true).out = (0, 2) :: [] ∧ 1 < 2 := by decide +kernel

/-- The part with a row of screen A marked. -/
def marked (row : Nat) : State :=
  { part with board := { part.board with a := { part.board.a with marks := part.board.a.marks.set row true } } }

/-- The part with a dirty cell on screen B and no row marked. -/
def dirty : State :=
  { part with board := { part.board with b := { part.board.b with cells := { Cell.initial with dirty := true } :: [] } } }

theorem witness_RowBuildAndCellRender :
    ((marked 0).cfg = some cfg ∧ (marked 0).board.build = none ∧ (marked 0).board.render = none ∧
      (marked 0).loader.stage.starting = false ∧ (marked 0).board.nextRow = some (.a, 0)) ∧
    ((marked 1).board.nextRow = some (.a, 1) ∧ ((marked 1).shownOn cfg .a).length ≠ (marked 1).board.lastN ∧
      (({ marked 3 with board := { (marked 3).board with lastN := 1 } } : State).shownOn cfg .a).length = 1) ∧
    (marked 4).board.nextRow = some (.a, 4) ∧ dirty.board.nextRow = none ∧ dirty.board.nextCell = some (.b, 0) := by
  decide +kernel

theorem witness_rows :
    let view := fun (s : State) (p : Nat) => (s.table.filter fun e =>
      (e.relation s.bat == .current || e.relation s.bat == .previous) && e.phase != .departed && (cfg.filter .a).passes e.dir).drop (3 * p)
    ((view part 0)[0]? = some dep ∧ (view part 0)[1]? = none ∧ (view part 1)[0]? = none ∧ (view part 0)[2]? = none) ∧
    ((selIn .choose 1).sel.state = .choose ∧ (selIn .choose 1).sel.cursor = some 1 ∧ part.sel.cursor = none) ∧
    ((selIn .confirm 1).sel.state = .confirm ∧ (selIn .confirm 1).shownFare cfg 1 .single = some 200 ∧
      ({ part with table := [] } : State).shownFare cfg 1 .single = none) ∧
    ((noticed 1000).board.lineNotice ≠ none ∧ part.board.lineNotice = none ∧ part.board.ownNotice = none ∧ dep.calling ≠ [] ∧
      (view part 0).head? = some dep ∧ (view part 1).head? = none) := by decide +kernel

/-- The part with the build of screen A's header in progress, `n` words fetched, and the notice text fetch or none. -/
def building (n : Nat) (f : Option NoticeFetch) : State :=
  { part with board := { part.board with
      build := some { part.newBuild cfg .a 0 with got := List.replicate n 0x4142 }, noticeFetch := f } }

/-- The part with a render in progress, of a shifted cell or not, with `n` glyph words fetched and `l` lines written. -/
def rendering (shift n l : Nat) : State :=
  { part with board := { part.board with
      render := some {
        screen := .b, index := 33, cell := { char := some 65, next := 66, shift := shift, fg := 3, bg := 1, dirty := false }
        glyphs := List.replicate n 0x00FF, written := l } } }

/-- Who takes a part cycle of the part, with what access. -/
theorem test_takes (s : State) (r : Requester) (x : Access) (h1 : s.power.main = true) (h2 : s.power.reset = false)
    (h3 : s.path.waiting = []) (h4 : s.wants r = some x) (h5 : s.firstWaiting = some r) : s.takesCycle r x :=
  ⟨h1, h2, h3, (State.turnOf_iff _ _ _).mpr ⟨h4, h5⟩⟩

theorem witness_composer_cycles :
    ((building 11 none).takesCycle .composer (.read 0x4D6) ∧ (building 11 none).noticeFirst = false ∧
      (part.newBuild cfg .a 0).addrs.length = 13) ∧ (building 12 none).takesCycle .composer (.read 0x4D7) ∧
    ((rendering 0 7 0).takesCycle .composer (.read 0x410F) ∧ (rendering 3 8 0).takesCycle .composer (.read 0x4110)) ∧
    ((rendering 0 8 15).takesCycle .composer (.write 0x33E1 0xFFFF) ∧ (rendering 4 16 14).takesCycle .composer (.write 0x33C1 0x5555)) ∧
    (({ marked 1 with table := [] } : State).newBuild cfg .a 1).addrs = [] := by
  refine ⟨⟨?_, by decide +kernel, by decide +kernel⟩, ?_, ⟨?_, ?_⟩, ⟨?_, ?_⟩, by decide +kernel⟩ <;>
    exact test_takes _ _ _ (by decide +kernel) (by decide +kernel) (by decide +kernel) (by decide +kernel) (by decide +kernel)

/-- What a part cycle leaves of the cells of screen A: the first three characters, and whether they are dirty. -/
def cellsAfter (s : State) : Option (List (Option Nat × Bool)) :=
  match exec (.partCycle none) s with
  | .next t => some ((t.board.a.cells.take 3).map fun c => (c.char, c.dirty))
  | _ => none

theorem test_build_completes :
    cellsAfter { building 12 none with mem := Memory.writeLanes [] 0x4D7 0x4142 .both } =
      some [(some 65, true), (some 66, true), (some 65, true)] ∧
    cellsAfter (building 11 none) = some [(none, false), (none, false), (none, false)] := by decide +kernel

theorem test_fare_written :
    ({ cfg.money with lead := prefixText [0x4372, 0x2000], sep := 46, places := 2 } : Currency).write 510 = [67, 114, 32, 53, 46, 49, 48] := by
  decide +kernel

/-- The part with a host cycle waiting, a hold count, and screen A fetching, urgent or not. -/
def contended (c : HostCycle) (hold : Nat) (urgent : Bool) : State :=
  { part with
    path := { part.path with waiting := [c], hold := hold }
    scrA := { Scan.initial with
      scanning := true, latched := some (cfg.latch .a .active), pos := .blanking, fetch := some 0, urgent := urgent } }

theorem witness_PartCycleHoldsTheHost :
    ((contended (.read 0) 3 true).power.main = true ∧ (contended (.read 0) 3 true).power.reset = false ∧
      (contended (.read 0) 3 true).path.waiting ≠ [] ∧ (contended (.read 0) 3 true).firstUrgent = some .screenA ∧
      (contended (.read 0) 3 true).wants .screenA = some (.read 0x2000) ∧ (contended (.read 0) 3 true).path.hold < 4) ∧
    ((contended (.read 0) 3 true).noCycle (.read 0) = false ∧ (contended (.write 0 1 .both) 0 false).noCycle (.write 0 1 .both) = false) ∧
    ((contended (.read 0) 4 true).clockWord? 0 = none ∧ 4 ≤ (contended (.read 0) 4 true).path.hold ∧
      (contended (.read 0) 4 true).path.waiting = .read 0 :: []) ∧
    (contended (.read 0) 0 false).firstUrgent = none ∧
    ((contended (.write 0 1 .both) 0 false).path.waiting = .write 0 1 .both :: [] ∧
      (contended (.write 0 1 .both) 0 false).firstUrgent = none) ∧ part.path.waiting = [] ∧ part.path.hold ≤ 4 := by decide +kernel

/-- A clock group read and a write into the journal window that were presented before the map had those windows. -/
theorem witness_held_cycles_of_no_cycle :
    ((contended (.read 0x121B) 3 true).noCycle (.read 0x121B) = true ∧ (contended (.read 0x121B) 3 true).firstUrgent = some .screenA ∧
      (contended (.read 0x121B) 3 true).wants .screenA = some (.read 0x2000)) ∧
    ((contended (.write 0x1300 1 .both) 4 true).noCycle (.write 0x1300 1 .both) = true ∧
      (contended (.write 0x1300 1 .both) 4 true).path.waiting = .write 0x1300 1 .both :: []) := by decide +kernel

/-- The part with screen A fetching and the issue unit with a write waiting. -/
def wanting : State :=
  { part with
    scrA := { Scan.initial with scanning := true, latched := some (cfg.latch .a .active), pos := .blanking, fetch := some 0 }
    issue := { part.issue with accs := [⟨0x1108, 0, .plain⟩] } }

theorem witness_PartCycleMakesOneAccess :
    (wanting.power.main = true ∧ wanting.power.reset = false ∧ wanting.path.waiting = [] ∧ wanting.loader.stage = .idle) ∧
    wanting.turnOf .screenA (.read 0x2000) ∧ ({ wanting with scrA := Scan.initial } : State).turnOf .issue (.write 0x1108 0) ∧
    (∀ r, State.reset.wants r = none) ∧
    ({ wanting with scrA := Scan.initial, scrB := wanting.scrA } : State).turnOf .screenB (.read 0x2000) ∧
    ((sounding true []).turnOf .announcer (.read 0x6000) ∧ (sounding true []).ann.current = some (annOf true) ∧
      (annOf true).fetch = .samples 0x6000 60) := by
  refine ⟨by decide +kernel, ?_, ?_, fun r => by cases r <;> decide +kernel, ?_, ?_, rfl, rfl⟩ <;>
    exact (State.turnOf_iff _ _ _).mpr (by decide +kernel)

/-- The part with every word of the report block written as it stands, but for some. -/
def reported (but : List Nat) : State :=
  { part with rep := { part.rep with
      written := (List.range 64).map fun o => if but.contains o then none else some (part.reportValue o) } }

/-- The part with the last write of an intake slot, a sale slot, a command or a load still to land. -/
def lastWrites : State × State × State × State :=
  ({ part with intake := { fifo := [2, 3], stage := .answering [⟨0x1020, Code.done, .intakePost 2⟩] } },
   { part with issue := { part.issue with fifo := [1], stage := .answering, accs := [⟨0x1110, Code.quoted, .salePost 1⟩] } },
   { reported [14] with rep := { (reported [14]).rep with command := .answering [⟨0x1204, Code.done, .commandPost⟩] } },
   { part with loader := { part.loader with accs := [⟨0x400, Code.accepted, .accepted⟩] } })

theorem witness_landings :
    lastWrites.1.turnOf .intake (.write 0x1020 Code.done) ∧
    (lastWrites.2.1.turnOf .issue (.write 0x1110 Code.quoted) ∧ lastWrites.2.1.issue.records.getD 1 .empty = .empty) ∧
    lastWrites.2.2.1.turnOf .report (.write 0x1204 Code.done) ∧ lastWrites.2.2.2.turnOf .loader (.write 0x400 Code.accepted) := by
  refine ⟨?_, ⟨?_, rfl⟩, ?_, ?_⟩ <;> exact (State.turnOf_iff _ _ _).mpr (by decide +kernel)

/-- An input event has been placed since the write index last landed. -/
def placed (but : List Nat) : State := (reported but).pushInput .select (some 1) .single 200

theorem witness_report_writer :
    ((reported [14]).turnOf .report (.write 0x120E (part.reportValue 14)) ∧ (reported [14]).rep.command = .idle ∧
      (reported [14]).nextWord = some 14) ∧
    (part.nextWord = some 0 ∧ (placed []).nextWord = some 32 ∧ (placed [14]).nextWord = some 14 ∧
      (reported [30, 33, 63]).nextWord = some 30) ∧
    ({ reported [] with rep := { (reported []).rep with extra := [4] } } : State).nextWord = some 4 ∧
    (reported []).nextWord = none := by
  refine ⟨⟨(State.turnOf_iff _ _ _).mpr (by decide +kernel), rfl, by decide +kernel⟩, by decide +kernel, by decide +kernel,
    by decide +kernel⟩

/-- The part with a command in work and some words of the report block still to be written. -/
def commanded (but : List Nat) (k : CommandStage) : State :=
  { reported but with rep := { (reported but).rep with command := k } }

/-- The result and the command word of a command refused with reason QUEUE_FULL, still to be written. -/
def refusal : CommandStage := .answering [⟨0x120D, Code.queueFull, .plain⟩, ⟨0x1204, Code.refused, .commandPost⟩]

theorem witness_command_accesses :
    ((commanded [14] (.fetching .play [0, 0])).turnOf .report (.read 0x1207) ∧ (commanded [14] (.fetching .play [0, 0])).wordDue 0 = false) ∧
    ((commanded [14] refusal).turnOf .report (.write 0x120D Code.queueFull) ∧ (commanded [14] refusal).wordDue 0 = false) ∧
    ((commanded [0, 14] refusal).turnOf .report (.write 0x1200 part.rep.flags) ∧ (commanded [0, 14] refusal).wordDue 0 = true ∧
      (commanded [0, 14] refusal).nextWord = some 0) := by
  refine ⟨⟨?_, by decide +kernel⟩, ⟨?_, by decide +kernel⟩, ?_, by decide +kernel⟩ <;>
    exact (State.turnOf_iff _ _ _).mpr (by decide +kernel)

/-- What the report writer's access waits for, and the written record of the command result word, after a part cycle. -/
def writerAfter (s : State) : Option (Option Access × Option Word) :=
  match exec (.partCycle none) s with
  | .next t => some (t.reportWants, t.rep.written.getD 13 none)
  | _ => none

theorem test_flags_go_before_the_command :
    writerAfter (commanded [0, 14] (.fetching .play [])) = some (some (.read 0x1205), some 0) ∧
    writerAfter (commanded [0, 14] refusal) = some (some (.write 0x120D Code.queueFull), some 0) := by decide +kernel

theorem test_result_word_is_recorded :
    writerAfter (commanded [14] refusal) = some (some (.write 0x1204 Code.refused), some Code.queueFull) ∧
    (reported [13]).nextWord = some 13 ∧ (reported [13]).reportValue 13 = 0 := by decide +kernel

/-- After the writes of index 0, seventeen events placed while the host read on, and the words of one entry left. -/
def wrapped (pos : Nat) : State :=
  let s := reported [32 + 4 * pos]
  { s with rep := { s.rep with written := s.rep.written.set 30 (some 0), inWrite := 1, inRead := 12, unshown := 17 } }

theorem test_index_waits_for_outstanding :
    (wrapped 0).nextWord = some 32 ∧ (wrapped 4).nextWord = some 48 ∧ (wrapped 4).covered = [0, 7, 6, 5, 4, 3, 2, 1] ∧
    ({ wrapped 4 with rep := { (wrapped 4).rep with unshown := 1 } } : State).nextWord = some 48 ∧
    ({ wrapped 1 with rep := { (wrapped 1).rep with unshown := 1 } } : State).nextWord = some 30 := by decide +kernel

/-- The part with every slot, the load word and the command word busy. -/
def busy : State :=
  { part with path := { part.path with
      load := .post (), command := .post .play, intake := List.replicate 16 (.post ()), sale := List.replicate 4 (.post .quote) } }

theorem witness_busy_portFree : busy.portFree := ⟨rfl, rfl, rfl, by decide +kernel⟩

theorem witness_HostWritePassesOrDrops :
    (part.path.load = .clear ∧ busy.path.load ≠ .clear ∧ (0x3FF : Addr).toNat < 0x400 ∧ 0xC00 ≤ (0xC00 : Addr).toNat) ∧
    (inRegion 0xFFF cfg.win.intake 256 = false ∧ inRegion 0xFFF cfg.win.sale 64 = false ∧ inRegion 0xFFF cfg.win.report 64 = false ∧
      inRegion 0xFFF cfg.win.journal (16 + 14 * cfg.win.jsize) = false) ∧
    (inRegion 0x10FF cfg.win.intake 256 = true ∧ busy.path.intake.getD ((0x10FF - cfg.win.intake) / 16) .clear ≠ .clear) ∧
    (inRegion 0x113F cfg.win.sale 64 = true ∧ busy.path.sale.getD ((0x113F - cfg.win.sale) / 16) .clear ≠ .clear) ∧
    inRegion 0x13EF cfg.win.journal (16 + 14 * cfg.win.jsize) = true ∧
    inRegion 0x13F0 cfg.win.journal (16 + 14 * cfg.win.jsize) = false :=
  ⟨⟨rfl, by decide, by decide, by decide⟩, by decide +kernel, by decide +kernel, by decide +kernel, by decide +kernel, by decide +kernel⟩

theorem witness_host_writes_in_windows :
    (inReset.power.main = true ∧ inReset.power.reset = true ∧ inReset.path.waiting = []) ∧
    (busy.path.waiting = [] ∧ busy.path.command ≠ .clear ∧ 0x400 ≤ (0x400 : Addr).toNat ∧ (0xBFF : Addr).toNat < 0xC00) ∧
    ((0x1204 : Addr).toNat = cfg.win.report + 4 ∧ (0x120D : Addr).toNat = cfg.win.report + 13 ∧ part.path.command = .clear) ∧
    ((0x10FF : Addr).toNat = cfg.win.intake + 16 * 15 + 15 ∧ part.path.intake.getD 15 .clear = .clear ∧
      (0x113F : Addr).toNat = cfg.win.sale + 16 * 3 + 15 ∧ part.path.sale.getD 3 .clear = .clear) ∧
    (∀ code, (0 : Word) ≠ saleWord code) ∧ (∀ code, (0 : Word) ≠ commandWord code) := by
  refine ⟨by decide +kernel, by decide +kernel, by decide +kernel, by decide +kernel, ?_, ?_⟩ <;> intro code <;> cases code <;> decide

theorem witness_FlagsAreRaisedAndCleared : part.cfg = some cfg ∧ cfg.windowsFit ∧ part.portFree := ⟨rfl, test_cfg_fits, test_part_free⟩

/-- The part with an input event outstanding. -/
def oneEvent : State := { part with rep := { part.rep with inWrite := 1 } }

theorem witness_MaskEnableAndReadIndex :
    (oneEvent.cfg = some cfg ∧ cfg.windowsFit ∧ oneEvent.portFree) ∧
    (let ok := fun v : Word => v.toNat ≤ 15 ∧ (v.toNat + 16 - oneEvent.rep.inRead) % 16 ≤
      (oneEvent.rep.inWrite + 16 - oneEvent.rep.inRead) % 16
     ok 0 ∧ ok 1 ∧ ¬ ok 2 ∧ ¬ ok 16) ∧
    (1 = oneEvent.rep.inRead % 65536 / 256 * 256 + (0x0101 : Word).toNat % 256) :=
  ⟨⟨rfl, test_cfg_fits, rfl, rfl, rfl, by decide +kernel⟩, by decide +kernel, by decide +kernel⟩

theorem witness_ClockGroupRead :
    part.cfg = some cfg ∧ cfg.windowsFit ∧ part.power.main = true ∧ part.power.reset = false ∧ part.path.waiting = [] :=
  ⟨rfl, test_cfg_fits, rfl, rfl, rfl⟩

theorem witness_posts :
    (part.cfg = some cfg ∧ cfg.windowsFit ∧ part.portFree ∧ part.path.load = .clear ∧ part.path.command = .clear ∧
      part.path.intake.getD 15 .clear = .clear ∧ part.path.sale.getD 3 .clear = .clear ∧
      part.loader.stage.finishing = false ∧ part.loader.stage.stopsIssue = false ∧ part.loader.stage.starting = false) ∧
    busy.portFree ∧ busy.path.load ≠ .clear ∧ busy.path.command ≠ .clear ∧ busy.path.intake.getD 15 .clear ≠ .clear ∧
    busy.path.sale.getD 3 .clear ≠ .clear :=
  ⟨⟨rfl, test_cfg_fits, test_part_free, rfl, rfl, rfl, rfl, rfl, rfl, rfl⟩, witness_busy_portFree, by decide, by decide, by decide, by decide⟩

/-- The part, or the unconfigured part, with a fetched descriptor. -/
def fetchedBy (s : State) (got : List Word) : State := { s with loader := { s.loader with stage := .fetched got } }

theorem test_rejection_none (s : State) (d : List Word) (h : descriptorFault d = none)
    (hj : (s.cfg.isNone && journalFails s.bat (readSettings d)) = false) : s.rejection d = none := by
  simp [State.rejection, h, hj]

theorem test_rejection (s : State) (h : journalFails s.bat cfg = false) : s.rejection desc = none :=
  test_rejection_none s desc test_desc_accepted ((congrArg (s.cfg.isNone && ·) h).trans (Bool.and_false _))

theorem witness_DescriptorRejectedOrFirstAccepted :
    ((fetchedBy State.reset desc).loader.stage = .fetched desc ∧ (fetchedBy State.reset desc).rejection desc = none ∧
      (fetchedBy State.reset desc).cfg = none) ∧
    (dnat [2, 256] 1 ≠ 1) ∧ (dnat [1, 255] 1 = 1 ∧ ¬ (256 ≤ dnat [1, 255] 2 ∧ dnat [1, 255] 2 ≤ 2048)) ∧
    (¬ (256 ≤ dnat [1, 2049] 2 ∧ dnat [1, 2049] 2 ≤ 2048)) ∧
    (256 ≤ dnat desc 2 ∧ dnat desc 2 ≤ 2048 ∧ checkOk desc = true ∧ windowsOk (readWindows desc) = true ∧ valuesOk desc = true) :=
  ⟨⟨rfl, test_rejection _ (by decide +kernel), rfl⟩, by decide, by decide, by decide,
    by decide +kernel, by decide +kernel, test_desc_checked, by decide +kernel, by decide +kernel⟩

/-- A part whose slots are being examined, at a slot, with memory as given. -/
def scanned (n : Nat) (mem : List Host.Cell) : State :=
  { part with mem := mem, loader := { part.loader with stage := .scanning n } }

theorem witness_first_acceptance_stages :
    ((scanned 15 (Memory.writeLanes [] 0x10F0 Code.busy .both)).turnOf .loader (.read 0x10F0) ∧
      (scanned 15 (Memory.writeLanes [] 0x10F0 Code.busy .both)).peek 0x10F0 = Code.busy ∧
      (scanned 15 []).path.intake.getD 15 .clear = .clear) ∧
    ((scanned 16 (Memory.writeLanes [] 0x1100 Code.busy .both)).turnOf .loader (.read 0x1100) ∧
      (scanned 16 (Memory.writeLanes [] 0x1100 Code.busy .both)).peek 0x1100 = Code.busy ∧
      (scanned 16 []).path.sale.getD 0 .clear = .clear) ∧
    ((scanned 18 []).turnOf .loader (.read 0x1120) ∧ (scanned 18 []).peek 0x1120 ≠ Code.busy) ∧
    ((scanned 19 []).turnOf .loader (.read 0x1130) ∧ (scanned 19 []).peek 0x1130 ≠ Code.busy) ∧
    ({ scanned 1 [] with loader := { (scanned 1 []).loader with
        accs := [⟨0x1000, Code.refused, .restartIntake 0⟩] } } : State).turnOf .loader (.write 0x1000 Code.refused) ∧
    ({ scanned 17 [] with loader := { (scanned 17 []).loader with
        accs := [⟨0x1100, Code.refused, .restartSale 0⟩] } } : State).turnOf .loader (.write 0x1100 Code.refused) := by
  refine ⟨⟨?_, by decide +kernel, rfl⟩, ⟨?_, by decide +kernel, rfl⟩, ⟨?_, by decide +kernel⟩, ⟨?_, by decide +kernel⟩, ?_, ?_⟩ <;>
    exact (State.turnOf_iff _ _ _).mpr (by decide +kernel)

theorem witness_posts_that_wait :
    ((scanned 5 []).cfg = some cfg ∧ (scanned 5 []).portFree ∧ (scanned 5 []).loader.stage.starting = true ∧
      (scanned 5 []).loader.stage.finishing = false ∧ (scanned 5 []).path.command = .clear) ∧
    (LoaderStage.reloadTicket cfg []).stopsIssue = true ∧ (LoaderStage.reloadTicket cfg []).finishing = false :=
  ⟨⟨rfl, ⟨rfl, rfl, rfl, by decide +kernel⟩, rfl, rfl, rfl⟩, rfl, rfl⟩

/-- The part in the first write of its report block, with some words still to be written. -/
def firstWriting (but : List Nat) : State :=
  { reported but with loader := { part.loader with state := .loading, stage := .firstReport } }

/-- The loader's writes waiting after a part cycle. -/
def loadWritesAfter (s : State) : Option (List (Nat × Word)) :=
  match exec (.partCycle none) s with
  | .next t => some (t.loader.accs.map fun a => (a.addr, a.val))
  | _ => none

theorem witness_first_write :
    ((firstWriting [62, 63]).cfg = some cfg ∧ (firstWriting [62, 63]).takesCycle .report (.write 0x123E 0) ∧
      (firstWriting [62, 63]).loader.stage = .firstReport ∧ (firstWriting [62, 63]).loader.accs = [] ∧
      (firstWriting [62, 63]).firstWritten = false) ∧
    (loadWritesAfter (firstWriting [62, 63]) = some [] ∧
      loadWritesAfter (firstWriting [63]) = some [(0x403, 0), (0x400, Code.accepted)]) := by
  refine ⟨⟨rfl, ?_, rfl, rfl, by decide +kernel⟩, by decide +kernel⟩
  exact test_takes _ _ _ (by decide +kernel) (by decide +kernel) (by decide +kernel) (by decide +kernel) (by decide +kernel)

/-- Where the intake job and the issue unit stand after a command. -/
def jobsAfter (i : Instr) (s : State) : Option (IntakeStage × SaleStage) :=
  match exec i s with
  | .next t => some (t.intake.stage, t.issue.stage)
  | _ => none

theorem test_jobs_start_at_stage_4 :
    jobsAfter (.submit 0) (scanned 5 []) = some (.idle, .idle) ∧ jobsAfter (.saleSlotPost 0 .quote) (scanned 5 []) = some (.idle, .idle) ∧
    jobsAfter (.partCycle none)
      { scanned 19 [] with intake := { fifo := [0], stage := .idle }, issue := { part.issue with fifo := [0] } } =
      some (.fetching [], .fetching []) := by decide +kernel

/-- The part with a fetched descriptor and a ticket whose state word is still to land. -/
def ticketState : State :=
  { fetchedBy part desc with issue := { part.issue with
      fifo := [0], stage := .ticket
        { product := .single, counts := ⟨1, 0, 0⟩, dest := 1, train := 101, fare := 200, validity := 30600, day := 0, second := 25200 }
      accs := [⟨0x131D, Code.unsent, .journalState⟩] } }

/-- The part with a fetched descriptor, another journal size in the battery domain, and `n` unconfirmed records. -/
def otherJournal (n : Nat) : State :=
  { fetchedBy part desc with bat := { part.bat with geometry := some ⟨0x1300, 32⟩, write := n } }

theorem witness_ReloadAcceptance :
    (ticketState.cfg = some cfg ∧ ticketState.loader.stage = .fetched desc ∧ ticketState.ticketInWork = true) ∧
    ((otherJournal 1).ticketInWork = false ∧ journalFails (otherJournal 1).bat (readSettings desc) = true) ∧
    (journalFails (otherJournal 0).bat (readSettings desc) = false ∧ (otherJournal 0).slotsFinished = true ∧
      (otherJournal 0).issue.accs = [] ∧ (∀ slot, (otherJournal 0).issue.records.getD slot .empty = .empty)) ∧
    ticketState.rejection desc = none :=
  ⟨⟨rfl, rfl, rfl⟩, ⟨rfl, by decide +kernel⟩, ⟨by decide +kernel, by decide +kernel, rfl, fun slot => by
    match slot with
    | 0 | 1 | 2 | 3 => rfl
    | _ + 4 => rfl⟩, test_rejection _ (by decide +kernel)⟩

/-- The part with a fetched descriptor, an intake slot ready, a sale slot answering and a command owned. -/
def inWork : State :=
  { fetchedBy part desc with
    intake := { fifo := [2], stage := .ready [] }, issue := { part.issue with fifo := [1], stage := .answering }
    rep := { part.rep with command := .owned .localNotice } }

theorem witness_reload_stages :
    (inWork.cfg = some cfg ∧ inWork.loader.stage = .fetched desc ∧ inWork.ticketInWork = false ∧
      journalFails inWork.bat (readSettings desc) = false ∧ inWork.intake.fifo ≠ [] ∧ inWork.rejection desc = none) ∧
    ((fetchedBy (withQuote 2000 .clear) desc).slotsFinished = true ∧ (fetchedBy (withQuote 2000 .clear) desc).ticketInWork = false ∧
      (fetchedBy (withQuote 2000 .clear) desc).issue.records.getD 0 .empty = .live (quote0 2000) ∧
      (∀ slot : Fin 4, (fetchedBy (withQuote 2000 .clear) desc).path.sale.getD slot.val .clear = .clear) ∧
      journalFails (fetchedBy (withQuote 2000 .clear) desc).bat (readSettings desc) = false) :=
  ⟨⟨rfl, rfl, rfl, by decide +kernel, nofun, test_rejection _ (by decide +kernel)⟩,
    by decide +kernel, by decide +kernel, rfl, by decide +kernel, by decide +kernel⟩

/-- A reload waits for the landing of ISSUED, with an intake slot and a command posted meanwhile. -/
def posted (s : State) : State :=
  { s with
    loader := { s.loader with state := .loading, stage := .reloadTicket (readSettings desc) [3] }
    path := { s.path with intake := s.path.intake.set 3 (.post ()), command := .post .play }
    intake := { fifo := [3], stage := .idle }, rep := { s.rep with command := .held .play }
    issue := { s.issue with fifo := [0], stage := .answering, accs := [⟨0x1100, Code.issued, .salePost 0⟩] } }

theorem witness_reload_wait :
    ((posted part).takesCycle .issue (.write 0x1100 Code.issued) ∧ (posted part).ticketInWork = true ∧
      (((posted part).landed (.write 0x1100 Code.issued)).served .issue 0).ticketInWork = false ∧
      (((posted part).landed (.write 0x1100 Code.issued)).served .issue 0).loader.stage = .reloadTicket (readSettings desc) [3]) ∧
    ((posted part).cfg = some cfg ∧ (posted part).portFree ∧ (posted part).path.intake.getD 4 .clear = .clear ∧
      (∀ next, (posted part).loader.stage ≠ .reloadFinish next)) ∧
    ({ part with loader := { part.loader with stage := .reloadFinish cfg } } : State).portFree ∧
    (((posted part).landed (.write 0x1100 Code.issued)).served .issue 0).rejection desc = none := by
  refine ⟨⟨test_takes _ _ _ ?_ ?_ ?_ ?_ ?_, ?_, ?_, rfl⟩, ⟨rfl, ⟨rfl, rfl, rfl, ?_⟩, rfl, nofun⟩, ⟨rfl, rfl, rfl, ?_⟩, test_rejection _ ?_⟩ <;> decide +kernel

/-- What a part cycle leaves the intake job and the command at. -/
def heldAfter (s : State) : Option (IntakeStage × CommandStage) :=
  match exec (.partCycle none) s with
  | .next t => some (t.intake.stage, t.rep.command)
  | _ => none

theorem test_posts_of_stage_1_are_reconfigured :
    jobsAfter (.submit 4) (posted part) = some (.idle, .answering) ∧
    heldAfter (posted part) = some
      (.answering [⟨0x103D, Code.reconfigured, .plain⟩, ⟨0x103E, Code.noEntry, .plain⟩, ⟨0x103F, Code.noEntry, .plain⟩,
        ⟨0x1030, Code.refused, .intakePost 3⟩],
       .answering [⟨0x120D, Code.reconfigured, .plain⟩, ⟨0x1204, Code.refused, .commandPost⟩]) ∧
    heldAfter (posted (otherJournal 1)) = some (.fetching [], .fetching .play []) := by decide +kernel

theorem witness_reload_of_configured : (otherJournal 1).cfg = some cfg ∧ (otherJournal 1).rejection desc = none :=
  ⟨rfl, test_rejection_none _ desc test_desc_accepted (Bool.false_and _)⟩

/-- The nine words of an update image: kind and tag, train, the two time words, facts, destination, calling. -/
def image (kind tag train w3 w4 w5 w6 : Nat) : List Word :=
  [BitVec.ofNat 16 (kind * 256 + tag), BitVec.ofNat 16 train, BitVec.ofNat 16 w3, BitVec.ofNat 16 w4, BitVec.ofNat 16 w5,
   BitVec.ofNat 16 w6, 0, 0, 0]

/-- A state whose intake job has an image ready. -/
def localTurn (s : State) (im : List Word) : State := { s with intake := { fifo := [2], stage := .ready im } }

/-- A state whose link has an image of an UPDATE frame to apply. -/
def lineTurn (s : State) (im : List Word) : State :=
  { s with link := { s.link with
      pending := some { since := 0, turnaround := 10, haltId := 7, seq := 1, build := .updating [im] [] } } }

theorem test_turns (s : State) (im : List Word) (k : UpdateKind) (h : imageKind im = some k) :
    (localTurn s im).turn .loc im k ∧ (lineTurn s im).turn .line im k := ⟨⟨h, rfl⟩, h, [], [], rfl⟩

/-- The part with the departure in a phase, with a cancellation. -/
def partWith (ph : Phase) (why : Option Nat) : State := { part with table := [{ dep with phase := ph, cancel := why }] }

theorem witness_UpdateChecksAndDelete :
    (imageKind (image 2 0 101 0 0 0 0) = some .delete ∧ part.accepts cfg .delete (readImage (image 2 0 101 0 0 0 0)) ∧
      part.entry? (readImage (image 2 0 101 0 0 0 0)).who = some dep) ∧
    (part.accepts cfg .delete (readImage (image 2 1 101 0 0 0 0)) ∧
      part.entry? (readImage (image 2 1 101 0 0 0 0)).who = none) ∧
    (readImage (image 2 0 0 0 0 0 0)).train = 0 ∧ 3 < (readImage (image 2 4 101 0 0 0 0)).tag ∧
    15 < (readImage (image 3 0 101 16 0 0 0)).reason ∧
    1 < (readImage (image 1 0 102 0 0 0x8000 0x100)).direction ∧ 86399 < (readImage (image 1 0 102 1 20864 0 0x100)).sched ∧
    6 < (readImage (image 1 0 102 0 0 0 0x107)).nCalling ∧ (readImage (image 1 0 102 0 0 0 0)).dest = cfg.fare.halt ∧
    cfg.present (readImage (image 1 0 102 0 0 0 0x4000)).dest = false ∧
    (imageFieldsOk cfg .delete (readImage (image 2 2 101 0 0 0 0)) = true ∧ relationOf part.bat.day 2 = .unheld) ∧
    (imageFieldsOk cfg .delete (readImage (image 2 3 101 0 0 0 0)) = true ∧ relationOf part.bat.day 3 = .previous ∧
      part.entry? (readImage (image 2 3 101 0 0 0 0)).who = none) := by
  unfold State.accepts
  decide +kernel

theorem test_calling_list_checked :
    imageFieldsOk cfg .record (readImage (image 1 0 102 0 28800 2 0x100)) = true ∧
    imageFieldsOk cfg .record (readImage (image 1 0 102 0 28800 2 0x101)) = false ∧
    noRepeats [2, 1, 2] = false ∧ noRepeats [2, 1] = true := by decide +kernel

/-- The part with a full table of undeparted entries. -/
def full (ph : Phase) : State :=
  { part with table := (List.range 48).map fun k => { dep with train := 200 + k, phase := if k = 0 then ph else .waiting } }

theorem witness_RecordAddsOrReplaces :
    (imageKind (image 1 0 102 0 28800 2 0x100) = some .record ∧ part.accepts cfg .record (readImage (image 1 0 102 0 28800 2 0x100)) ∧
      part.entry? ⟨102, 0⟩ = none ∧ part.table.length < 48) ∧
    ((full .waiting).accepts cfg .record (readImage (image 1 0 102 0 28800 2 0x100)) ∧
      (full .waiting).entry? ⟨102, 0⟩ = none ∧ 48 ≤ (full .waiting).table.length ∧
      evictee (full .waiting).bat (full .waiting).table .current 28800 = none) ∧
    ((full .departed).accepts cfg .record (readImage (image 1 0 102 0 28800 2 0x100)) ∧
      evictee (full .departed).bat (full .departed).table .current 28800 = some { dep with train := 200, phase := .departed }) ∧
    (part.accepts cfg .record (readImage (image 1 0 101 0 28800 2 0x100)) ∧ part.entry? ⟨101, 0⟩ = some dep ∧
      ((readImage (image 1 0 101 0 28800 1 0x100)).version + 256 - dep.version) % 256 = 0 ∧
      ((readImage (image 1 0 101 0 28800 2 0x100)).version + 256 - dep.version) % 256 = 1 ∧
      ((readImage (image 1 0 101 0 28800 128 0x100)).version + 256 - dep.version) % 256 = 127 ∧
      ((readImage (image 1 0 101 0 28800 129 0x100)).version + 256 - dep.version) % 256 = 128) ∧
    (readImage (image 1 0 101 0 28800 0x2002 0x100)).noSale = true := by
  unfold State.accepts
  decide +kernel

theorem witness_CancelReinstateDeparted :
    (imageKind (image 3 0 101 15 0 0 0) = some .cancel ∧ part.accepts cfg .cancel (readImage (image 3 0 101 15 0 0 0)) ∧
      imageKind (image 4 0 101 0 0 0 0) = some .reinstate ∧ part.accepts cfg .reinstate (readImage (image 4 0 101 0 0 0 0)) ∧
      imageKind (image 6 0 101 0 0 0 0) = some .departed ∧ part.accepts cfg .departed (readImage (image 6 0 101 0 0 0 0))) ∧
    (part.entry? ⟨101, 0⟩ = some dep ∧ dep.phase = .waiting ∧ part.entry? ⟨102, 0⟩ = none) ∧
    ((partWith .cancelled (some 15)).entry? ⟨101, 0⟩ = some { dep with phase := .cancelled, cancel := some 15 } ∧
      (partWith .cancelled (some 15)).accepts cfg .cancel (readImage (image 3 0 101 15 0 0 0)) ∧
      (partWith .cancelled (some 15)).accepts cfg .reinstate (readImage (image 4 0 101 0 0 0 0))) ∧
    ((partWith .departed none).entry? ⟨101, 0⟩ = some { dep with phase := .departed } ∧
      (partWith .departed none).accepts cfg .departed (readImage (image 6 0 101 0 0 0 0))) ∧
    (partWith .due none).entry? ⟨101, 0⟩ = some { dep with phase := .due } := by
  unfold State.accepts
  decide +kernel

theorem witness_ReportProjects :
    (imageKind (image 5 0 101 300 0x8001 0 0) = some .report ∧ part.accepts cfg .report (readImage (image 5 0 101 300 0x8001 0 0)) ∧
      part.entry? ⟨101, 0⟩ = some dep ∧ dep.phase ≠ .departed ∧ part.entry? ⟨102, 0⟩ = none) ∧
    (partWith .departed none).entry? ⟨101, 0⟩ = some { dep with phase := .departed } ∧
    (partWith .cancelled (some 1)).entry? ⟨101, 0⟩ = some { dep with phase := .cancelled, cancel := some 1 } := by
  unfold State.accepts
  decide +kernel

/-- A full queue of requests of a kind, behind a current announcement. -/
def queued (k : AnnKind) : State :=
  { sounding true [] with ann := { (sounding true []).ann with queue := List.replicate 4 { kind := k, who := none, clips := [0] } } }

/-- The part with its departure cancelled, and DUE if it is reinstated. -/
def dueIfReinstated : State :=
  { part with table := [{ dep with phase := .cancelled, cancel := some 1, sched := 25200, exp := 25200 }] }

theorem witness_requests :
    (dueIfReinstated.accepts cfg .reinstate (readImage (image 4 0 101 0 0 0 0)) ∧ dueIfReinstated.bat.clock = .set ∧
      ((25200 : Nat) : Int) - cfg.proj.window ≤ dep.now dueIfReinstated.bat) ∧
    (dep.delayAnn.getD 0 + cfg.proj.step ≤ min (300 / 60) 59 ∧ dep.dueAnn = false) ∧
    ((queued .delay).ann.current = some (annOf true) ∧ AnnKind.due.priority ≤ (annOf true).kind.priority ∧
      (∀ x ∈ (queued .delay).ann.queue, x.kind.priority ≤ (annOf true).kind.priority ∧ x.who = none) ∧
      4 ≤ (queued .delay).ann.queue.length ∧
      (queued .delay).ann.queue.getLast? = some { kind := .delay, who := none, clips := [0] } ∧
      AnnKind.delay.priority < AnnKind.due.priority ∧ ¬ AnnKind.due.priority < AnnKind.due.priority) ∧
    ((sounding true []).ann.queue.length < 4 ∧ (sounding true []).ann.supplyLow = false) := by
  unfold State.accepts
  decide +kernel

/-- The part, with an announcement current, with a departure shown ten minutes late and about to be reported as five. -/
def nearing : State :=
  { sounding true [] with table := [{ dep with sched := 25000, hm := 10, exp := 25600, report := some ⟨600, 0, false, 0⟩ }] }

/-- The announcer's queue and current announcement, and the phase and the announced delays, after a command. -/
def announcedAfter (i : Instr) (s : State) : Option (List AnnKind × Option AnnKind × List (Phase × Option Nat)) :=
  match exec i s with
  | .next t => some (t.ann.queue.map AnnReq.kind, t.ann.current.map Announcement.kind, t.table.map fun e => (e.phase, e.delayAnn))
  | _ => none

theorem witness_report_enters_due :
    (nearing.accepts cfg .report (readImage (image 5 0 101 300 0x8001 0 0)) ∧
      nearing.entry? ⟨101, 0⟩ = nearing.table.head? ∧ nearing.bat.clock = .set) ∧
    (((25300 : Nat) : Int) - cfg.proj.window ≤ dep.now nearing.bat ∧ ¬ ((25300 : Nat) : Int) + cfg.proj.grace ≤ dep.now nearing.bat) ∧
    (5 ≠ 10 ∧ dep.delayAnn.getD 0 + cfg.proj.step ≤ min 5 59) ∧
    announcedAfter (.report .loc) (localTurn nearing (image 5 0 101 300 0x8001 0 0)) = some ([.due], some .play, [(.due, none)]) := by
  unfold State.accepts
  decide +kernel

/-! ### Sales -/

/-- A state whose sale slot 0 has a fetched request of a code. -/
def asked (s : State) (code : SaleCode) (req : List Word) : State :=
  { s with
    path := { s.path with sale := [.post code, .clear, .clear, .clear] }
    issue := { s.issue with fifo := [0], stage := .ready req } }

theorem test_asked (s : State) (code : SaleCode) (req : List Word) : (asked s code req).saleReady code = some (0, req) := by
  unfold State.saleReady asked
  simp

theorem witness_QuoteAnswers :
    ((asked part .quote [1, 0x100, 1, 0]).cfg = some cfg ∧ part.bat.clock = .set ∧ State.reset.bat.clock = .unset) ∧
    (9 < (readCounts 0xA00).adults ∧ 9 < (readCounts 0xA0).conc ∧ 9 < (readCounts 0xA).children ∧ 63 < (64 : Word).toNat ∧
      cfg.present 3 = false ∧ productOf 4 = none) ∧
    (productOf 1 = some .single ∧ productOf 3 = some .day ∧ cfg.present 1 = true ∧ (readCounts 0).total = 0 ∧
      (readCounts 0x550).total = 10 ∧ (readCounts 0x540).total = 9 ∧ (readCounts 0x100).total = 1) ∧
    (0 = cfg.fare.halt ∧ cfg.present 0 = true ∧ State.reset.bat.freeEntries = 0 ∧ 0 < part.bat.freeEntries) ∧
    (({ part with table := [] } : State).anySellable cfg = false ∧ part.anySellable cfg = true ∧
      part.bind? cfg 1 999 = none ∧ part.bind? cfg 1 0 = some dep) ∧
    (part.bat.couldCommit .single (cfg.totalFare 1 .single dep.sched (readCounts 0x100)) = true ∧
      { part.bat with single := ⟨0, 4294967295⟩ }.couldCommit .single (cfg.totalFare 1 .single dep.sched (readCounts 0x100)) = false ∧
      part.bat.couldCommit .day (cfg.totalFare 1 .day part.bat.now (readCounts 0x100)) = true ∧
      { part.bat with nextSerial := 4294967295 }.couldCommit .day 0 = false) := by decide +kernel

theorem witness_IssueChecksThenWrites :
    ((asked (withQuote 2000 .clear) .issue []).cfg = some cfg ∧
      (asked (withQuote 2000 .clear) .issue []).issue.records.getD 0 .empty = .live (quote0 2000) ∧
      (asked (withQuote 2000 .clear) .issue []).bat.clock = .set ∧
      (asked (withQuote 2000 .clear) .issue []).quoteStands cfg (quote0 2000) = true ∧
      0 < (asked (withQuote 2000 .clear) .issue []).bat.freeEntries ∧
      (asked (withQuote 2000 .clear) .issue []).bat.couldCommit .single 200 = true) ∧
    (part.issue.records.getD 0 .empty = .empty ∧ State.reset.bat.clock = .unset) ∧
    ({ withQuote 2000 .clear with table := [] } : State).quoteStands cfg (quote0 2000) = false ∧
    { part.bat with geometry := none }.freeEntries = 0 ∧ { part.bat with nextSerial := 4294967295 }.couldCommit .single 200 = false := by
  decide +kernel

/-- The part with a ticket whose state word is about to land, the host waiting or not. -/
def landing (w : List HostCycle) : State :=
  { ticketState with loader := part.loader, path := { part.path with waiting := w } }

theorem witness_CommitTicket :
    ((landing []).power.main = true ∧ (landing []).cfg = some cfg ∧ (landing []).bat.geometry = some ⟨0x1300, 16⟩ ∧
      (landing []).issue.fifo = 0 :: [] ∧ (landing []).issue.accs = ⟨0x131D, Code.unsent, .journalState⟩ :: [] ∧
      (landing []).loader.stage = .idle ∧ (landing []).grant = some (.inr .issue)) ∧
    ({ landing [] with loader := { part.loader with stage := .firstReport } } : State).firstWritten = false ∧
    (landing [.read 0]).grant ≠ some (.inr .issue) := by decide +kernel

theorem witness_ReleaseEmpties (req : List Word) :
    (asked part .release req).cfg = some cfg ∧ (asked part .release req).saleReady .release = some (0, req) :=
  ⟨rfl, test_asked _ _ _⟩

/-! ### Commands of the report block -/

/-- A state whose command word holds a fetched command. -/
def ordered (s : State) (code : CommandCode) (args : List Word) : State := { s with rep := { s.rep with command := .ready code args } }

theorem witness_SetClockCommand :
    ((ordered part .setClock [1, 20863, 5]).cfg = some cfg ∧
      (ordered part .setClock [1, 20863, 5]).rep.command = .ready .setClock [1, 20863, 5] ∧ pairVal 1 20863 ≤ 86399) ∧
    86399 < pairVal 1 20864 ∧ cfg.link.authority = false ∧
    ({ part with
        cfg := some { cfg with link := { cfg.link with authority := true } }, link := { part.link with state := .up } } : State).link.state
      = .up := ⟨⟨rfl, rfl, by decide⟩, by decide, by decide +kernel, rfl⟩

theorem witness_CalibrateAndReseed :
    (ordered part .calibrate [255]).rep.command = .ready .calibrate [255] ∧ (ordered part .reseed [1]).rep.command = .ready .reseed [1] ∧
    ([255].getD 0 (0 : Word)).toNat ≤ 255 ∧ 255 < ([256].getD 0 (0 : Word)).toNat ∧ part.wet = false ∧
    (panelOf (chan .active 0)).panel.chans[6]? = some (chan .active 0) ∧ (255 : Nat).testBit 6 = true ∧ (1 : Nat).testBit 1 = false := by
  decide +kernel

theorem witness_PlayAndLocalNotice :
    ((ordered part .play [1, 0, 0, 0, 0]).cfg = some cfg ∧ playClips [8, 0, 0, 0, 0] = some (List.replicate 8 0)) ∧
    (8 < ([9].getD 0 (0 : Word)).toNat ∧ 127 < (wordChars ([1, 0x8000].tail : List Word) 1).getD 0 0) ∧
    (part.ann.queue.length < 4 ∧ part.ann.current = none ∧ part.ann.queue = [] ∧ (∃ k ∈ [2], k < cfg.clips) ∧
      (∀ k ∈ [3], cfg.clips ≤ k)) ∧
    ((queued .delay).ann.queue.getLast? = some { kind := .delay, who := none, clips := [0] } ∧ AnnKind.delay.priority < 2) ∧
    ((sounding true []).ann.current = some (annOf true) ∧ (annOf true).cut = none ∧ (annOf true).playing = true ∧
      AnnKind.play.priority ≤ (annOf true).kind.priority ∧ AnnKind.delay.priority < AnnKind.play.priority ∧
      (annOf false).playing = false) ∧
    (4 ≤ (queued .due).ann.queue.length ∧ (queued .due).ann.queue.getLast? = some { kind := .due, who := none, clips := [0] } ∧
      2 ≤ AnnKind.due.priority ∧ (queued .due).ann.current ≠ none) ∧
    ((ordered part .localNotice [0xF, 0xFFE0, 64, 1]).rep.command = .ready .localNotice [0xF, 0xFFE0, 64, 1] ∧
      pairAddr 0xF 0xFFE0 + (64 + 1) / 2 ≤ 1048576 ∧ 1048576 < pairAddr 0xF 0xFFE1 + (64 + 1) / 2) := by decide +kernel

/-- A LOCAL_NOTICE text of four characters, with `n` words fetched. -/
def fetching (n : Nat) : NoticeFetch := { addr := 0x6000, len := 4, duration := 60, got := List.replicate n 0x4142 }

/-- The part with a LOCAL_NOTICE in work. -/
def noticing (n : Nat) : State :=
  { part with
    board := { part.board with noticeFetch := some (fetching n) }
    rep := { part.rep with command := .owned .localNotice } }

theorem witness_notice_text :
    ((noticing 0).cfg = some cfg ∧ (noticing 0).takesCycle .composer (.read 0x6000) ∧ (noticing 0).noticeFirst = true ∧
      (noticing 0).board.noticeFetch = some (fetching 0)) ∧
    ((noticing 1).takesCycle .composer (.read 0x6001) ∧ (noticing 1).noticeFirst = true) := by
  refine ⟨⟨rfl, ?_, by decide +kernel, rfl⟩, ?_, by decide +kernel⟩ <;>
    exact test_takes _ _ _ (by decide +kernel) (by decide +kernel) (by decide +kernel) (by decide +kernel) (by decide +kernel)

theorem witness_preempted :
    ({ ordered (sounding false []) .play [1, 0, 0, 0, 0] with ann := { (sounding false []).ann with
        current := some { annOf false with kind := .delay } } } : State).ann.current = some { annOf false with kind := .delay } ∧
    AnnKind.delay.priority < (AnnReq.kind { kind := .play, who := none, clips := [0] }).priority := by decide +kernel

theorem witness_SelectionDoneAndJournalPush :
    ((ordered (selIn .handed 9999) .selectionDone []).cfg = some cfg ∧ (selIn .handed 9999).sel.state = .handed ∧
      (selIn .browse 9999).sel.state ≠ .handed) ∧
    (part.bat.unconfirmed = 0 ∧ 0 < { part.bat with write := 1 }.unconfirmed ∧
      (ordered part .journalPush []).rep.command = .ready .journalPush []) := by
  refine ⟨⟨rfl, rfl, ?_⟩, ?_⟩ <;> decide +kernel

/-! ### Frames -/

theorem test_hears : part.hears := ⟨rfl, rfl, rfl⟩

/-- The part with a receiver phase. -/
def hearing (r : Receiver) : State := { part with link := { part.link with receiver := r } }

theorem witness_FrameErrorsAndForeignFrames :
    (part.cfg = some cfg ∧ part.hears ∧ (0xC5 : Byte) ∉ [0, 0xC4] ∧ [1, 2, 3].length < 4) ∧
    (7 < (8 : Byte).toNat ∧ 60 < (61 : Byte).toNat ∧ (7 : Byte).toNat ≤ 7 ∧ (60 : Byte).toNat ≤ 60) ∧
    ([0, 0, 0].length < 2 * (1 : Byte).toNat + 2 ∧ [0, 0].length = 2 * (0 : Byte).toNat + 2 ∧
      wordBytes [crcBytes [1, 0, 7, 0]] ≠ [0, 0]) ∧
    (1024 * cfg.link.gap < 1000 * (1024000 - 1024000 + 11) ∧ 1000 * (1024000 - 1024000 + 10) ≤ 1024 * cfg.link.gap) ∧
    ((hearing (.header [1] 1024000)).link.receiver = .header [1] 1024000 ∧ addressedFrame (.poll 0 []) = some (0x01, 0, []) ∧
      0xC5 :: [1] <+: Frame.bytes { kind := 0x01, seq := 0, halt := BitVec.ofNat 8 cfg.link.haltId, payload := [] }) ∧
    ((8 : Byte).toNat ≠ cfg.link.haltId ∧ isReplyKind 1 = false ∧ isReplyKind 0x84 = true) :=
  ⟨⟨rfl, test_hears, by decide, by decide⟩, by decide, ⟨by decide, by decide, by decide +kernel⟩, by decide +kernel,
    ⟨rfl, rfl, by decide +kernel⟩, by decide +kernel⟩

/-- The part with a frame in its history, and a last reply or none. -/
def heardOnce (kind : Byte) (seq : Fin 8) (payload : List Word) (last : Option (List Byte)) : State :=
  { part with link := { part.link with history := some (cfg.frameMark kind seq payload), lastReply := last } }

theorem witness_DuplicateFrame (payload : List Word) (last : Option (List Byte)) (_ : payload.length ≤ 60) :
    (heardOnce 0x02 3 payload last).cfg = some cfg ∧ (heardOnce 0x02 3 payload last).hears ∧
    addressedFrame (.update 3 payload) = some (0x02, 3, payload) ∧
    (heardOnce 0x02 3 payload last).link.history = some (cfg.frameMark 0x02 3 payload) ∧
    (heardOnce 0x02 3 payload last).link.lastReply = last := ⟨rfl, ⟨rfl, rfl, rfl⟩, rfl, rfl, rfl⟩

/-- The part with journal indices and a push mark. -/
def journalled (w sd cf : Nat) (push : Bool) : State :=
  { part with bat := { part.bat with write := w, send := sd, confirm := cf }, link := { part.link with push := push } }

theorem witness_PollAndStatus :
    (part.cfg = some cfg ∧ addressedFrame (.poll 0 []) = some (0x01, 0, []) ∧
      addressedFrame (.unknownKindFrame 9 0 []) = some (9, 0, []) ∧ isInboundKind 9 = false ∧
      addressedFrame (.statusRequest 7 []) = some (0x06, 7, []) ∧ part.link.history ≠ some (cfg.frameMark 0x01 0 [])) ∧
    (State.reset.bat.geometry = none ∧ part.bat.send = part.bat.write ∧ part.link.push = false) ∧
    ((journalled 5 0 0 false).bat.geometry = some ⟨0x1300, 16⟩ ∧
      0 < ((journalled 5 0 0 false).bat.write + 2 * 16 - (journalled 5 0 0 false).bat.send) % (2 * 16) ∧
      (journalled 5 0 0 false).bat.send ≠ (journalled 5 0 0 false).bat.write) ∧
    ((journalled 5 5 0 true).bat.send = (journalled 5 5 0 true).bat.write ∧ (journalled 5 5 0 true).link.push = true) :=
  ⟨⟨rfl, rfl, by decide, by decide, rfl, nofun⟩, by decide +kernel, by decide +kernel, by decide +kernel⟩

theorem witness_UpdateAndForwardFrames :
    part.link.history ≠ some (cfg.frameMark 0x02 0 []) ∧
    ((1 :: image 2 0 101 0 0 0 0).length = 1 + 9 * 1 ∧
      imageKind (((1 :: image 2 0 101 0 0 0 0).drop 1).take 9) ≠ none ∧ (1 :: image 2 0 101 0 0 0 0).length ≤ 60) ∧
    (4 < ([5].getD 0 (0 : Word)).toNat) ∧ (part.link.chainPos = some 0x5000 ∧ 0x5000 + 7 ≤ 1048575) ∧
    (State.reset.link.chainPos = none ∧ 1048575 < 1048569 + 7 ∧ 1048568 + 7 ≤ 1048575) :=
  ⟨nofun, by decide +kernel, by decide, by decide +kernel, by decide⟩

/-- The part with a reply under build. -/
def replyBuilding (b : ReplyBuild) (mem : List Host.Cell) : State :=
  { part with
    mem := mem
    link := { part.link with
      history := some (0, 0), pending := some { since := 1024000, turnaround := 10, haltId := 7, seq := 1, build := b } } }

/-- The words of a chain entry: status, capacity, buffer, next address. -/
def chainEntry (status capacity hi lo : Word) : List Word := [status, capacity, hi, lo, 0]

theorem witness_journal_reply :
    ((replyBuilding (.journal [3] (List.replicate 11 1)) []).takesCycle .link (.read 0x1345) ∧
      (replyBuilding (.journal [3] []) []).bat.geometry = some ⟨0x1300, 16⟩ ∧ (List.replicate 12 (1 : Word)).length ≠ 13 * [3].length) ∧
    (replyBuilding (.journal [3, 4] (List.replicate 25 1)) []).takesCycle .link (.read 0x1354) := by
  refine ⟨⟨?_, rfl, by decide⟩, ?_⟩ <;>
    exact test_takes _ _ _ (by decide +kernel) (by decide +kernel) (by decide +kernel) (by decide +kernel) (by decide +kernel)

/-- The build of the pending reply after a part cycle. -/
def buildAfter (s : State) : Option (Option ReplyBuild × Option Nat × Nat) :=
  match exec (.partCycle none) s with
  | .next t => some (t.link.pending.map Reply.build, t.link.chainPos, (t.rep.flags &&& Flag.forward.word).toNat)
  | _ => none

theorem witness_forward_cycles :
    ((replyBuilding (.chainRead 0x5000 [9] [0, 1, 0, 0x6000]) []).takesCycle .link (.read 0x5004) ∧
      (replyBuilding (.chainRead 0x5000 [9] (chainEntry 0 1 0 0x6000)) []).takesCycle .link (.read 0x5005)) ∧
    ((replyBuilding (.chainWrite [⟨0x6000, 9, .plain⟩, ⟨0x5000, 1, .chainFull 0x5000⟩]) []).takesCycle .link (.write 0x6000 9) ∧
      (replyBuilding (.chainWrite [⟨0x5000, 1, .chainFull 0x5010⟩]) []).takesCycle .link (.write 0x5000 1)) := by
  refine ⟨⟨?_, ?_⟩, ?_, ?_⟩ <;>
    exact test_takes _ _ _ (by decide +kernel) (by decide +kernel) (by decide +kernel) (by decide +kernel) (by decide +kernel)

theorem test_forward_decided :
    buildAfter (replyBuilding (.chainRead 0x5000 [9] (chainEntry 0 1 0 0x6000)) []) =
      some (some (.chainWrite [⟨0x6000, 9, .plain⟩, ⟨0x5006, 1, .plain⟩, ⟨0x5007, 9, .plain⟩, ⟨0x5000, 1, .chainFull 0x5000⟩]),
        some 0x5000, 0) ∧
    buildAfter (replyBuilding (.chainRead 0x5000 [9] (chainEntry 0 0 0 0x6000)) []) =
      buildAfter (replyBuilding (.chainRead 0x5000 [9] (chainEntry 0 1 0 0x10FF)) []) ∧
    (buildAfter (replyBuilding (.chainWrite [⟨0x5000, 1, .chainFull 0x5010⟩]) [])).map (fun x => x.2) =
      some (some 0x5010, Flag.forward.word.toNat) := by decide +kernel

theorem witness_ClockAndNoticeFrames :
    (clockPayload [1, 20863, 5] = some (86399, 5) ∧ clockPayload [1, 20864, 5] = none ∧ clockPayload [] = none) ∧
    (noticePayload [10, 2, 0x4142] = some (10, [65, 66]) ∧ noticePayload [0, 0] = some (0, []) ∧
      noticePayload (10 :: 65 :: List.replicate 33 0) = none) ∧ part.link.history ≠ some (cfg.frameMark 0x03 0 []) :=
  ⟨by decide +kernel, by decide +kernel, nofun⟩

theorem witness_JournalConfirm :
    (part.cfg = some cfg ∧ part.hears ∧ part.link.history ≠ some (cfg.frameMark 0x05 0 [0, 1])) ∧
    (journalled 3 2 0 false).bat.geometry = some ⟨0x1300, 16⟩ := ⟨⟨rfl, test_hears, nofun⟩, rfl⟩

/-- The part with a built reply waiting since a sub-tick. -/
def replying (u : Nat) : State :=
  { part with link := { part.link with
      pending := some { since := u, turnaround := 10, haltId := 7, seq := 0, build := .built [1] } } }

theorem witness_ReplySendAndEnd :
    ((replying 1023989).power.reset = false ∧
      1024 * 10 ≤ 1000 * ((replying 1023989).clk.upSec * 1024 + (replying 1023989).clk.upSub - 1023989)) ∧
    1000 * ((replying 1023990).clk.upSec * 1024 + (replying 1023990).clk.upSub - 1023990) < 1024 * 10 ∧
    part.link.pending = none := by decide +kernel

/-! ### The invariants hold somewhere beyond reset -/

theorem witness_invariants :
    Memory.wf (part.poke 0x1300 0x0100).mem = true ∧ part.HoldBounded ∧ part.TableSound ∧ part.WindowsFit :=
  ⟨by decide +kernel, ⟨by decide +kernel, fun _ => rfl⟩, ⟨by decide +kernel, by decide +kernel⟩,
    ⟨fun _ h => (Option.some.inj h) ▸ test_cfg_fits,
      fun _ _ h => LoaderStage.noConfusion h, fun _ h => LoaderStage.noConfusion h⟩⟩

/-- The part with a DUE departure, and what goes with it. -/
def dueNow : State :=
  { part with table := [{ dep with phase := .due }, { dep with train := 102 }], dueCount := 1, act := { part.act with floor := true } }

theorem witness_more_invariants :
    dueNow.TableSound ∧ dueNow.EmptyBeforeAcceptance ∧ dueNow.Listed ∧ dueNow.ModeBounded ∧ (queued .due).QueueOrdered ∧
    (journalled 5 3 1 false).JournalOrdered := by
  refine ⟨⟨by decide +kernel, by decide +kernel⟩, ⟨nofun, nofun⟩, ?_,
    ⟨⟨by decide +kernel, by decide +kernel⟩, fun _ => by decide, by decide +kernel⟩, ⟨by decide +kernel, by decide +kernel, by decide +kernel⟩,
    ⟨?_, nofun, fun _ h => h.elim nofun nofun⟩⟩
  · unfold State.Listed
    decide +kernel
  · intro g h
    obtain rfl := Option.some.inj h
    decide +kernel

end Sys2Proof.Tests
end

section
/-! PROOFS. RELEASE (R78), by the lemmas on the slot in work and its answer (R60, R61). -/

namespace Sys2Proof.Machine

variable (s : State)

/-! ### The slot in work (R60, R61) -/

/-- The slot that holds a fetched request stands at the head of the FIFO, and its busy mark has the request's code. -/
theorem State.saleReady_some_iff (code : SaleCode) (slot : Nat) (req : List Word) :
    s.saleReady code = some (slot, req) ↔
      (∃ rest, s.issue.fifo = slot :: rest) ∧ s.issue.stage = .ready req ∧ s.path.sale.getD slot .clear = .post code := by
  unfold State.saleReady
  split
  next head rest words hfifo hstage =>
    rw [hfifo, hstage, Option.ite_none_right_eq_some]
    constructor
    · rintro ⟨hpost, hpair⟩
      cases hpair
      exact ⟨⟨rest, rfl⟩, rfl, hpost⟩
    · rintro ⟨⟨_, hcons⟩, hready, hpost⟩
      cases hcons
      cases hready
      exact ⟨hpost, rfl⟩
  next hnone =>
    refine ⟨nofun, ?_⟩
    rintro ⟨⟨rest, hfifo⟩, hready, -⟩
    exact absurd hready (hnone slot rest req hfifo)

/-- A new record and an answer for the slot at the head of the FIFO: the result words in their order, and the post word last. -/
theorem State.setRecord_answerSale (c : Settings) (slot : Nat) (rest : List Nat) (r : QuoteRec) (results : List (Nat × Word))
    (post : Word) (hfifo : s.issue.fifo = slot :: rest) :
    (s.setRecord slot r).answerSale c results post = s.saleAnswered c slot r results post := by
  have hhead : (s.setRecord slot r).issue.fifo = slot :: rest := hfifo
  unfold State.answerSale
  rw [hhead, State.saleAnswered, List.append_assoc]
  rfl

/-! ### RELEASE (R78) -/

/-- RELEASE of the slot at the head of the FIFO answers EMPTY with no reason and leaves the slot without a quote. -/
theorem State.takeRelease_eq (c : Settings) (slot : Nat) (rest : List Nat) (hfifo : s.issue.fifo = slot :: rest) :
    s.takeRelease c slot = s.saleAnswered c slot .empty [(8, Code.noReason)] Code.empty :=
  s.setRecord_answerSale c slot rest .empty _ _ hfifo

/-- RELEASE takes the fetched RELEASE of the slot in work. -/
theorem exec_release_of_saleReady (c : Settings) (slot : Nat) (req : List Word) (hcfg : s.cfg = some c)
    (hready : s.saleReady .release = some (slot, req)) : exec .release s = .next (s.takeRelease c slot) := by
  change execRelease s = _
  rw [execRelease, hcfg, hready]

/-- Settles O44: the slot of a fetched RELEASE is at the head of the FIFO, so the answer is its own, and the answer makes no test of
the record that it replaces. -/
theorem releaseEmpties : Obligations.ReleaseEmpties := by
  intro s c slot req hcfg hready
  obtain ⟨⟨rest, hfifo⟩, -, -⟩ := (s.saleReady_some_iff .release slot req).mp hready
  rw [exec_release_of_saleReady s c slot req hcfg hready, s.takeRelease_eq c slot rest hfifo, State.saleAnswered, List.append_assoc]
  rfl

end Sys2Proof.Machine
end

section
/-! PROOFS. PART_CYCLE and the host (R181): what the host has waiting and its hold count change by the arbiter alone, since every
other operation keeps that side of the memory path. -/

namespace Sys2Proof.Machine

/-! ### The host's side of the memory path (R174, R181) -/

/-- What the arbiter keeps of the host: the cycles the host has waiting, and the hold count. -/
def Path.hostSide (p : Path) : List HostCycle × Nat := (p.waiting, p.hold)

/-- A change of busy marks or of the data read keeps the host's side. -/
@[simp] theorem Path.hostSide_mk (p : Path) (load : Mark Unit) (command : Mark CommandCode) (intake : List (Mark Unit))
    (sale : List (Mark SaleCode)) (data : Word) :
    Path.hostSide ⟨load, command, intake, sale, p.hold, p.waiting, data⟩ = p.hostSide := rfl

theorem Path.hostSide_eq_iff (p q : Path) : p.hostSide = q.hostSide ↔ p.waiting = q.waiting ∧ p.hold = q.hold :=
  Iff.of_eq (Prod.mk.injEq _ _ _ _)

/-- The path stands along a fold whose steps keep it. -/
theorem State.foldl_path {α : Type} {f : State → α → State} (hf : ∀ s x, (f s x).path = s.path) (l : List α) (s : State) :
    (l.foldl f s).path = s.path := by
  induction l generalizing s with
  | nil => rfl
  | cons x xs ih => exact (ih (f s x)).trans (hf s x)

namespace State

variable (s : State)

/-! ### Operations of the departure side, the announcer and the composer: within `Inner` -/

@[simp] theorem raise_path (f : Flag) : (s.raise f).path = s.path := (Inner.raise f (.refl s)).path
@[simp] theorem count_path (c : Counter) (n : Nat) : (s.count c n).path = s.path := (Inner.count c n (.refl s)).path
@[simp] theorem markBoth_path (rows : List Nat) : (s.markBoth rows).path = s.path := (Inner.markBoth rows (.refl s)).path
@[simp] theorem setMode_path (m : Mode) : (s.setMode m).path = s.path := (Inner.setMode m (.refl s)).path
@[simp] theorem setDeadline_path (d : Option Nat) : (s.setDeadline d).path = s.path := (Inner.setDeadline d (.refl s)).path
@[simp] theorem annAdvance_path : s.annAdvance.path = s.path := (Inner.annAdvance (.refl s)).path
@[simp] theorem annServed_path (w : Word) : (s.annServed w).path = s.path := (Inner.annServed w (.refl s)).path
@[simp] theorem annClear_path : s.annClear.path = s.path := (Inner.annClear (.refl s)).path
@[simp] theorem setRecord_path (slot : Nat) (r : QuoteRec) : (s.setRecord slot r).path = s.path := rfl
@[simp] theorem issueWrites_path (accs : List Acc) : (s.issueWrites accs).path = s.path := rfl
@[simp] theorem voidSlot_path (slot : Nat) (why : VoidReason) : (s.voidSlot slot why).path = s.path :=
  (Inner.voidSlot slot why (.refl s)).path
@[simp] theorem recomputeList_path : s.recomputeList.path = s.path := (Inner.recomputeList (.refl s)).path
@[simp] theorem evalAll_path (c : Settings) : (s.evalAll c).path = s.path := (Inner.evalAll c (.refl s)).path
@[simp] theorem rollTable_path : s.rollTable.path = s.path := (Inner.rollTable (.refl s)).path
@[simp] theorem evalPass_path (c : Settings) : (s.evalPass c).path = s.path := (Inner.evalPass c (.refl s)).path
@[simp] theorem emptyTable_path : s.emptyTable.path = s.path := (Inner.emptyTable (.refl s)).path
@[simp] theorem commandRefused_path (c : Settings) (v : Word) : (s.commandRefused c v).path = s.path := rfl
@[simp] theorem answerSale_path (c : Settings) (results : List (Nat × Word)) (post : Word) :
    (s.answerSale c results post).path = s.path := (Inner.answerSale c results post (.refl s)).path
@[simp] theorem refuseSale_path (c : Settings) (v : Word) : (s.refuseSale c v).path = s.path :=
  (Inner.refuseSale c v (.refl s)).path
@[simp] theorem writeMirror_path : s.writeMirror.path = s.path := (Inner.writeMirror (.refl s)).path
@[simp] theorem testLow_path (g : Geometry) (before : Nat) : (s.testLow g before).path = s.path :=
  (Inner.testLow g before (.refl s)).path
@[simp] theorem startCal_path (p : PanelParams) (ch : Nat) : (s.startCal p ch).path = s.path := (Inner.startCal p ch (.refl s)).path
@[simp] theorem composerServed_path (w : Word) : (s.composerServed w).path = s.path := (Inner.composerServed w (.refl s)).path
@[simp] theorem recompose_path : s.recompose.path = s.path := (Inner.recompose (.refl s)).path

/-! ### The clock, the journal and the announcer at an acceptance (R38, R80, R81, R84, R154) -/

@[simp] theorem setClockNow_path (civil : Nat) (day : Word) : (s.setClockNow civil day).path = s.path := rfl

@[simp] theorem stepTable_path (c : Settings) (k : Int) : (s.stepTable c k).path = s.path := by
  unfold stepTable
  split
  · simp
  · split <;> simp

@[simp] theorem changeHour_path (c : Settings) (hour : Nat) : (s.changeHour c hour).path = s.path := by
  unfold changeHour
  split
  · rfl
  · dsimp only
    split <;> simp

@[simp] theorem takeGeometry_path (c : Settings) : (s.takeGeometry c).path = s.path := by
  unfold takeGeometry
  split <;> rfl

@[simp] theorem rewriteUnsent_path : s.rewriteUnsent.path = s.path := by
  unfold rewriteUnsent
  split <;> rfl

@[simp] theorem lowAtAcceptance_path : s.lowAtAcceptance.path = s.path := by
  unfold lowAtAcceptance
  split
  · split <;> simp
  · rfl

@[simp] theorem annSkip_path (c : Settings) : (s.annSkip c).path = s.path := by
  unfold annSkip
  split
  · rfl
  · split
    · split <;> simp
    · rfl
    · rfl

@[simp] theorem commitTicket_path : s.commitTicket.path = s.path := by
  unfold commitTicket
  split <;> simp

/-! ### The intake job and the issue unit (R7, R61) -/

@[simp] theorem answerIntake_path (c : Settings) (im : Image) (outcome : Word) : (s.answerIntake c im outcome).path = s.path := by
  unfold answerIntake
  split <;> rfl

@[simp] theorem intakeFetched_path (c : Settings) (image : List Word) : (s.intakeFetched c image).path = s.path := by
  unfold intakeFetched
  split <;> simp

@[simp] theorem intakeNext_path : s.intakeNext.path = s.path := by
  unfold intakeNext
  split
  · dsimp only
    split
    · split
      · rfl
      · split <;> rfl
    · split <;> rfl
    · split <;> rfl
    · rfl
  · rfl

@[simp] theorem issueNext_path : s.issueNext.path = s.path := by
  unfold issueNext
  split
  · split
    · split
      · simp
      · split <;> rfl
    · split <;> simp
    · split <;> simp
    · rfl
    · rfl
  · rfl

@[simp] theorem issueGoOn_path : s.issueGoOn.path = s.path := by
  unfold issueGoOn
  split <;> simp

/-! ### The link (R160, R167, R171) -/

@[simp] theorem setBuild_path (b : ReplyBuild) : (s.setBuild b).path = s.path := rfl

@[simp] theorem reply_path (kind : Byte) (payload : List Word) : (s.reply kind payload).path = s.path := by
  unfold reply
  split <;> rfl

@[simp] theorem replyAck_path (status : Word) (outcomes : List Nat) : (s.replyAck status outcomes).path = s.path :=
  s.reply_path _ _

@[simp] theorem goOnJournal_path (todo : List Nat) (got : List Word) : (s.goOnJournal todo got).path = s.path := by
  unfold goOnJournal
  split <;> simp

@[simp] theorem decideForward_path (c : Settings) (pos : Nat) (payload entry : List Word) :
    (s.decideForward c pos payload entry).path = s.path := by
  unfold decideForward
  split <;> simp

@[simp] theorem forwardDone_path (next : Nat) : (s.forwardDone next).path = s.path := by
  simp [forwardDone]

@[simp] theorem linkServed_path (c : Settings) (w : Word) : (s.linkServed c w).path = s.path := by
  unfold linkServed
  split
  · simp
  · split <;> simp
  · split <;> simp
  · rfl

/-! ### The report writer (R179, R183, R188, R190) -/

@[simp] theorem postCommand_path (c : Settings) (code : CommandCode) : (s.postCommand c code).path = s.path := by
  unfold postCommand
  dsimp only
  split <;> rfl

@[simp] theorem wordLanded_path (o : Nat) (v : Word) : (s.wordLanded o v).path = s.path := by
  unfold wordLanded
  dsimp only
  split
  · rfl
  · split
    · rfl
    · split <;> rfl

@[simp] theorem commandLanded_hostSide : s.commandLanded.path.hostSide = s.path.hostSide := rfl

@[simp] theorem takeProbe_hostSide (c : Settings) (w : Word) : (s.takeProbe c w).path.hostSide = s.path.hostSide := by
  unfold takeProbe
  dsimp only
  split <;> simp [restartCommand]

@[simp] theorem blockServed_hostSide (c : Settings) (w : Word) : (s.blockServed c w).path.hostSide = s.path.hostSide := by
  unfold blockServed
  split
  · rfl
  · split <;> simp

@[simp] theorem reportServed_hostSide (c : Settings) (w : Word) : (s.reportServed c w).path.hostSide = s.path.hostSide := by
  unfold reportServed
  split
  · rfl
  · split <;> rfl
  · rfl
  · simp
  · simp
  · simp
  · simp

/-! ### The cycles the host presents (R174 to R180) -/

@[simp] theorem dropBusy_path : s.dropBusy.path = s.path := rfl

@[simp] theorem dropProtected_path : s.dropProtected.path = s.path := rfl

@[simp] theorem postIntake_hostSide (w : Windows) (slot : Nat) : (s.postIntake w slot).path.hostSide = s.path.hostSide := by
  simp [postIntake]

@[simp] theorem postSale_hostSide (w : Windows) (slot : Nat) (code : SaleCode) :
    (s.postSale w slot code).path.hostSide = s.path.hostSide := by
  simp [postSale, dropExpired]

@[simp] theorem postOrder_hostSide (c : Settings) (code : CommandCode) :
    (s.postOrder c code).path.hostSide = s.path.hostSide := by
  simp [postOrder]

@[simp] theorem writeIndex_path (a : Nat) (v : Word) (l : Lanes) : (s.writeIndex a v l).path = s.path := by
  unfold writeIndex
  dsimp only
  split <;> simp

@[simp] theorem writeIntake_hostSide (w : Windows) (a : Nat) (v : Word) (l : Lanes) :
    (s.writeIntake w a v l).path.hostSide = s.path.hostSide := by
  unfold writeIntake
  dsimp only
  split
  · simp
  · split <;> simp [passWrite]

@[simp] theorem writeSale_hostSide (w : Windows) (a : Nat) (v : Word) (l : Lanes) :
    (s.writeSale w a v l).path.hostSide = s.path.hostSide := by
  unfold writeSale
  dsimp only
  split
  · simp
  · split <;> simp [passWrite]

@[simp] theorem writeReport_hostSide (c : Settings) (a : Nat) (v : Word) (l : Lanes) :
    (s.writeReport c a v l).path.hostSide = s.path.hostSide := by
  unfold writeReport
  dsimp only
  split
  next => simp
  split
  next => simp
  split
  next => simp [writeMask]
  split
  next => simp [writeEnable]
  split
  next => simp [writeClear]
  split
  next => simp
  split
  next => simp
  next => simp [passWrite]

@[simp] theorem writeMapped_hostSide (c : Settings) (a : Nat) (v : Word) (l : Lanes) :
    (s.writeMapped c a v l).path.hostSide = s.path.hostSide := by
  unfold writeMapped
  split
  next => simp
  split
  next => simp
  split
  next => simp
  split <;> simp [passWrite]

@[simp] theorem takeWrite_hostSide (a : Nat) (v : Word) (l : Lanes) : (s.takeWrite a v l).path.hostSide = s.path.hostSide := by
  unfold takeWrite
  split
  next => simp [passWrite]
  split
  next => simp
  split
  next => simp [postLoad]
  split
  next => simp
  next => simp [passWrite]

@[simp] theorem takeRead_hostSide (a : Nat) : (s.takeRead a).path.hostSide = s.path.hostSide := by
  unfold takeRead
  split
  · unfold readClock
    split <;> rfl
  · rfl

/-- A cycle of the host's as the memory path takes it does not touch those that wait behind it. -/
@[simp] theorem takeCycle_hostSide (h : HostCycle) : (s.takeCycle h).path.hostSide = s.path.hostSide := by
  cases h with
  | read a => exact s.takeRead_hostSide _
  | write a v l => exact s.takeWrite_hostSide _ v l

/-! ### The loader (R193, R196 to R198) -/

@[simp] theorem loadLanded_hostSide : s.loadLanded.path.hostSide = s.path.hostSide := rfl

@[simp] theorem startPanel_path (p : PanelParams) : (s.startPanel p).path = s.path :=
  (modPanel_path _ _).trans (foldl_path (fun t ch => t.startCal_path p ch) _ s)

@[simp] theorem startJobs_path (c : Settings) : (s.startJobs c).path = s.path := by
  simp [startJobs, startReport, startLink, startScreens, startActivity]

@[simp] theorem scanSlot_hostSide (c : Settings) (n : Nat) (w : Word) : (s.scanSlot c n w).path.hostSide = s.path.hostSide := by
  unfold scanSlot restartSlot
  dsimp only
  split
  · split <;> rfl
  · rfl

@[simp] theorem finishSale_path (c : Settings) : (s.finishSale c).path = s.path := by
  unfold finishSale
  split
  · exact refuseSale_path _ c _
  · simp

@[simp] theorem finishCommand_path (c : Settings) : (s.finishCommand c).path = s.path := by
  unfold finishCommand
  dsimp only
  split <;> rfl

@[simp] theorem endQuotes_path : s.endQuotes.path = s.path :=
  foldl_path (fun t slot => t.voidSlot_path slot .reconfigured) _ s

@[simp] theorem reloadClear_path : s.reloadClear.path = s.path := by
  simp [reloadClear, reloadPanel, moveReport]

@[simp] theorem reloadSettings_path (old next : Settings) : (s.reloadSettings old next).path = s.path := by
  simp [reloadSettings, reloadLink]

@[simp] theorem goOnFinish_path (old next : Settings) : (s.goOnFinish old next).path = s.path := by
  unfold goOnFinish
  split
  · dsimp only
    split <;> simp [acceptLoad]
  · rfl

@[simp] theorem goOnTicket_path (old next : Settings) : (s.goOnTicket old next).path = s.path := by
  unfold goOnTicket
  split
  next => rfl
  split
  next => simp [abandonReload, rejectLoad]
  next => simp [beginFinish]

/-- An acceptance that goes on leaves the memory path as it is: the windows it changes are those of the settings. -/
@[simp] theorem settleLoad_path : s.settleLoad.path = s.path := by
  unfold settleLoad
  split
  · split <;> simp
  · split <;> rfl
  · simp
  · simp
  · rfl

/-! ### Landings and the requesters' blocks (R179, R182) -/

@[simp] theorem landed_path (x : Access) : (s.landed x).path = s.path := by
  cases x <;> rfl

@[simp] theorem intakeLanded_hostSide (slot : Nat) : (s.intakeLanded slot).path.hostSide = s.path.hostSide := by
  simp [intakeLanded]

@[simp] theorem showVoided_path (slot : Nat) : (s.showVoided slot).path = s.path := by
  unfold showVoided
  split <;> rfl

@[simp] theorem saleLanded_hostSide (slot : Nat) : (s.saleLanded slot).path.hostSide = s.path.hostSide := by
  simp [saleLanded]

@[simp] theorem land_hostSide (g : Landing) : (s.land g).path.hostSide = s.path.hostSide := by
  cases g with
  | plain => rfl
  | intakePost slot => exact s.intakeLanded_hostSide slot
  | salePost slot => exact s.saleLanded_hostSide slot
  | expiredReason _ => rfl
  | expiredPost _ => rfl
  | journalState => exact congrArg Path.hostSide s.commitTicket_path
  | restartIntake _ => rfl
  | restartSale _ => rfl
  | accepted => rfl
  | rejected => rfl
  | commandPost => rfl
  | chainFull next => exact congrArg Path.hostSide (s.forwardDone_path next)

@[simp] theorem issueServed_hostSide (w : Word) : (s.issueServed w).path.hostSide = s.path.hostSide := by
  unfold issueServed
  split
  · simp
  · rfl
  · rfl

@[simp] theorem intakeServed_hostSide (c : Settings) (w : Word) : (s.intakeServed c w).path.hostSide = s.path.hostSide := by
  unfold intakeServed
  split
  · dsimp only
    split <;> simp
  · simp
  · rfl
  · rfl
  · rfl

@[simp] theorem loaderServed_hostSide (w : Word) : (s.loaderServed w).path.hostSide = s.path.hostSide := by
  unfold loaderServed
  split
  · simp
  · rfl
  · simp
  · rfl

/-- A requester's block that takes its word leaves the host's cycles waiting as long as before. -/
@[simp] theorem served_hostSide (r : Requester) (w : Word) : (s.served r w).path.hostSide = s.path.hostSide := by
  unfold served
  split <;> simp

/-- Neither the access of a requester nor its block touches the host's cycles that wait, or how long they have. -/
theorem landed_served_host (r : Requester) (x : Access) (w : Word) :
    ((s.landed x).served r w).path.waiting = s.path.waiting ∧ ((s.landed x).served r w).path.hold = s.path.hold := by
  rw [← Path.hostSide_eq_iff, served_hostSide, landed_path]

/-! ### The part cycle (R181) -/

/-- The first requester in the fixed order has an access waiting. -/
theorem firstWaiting_wants {r : Requester} (hfirst : s.firstWaiting = some r) : ∃ x, s.wants r = some x := by
  unfold firstWaiting at hfirst
  have hwants := List.find?_some hfirst
  exact Option.isSome_iff_exists.mp hwants

/-- The urgent requester that goes first has an access waiting. -/
theorem firstUrgent_wants {r : Requester} (hfirst : s.firstUrgent = some r) : ∃ x, s.wants r = some x := by
  unfold firstUrgent at hfirst
  have hurgent := List.find?_some hfirst
  exact Option.isSome_iff_exists.mp (Bool.and_eq_true_iff.mp hurgent).2

/-- PART_CYCLE without a host read of its own is one part cycle. -/
theorem exec_partCycle (hmain : s.power.main = true) : exec (.partCycle none) s = .next s.partCycle := by
  change execPartCycle none s = _
  rw [execPartCycle, hmain]
  rfl

/-- With the first urgent requester before a host that may still be held, that requester's access lands and the host is held. -/
theorem partCycle_of_held (h : HostCycle) (rest : List HostCycle) (r : Requester) (x : Access) (hreset : s.power.reset = false)
    (hwaiting : s.path.waiting = h :: rest) (hurgent : s.firstUrgent = some r) (hwants : s.wants r = some x)
    (hhold : s.path.hold < 4) :
    s.partCycle = (((s.landed x).served r (s.fetched x)).setHold (s.path.hold + 1)).settleLoad := by
  have hgrant : s.grant = some (.inr r) := by simp [grant, hwaiting, hreset, hurgent, hhold]
  obtain ⟨hw, hh⟩ := s.landed_served_host r x (s.fetched x)
  simp [partCycle, hgrant, serve, hwants, countHold, hw, hh, hwaiting]

/-- The host that is held keeps its cycles in their places, and its hold count is one higher. -/
theorem partCycle_host_of_held (h : HostCycle) (rest : List HostCycle) (r : Requester) (hreset : s.power.reset = false)
    (hwaiting : s.path.waiting = h :: rest) (hurgent : s.firstUrgent = some r) (hhold : s.path.hold < 4) :
    s.partCycle.path.waiting = s.path.waiting ∧ s.partCycle.path.hold = s.path.hold + 1 := by
  obtain ⟨x, hwants⟩ := s.firstUrgent_wants hurgent
  rw [s.partCycle_of_held h rest r x hreset hwaiting hurgent hwants hhold, settleLoad_path]
  exact ⟨(s.landed_served_host r x _).1, rfl⟩

/-- With no urgent requester, or a host held 4 times, the host's cycle in front is taken, and then those that take no part cycle. -/
theorem partCycle_of_host (h : HostCycle) (rest : List HostCycle) (hreset : s.power.reset = false)
    (hwaiting : s.path.waiting = h :: rest) (hturn : s.firstUrgent = none ∨ 4 ≤ s.path.hold) :
    s.partCycle = ((s.takeCycle h).setHold 0).settleHost rest := by
  have hgrant : s.grant = some (.inl ()) := by
    cases hurgent : s.firstUrgent with
    | none => simp [grant, hwaiting, hreset, hurgent]
    | some r =>
      have hfour : ¬ s.path.hold < 4 := by simpa [hurgent] using hturn
      simp [grant, hwaiting, hreset, hurgent, hfour]
  simp [partCycle, hgrant, serveHost, hwaiting]

/-- A part cycle that no host cycle waits for leaves none waiting and the hold count at 0. -/
theorem partCycle_of_no_host (hreset : s.power.reset = false) (hwaiting : s.path.waiting = []) :
    s.partCycle.path.waiting = [] ∧ s.partCycle.path.hold = 0 := by
  cases hfirst : s.firstWaiting with
  | none =>
    have hgrant : s.grant = none := by simp [grant, hwaiting, hreset, hfirst]
    rw [partCycle, hgrant]
    exact ⟨hwaiting, rfl⟩
  | some r =>
    obtain ⟨x, hwants⟩ := s.firstWaiting_wants hfirst
    obtain ⟨hw, -⟩ := s.landed_served_host r x (s.fetched x)
    rw [s.partCycle_turn r x hreset hwaiting ((s.turnOf_iff r x).mpr ⟨hwants, hfirst⟩),
      s.serve_eq r x hwants (hw.trans hwaiting), settleLoad_path]
    exact ⟨hw.trans hwaiting, rfl⟩

/-- With no cycle behind the one taken, none waits and the host is not held. -/
theorem setHold_settleHost_nil : (s.setHold 0).settleHost [] = { s with path := { s.path with waiting := [], hold := 0 } } := rfl

/-- The cycles left waiting are the last of those there were, since only cycles at the front are taken. -/
theorem settleHost_waiting (q : List HostCycle) : (s.settleHost q).path.waiting <:+ q := by
  induction q generalizing s with
  | nil => exact List.suffix_rfl
  | cons c rest ih =>
    unfold settleHost
    split
    · exact (ih _).trans (List.suffix_cons c rest)
    · exact List.suffix_rfl

/-- Taking the cycles at the front does not hold the host. -/
theorem settleHost_hold (q : List HostCycle) (hzero : s.path.hold = 0) : (s.settleHost q).path.hold = 0 := by
  induction q generalizing s with
  | nil => rfl
  | cons c rest ih =>
    unfold settleHost
    split
    · exact ih _ (((Path.hostSide_eq_iff _ _).mp (s.takeCycle_hostSide c)).2.trans hzero)
    · exact hzero

/-- A part cycle holds the host at most 4 times in a row, and not while none of its cycles waits, whatever its count was (R181). -/
theorem partCycle_holdBounded (hreset : s.power.reset = false) : s.partCycle.HoldBounded := by
  cases hwaiting : s.path.waiting with
  | nil =>
    obtain ⟨-, hzero⟩ := s.partCycle_of_no_host hreset hwaiting
    exact ⟨by omega, fun _ => hzero⟩
  | cons h rest =>
    by_cases hturn : s.firstUrgent = none ∨ 4 ≤ s.path.hold
    · have hzero : s.partCycle.path.hold = 0 := by
        rw [s.partCycle_of_host h rest hreset hwaiting hturn]
        exact settleHost_hold _ rest rfl
      exact ⟨by omega, fun _ => hzero⟩
    · obtain ⟨hurgent, hhold⟩ := not_or.mp hturn
      obtain ⟨r, hr⟩ := Option.ne_none_iff_exists'.mp hurgent
      obtain ⟨hkept, hmore⟩ := s.partCycle_host_of_held h rest r hreset hwaiting hr (by omega)
      refine ⟨by omega, fun hnone => ?_⟩
      rw [hkept, hwaiting] at hnone
      exact absurd hnone (List.cons_ne_nil h rest)

end State

/-- Settles O25: the arbiter's grant decides between the urgent requester and the host, and nothing that either brings about touches
the cycles that still wait or the hold count. The bound then follows, since only a host held less than 4 times is held again. -/
theorem partCycleHoldsTheHost : Obligations.PartCycleHoldsTheHost := by
  intro s hmain hreset
  rw [s.exec_partCycle hmain]
  refine ⟨?held, ?host, ?read, ?none, ?bound⟩
  case held =>
    intro h rest r x hwaiting _ hurgent hwants hhold
    obtain ⟨hkept, hmore⟩ := s.partCycle_host_of_held h rest r hreset hwaiting hurgent hhold
    exact ⟨_, rfl, hmore, hkept, s.partCycle_of_held h rest r x hreset hwaiting hurgent hwants hhold⟩
  case host =>
    intro h rest hwaiting _ hturn
    rw [s.partCycle_of_host h rest hreset hwaiting hturn]
    refine ⟨_, rfl, State.settleHost_hold _ rest rfl, State.settleHost_waiting _ rest, ?_⟩
    rintro rfl
    exact State.setHold_settleHost_nil _
  case read =>
    intro a hwaiting hclock hturn
    have htake : s.takeCycle (.read a) = s.setReadData (s.peek a.toNat) := by rw [State.takeCycle, State.takeRead, hclock]
    rw [s.partCycle_of_host _ [] hreset hwaiting hturn, htake, State.setHold_settleHost_nil]
    rfl
  case none =>
    intro hwaiting
    obtain ⟨hw, hh⟩ := s.partCycle_of_no_host hreset hwaiting
    exact ⟨_, rfl, hh, hw⟩
  case bound =>
    rintro - t ht
    cases ht
    exact s.partCycle_holdBounded hreset

end Sys2Proof.Machine
end

section
/-! PROOFS. General facts about choices and lists that the proofs below use; the core library states none of them in this form. -/

namespace Sys2Proof.Machine

/-- Two choices are the same where their conditions say the same and their branches agree. -/
theorem ite_congr_iff {α : Sort _} {b c : Prop} [Decidable b] [Decidable c] {x y u v : α} (h : b ↔ c) (hx : x = u) (hy : y = v) :
    (if b then x else y) = if c then u else v :=
  ite_congr (propext h) (fun _ => hx) fun _ => hy

/-- A place where a list does not give the default is within it. -/
theorem lt_length_of_getD_ne {α : Type _} {l : List α} {k : Nat} {d : α} (h : l.getD k d ≠ d) : k < l.length := by
  refine Classical.byContradiction fun hout => h ?_
  rw [List.getD_eq_getElem?_getD, List.getElem?_eq_none (Nat.not_lt.mp hout)]
  rfl

/-- Nothing is left of a list when all of it is dropped. -/
theorem dropWhile_nil_iff {α : Type _} (p : α → Bool) (l : List α) : l.dropWhile p = [] ↔ ∀ x ∈ l, p x = true := by
  induction l with
  | nil => exact ⟨fun _ => nofun, fun _ => rfl⟩
  | cons x xs ih =>
    rw [List.dropWhile_cons, List.forall_mem_cons]
    split
    next hx => exact ih.trans ⟨fun h => ⟨hx, h⟩, And.right⟩
    next hx => exact ⟨(fun h => nomatch h), fun h => absurd h.1 hx⟩

/-- Maps that agree on a list bring the same lists together. -/
theorem flatMap_eq_of_mem {α β : Type _} {l : List α} {f g : α → List β} (h : ∀ x ∈ l, f x = g x) : l.flatMap f = l.flatMap g := by
  rw [List.flatMap_def, List.flatMap_def, List.map_congr_left h]

/-- In a list without double images an image has one origin. -/
theorem eq_of_nodup_map {α β : Type _} {f : α → β} {l : List α} (h : (l.map f).Nodup) {x y : α} (hx : x ∈ l) (hy : y ∈ l)
    (himage : f x = f y) : x = y := by
  induction l with
  | nil => exact nomatch hx
  | cons z zs ih =>
    rw [List.map_cons, List.nodup_cons] at h
    obtain ⟨hout, hrest⟩ := h
    rcases List.mem_cons.mp hx with rfl | hx' <;> rcases List.mem_cons.mp hy with rfl | hy'
    · rfl
    · exact absurd (himage ▸ List.mem_map_of_mem hy') hout
    · exact absurd (himage ▸ List.mem_map_of_mem hx') hout
    · exact ih hrest hx' hy'

end Sys2Proof.Machine
end

section
/-! PROOFS. What every operation of the departure side, the panel, the selection, the composer and the announcer keeps: the order of
the announcer's queue, the DUE floor, and the slot that the issue unit has in work. -/

namespace Sys2Proof.Machine

/-! ### The invariants in their parts (R57, R138, R147) -/

/-- The floor is on while the DUE count is not 0; then the mode is not DORMANT, and it is not ACTIVE while supply-low is asserted
(R57, R138, R139). -/
def State.FloorKept (s : State) : Prop :=
  (s.act.floor = true ↔ 0 < s.dueCount) ∧ (0 < s.dueCount → s.act.mode ≠ .dormant) ∧ (s.act.supplyLow = true → s.act.mode ≠ .active)

/-- The DUE count is the number of DUE entries of the table (R40, R57). -/
def State.DueCounted (s : State) : Prop := s.dueCount = dueEntries s.bat s.table

/-- The mode is bounded exactly when the count is the table's and the floor goes with the count. -/
theorem State.modeBounded_iff (s : State) : s.ModeBounded ↔ s.DueCounted ∧ s.FloorKept := by
  have hpos : 0 < dueEntries s.bat s.table ↔ ∃ e ∈ s.table, e.phase = .due ∧ e.today s.bat = true := by
    simp [dueEntries, List.length_pos_iff_exists_mem]
  unfold State.ModeBounded State.DueCounted State.FloorKept
  rw [← hpos]
  change (s.dueCount = dueEntries s.bat s.table ∧ _) ∧ _ ∧ _ ↔ _
  constructor
  · rintro ⟨⟨hcount, hfloor⟩, hmode, hlow⟩
    exact ⟨hcount, hfloor, hcount ▸ hmode, hlow⟩
  · rintro ⟨hcount, hfloor, hmode, hlow⟩
    exact ⟨⟨hcount, hfloor⟩, hcount ▸ hmode, hlow⟩

/-- The order of a queue of requests, as `QueueOrdered` has it for the announcer's. -/
def QueueFine (q : List AnnReq) : Prop :=
  q.length ≤ 4 ∧ (q.Pairwise fun r t => t.kind.priority ≤ r.kind.priority) ∧
  (q.Pairwise fun r t => ¬ (r.kind = t.kind ∧ r.who.isSome = true ∧ r.who = t.who))

/-- What is left of a queue in order is in order. -/
theorem QueueFine.sublist {q q' : List AnnReq} (h : QueueFine q) (hq : q'.Sublist q) : QueueFine q' :=
  ⟨Nat.le_trans hq.length_le h.1, h.2.1.sublist hq, h.2.2.sublist hq⟩

theorem AnnReq.same_iff (r t : AnnReq) : r.same t = true ↔ r.kind = t.kind ∧ r.who.isSome = true ∧ r.who = t.who := by
  simp [AnnReq.same, and_assoc]

/-- A newcomer that is the same as no request of the queue takes its place by priority, behind its equals (R147). -/
theorem QueueFine.enqueue {q : List AnnReq} {r : AnnReq} (h : QueueFine q) (hlen : q.length < 4)
    (hnew : ∀ t ∈ q, ¬ t.same r = true) : QueueFine (enqueue q r) := by
  obtain ⟨-, hprio, hsame⟩ := h
  have hperm : (Machine.enqueue q r).Perm (r :: q) := insertBy_perm _ r q
  have hsymm : ∀ {x y : AnnReq}, ¬ (x.kind = y.kind ∧ x.who.isSome = true ∧ x.who = y.who) →
      ¬ (y.kind = x.kind ∧ y.who.isSome = true ∧ y.who = x.who) := by
    rintro x y hxy ⟨hk, hs, hw⟩
    exact hxy ⟨hk.symm, hw ▸ hs, hw.symm⟩
  refine ⟨by rw [hperm.length_eq, List.length_cons]; omega, ?_, ?_⟩
  · have hq : q.Pairwise fun a b => decide (a.kind.priority < b.kind.priority) = false := by simpa using hprio
    simpa [Machine.enqueue] using insertBy_ordered (fun x y => decide (y.kind.priority < x.kind.priority)) (by simp; omega) (by simp; omega) r q hq
  · rw [hperm.pairwise_iff hsymm, List.pairwise_cons]
    refine ⟨fun t ht heq => hnew t ht ?_, hsame⟩
    exact (t.same_iff r).mpr ⟨heq.1.symm, heq.2.2 ▸ heq.2.1, heq.2.2.symm⟩

/-- R147 leaves the queue in order, whatever becomes of the newcomer. -/
theorem QueueFine.place {q : List AnnReq} (h : QueueFine q) (r : AnnReq) : QueueFine (placeRequest q r).1 := by
  unfold placeRequest
  split
  next =>
    have hkeeps : ∀ t : AnnReq, (if t.same r then r else t).kind = t.kind ∧ (if t.same r then r else t).who = t.who := by
      intro t
      split
      next hsame => exact ⟨((t.same_iff r).mp hsame).1.symm, ((t.same_iff r).mp hsame).2.2.symm⟩
      next => exact ⟨rfl, rfl⟩
    exact ⟨by rw [List.length_map]; exact h.1, List.pairwise_map.mpr (by simpa only [hkeeps] using h.2.1),
      List.pairwise_map.mpr (by simpa only [hkeeps] using h.2.2)⟩
  next hany =>
    have hnew : ∀ t ∈ q, ¬ t.same r = true := by simpa using hany
    split
    next hlen => exact h.enqueue hlen hnew
    next =>
      split
      next l hlast =>
        split
        next =>
          have hne : 0 < q.length := List.length_pos_iff.mpr fun he => by simp [he] at hlast
          refine (h.sublist (List.dropLast_sublist q)).enqueue ?_ fun t ht => hnew t (List.dropLast_sublist q |>.subset ht)
          rw [List.length_dropLast]
          have := h.1
          omega
        next => exact h
      next => exact h

/-! ### The relation -/

/-- From `s` to `t` the announcer's queue has kept its order and the floor its bounds, and the issue unit has the same slot in work. -/
structure Calm (s t : State) : Prop where
  queue : QueueFine s.ann.queue → QueueFine t.ann.queue
  floor : s.FloorKept → t.FloorKept
  stage : t.issue.stage = s.issue.stage
  fifo : t.issue.fifo = s.issue.fifo

theorem Calm.refl (s : State) : Calm s s := ⟨id, id, rfl, rfl⟩

theorem Calm.trans {s t u : State} (h : Calm s t) (k : Calm t u) : Calm s u :=
  ⟨k.queue ∘ h.queue, k.floor ∘ h.floor, k.stage.trans h.stage, k.fifo.trans h.fifo⟩

variable {s t : State}

/-- `Calm` along a fold. -/
theorem Calm.foldl {α : Type} {l : List α} {f : State → α → State} (hf : ∀ t x, Calm s t → Calm s (f t x)) (h : Calm s t) :
    Calm s (l.foldl f t) := by
  induction l generalizing t with
  | nil => exact h
  | cons x xs ih => exact ih (hf t x h)

/-! ### Updates of one block -/

theorem Calm.modClk (f : HaltClock → HaltClock) (h : Calm s t) : Calm s (t.modClk f) := ⟨h.1, h.2, h.3, h.4⟩
theorem Calm.modPanel (f : Panel → Panel) (h : Calm s t) : Calm s (t.modPanel f) := ⟨h.1, h.2, h.3, h.4⟩
theorem Calm.modSel (f : Selection → Selection) (h : Calm s t) : Calm s (t.modSel f) := ⟨h.1, h.2, h.3, h.4⟩
theorem Calm.modBoard (f : Board → Board) (h : Calm s t) : Calm s (t.modBoard f) := ⟨h.1, h.2, h.3, h.4⟩
theorem Calm.modRep (f : ReportUnit → ReportUnit) (h : Calm s t) : Calm s (t.modRep f) := ⟨h.1, h.2, h.3, h.4⟩
theorem Calm.setTable (l : List Entry) (h : Calm s t) : Calm s (t.setTable l) := ⟨h.1, h.2, h.3, h.4⟩
theorem Calm.drawn (h : Calm s t) : Calm s t.drawn := ⟨h.1, h.2, h.3, h.4⟩

/-- Requests may leave the queue. -/
theorem Calm.modAnn (f : Announcer → Announcer) (h : Calm s t) (hf : (f t.ann).queue.Sublist t.ann.queue) : Calm s (t.modAnn f) :=
  ⟨fun hs => (h.1 hs).sublist hf, h.2, h.3, h.4⟩

/-- The queue may stand. -/
theorem Calm.modAnn' (f : Announcer → Announcer) (h : Calm s t) (hf : (f t.ann).queue = t.ann.queue := by rfl) : Calm s (t.modAnn f) :=
  h.modAnn f (hf ▸ .refl _)

theorem Calm.modIssue (f : IssueUnit → IssueUnit) (h : Calm s t) (hs : (f t.issue).stage = t.issue.stage := by rfl)
    (hf : (f t.issue).fifo = t.issue.fifo := by rfl) : Calm s (t.modIssue f) :=
  ⟨h.1, h.2, hs.trans h.3, hf.trans h.4⟩

/-- The idle deadline is no part of the bounds. -/
theorem Calm.setDeadline (d : Option Nat) (h : Calm s t) : Calm s (t.setDeadline d) := ⟨h.1, h.2, h.3, h.4⟩

/-! ### Flags, counters, input events, marks -/

theorem Calm.raise (f : Flag) (h : Calm s t) : Calm s (t.raise f) := h.modRep _
theorem Calm.count (c : Counter) (n : Nat) (h : Calm s t) : Calm s (t.count c n) := h.modRep _
theorem Calm.panelFault (h : Calm s t) : Calm s t.panelFault := (h.count _ _).raise _
theorem Calm.answerCommand (c : Settings) (post value : Word) (h : Calm s t) : Calm s (t.answerCommand c post value) := h.modRep _
theorem Calm.commandDone (c : Settings) (value : Word) (h : Calm s t) : Calm s (t.commandDone c value) := h.answerCommand _ _ _
theorem Calm.commandRefused (c : Settings) (v : Word) (h : Calm s t) : Calm s (t.commandRefused c v) := h.answerCommand _ _ _
theorem Calm.ownCommand (code : CommandCode) (h : Calm s t) : Calm s (t.ownCommand code) := h.modRep _

theorem Calm.countLost (n : Nat) (h : Calm s t) : Calm s (t.countLost n) := by
  unfold State.countLost
  split
  · exact h
  · exact (h.count _ _).raise _

theorem Calm.pushInput (k : InputKind) (dest : Option Nat) (p : Product) (fare : Nat) (h : Calm s t) :
    Calm s (t.pushInput k dest p fare) := by
  unfold State.pushInput
  split
  · exact h.modRep _
  · exact (h.count _ _).raise _

theorem Calm.markRows (scr : Screen) (rows : List Nat) (h : Calm s t) : Calm s (t.markRows scr rows) := by
  unfold State.markRows
  split
  · exact h.modBoard _
  · exact h

theorem Calm.markBoth (rows : List Nat) (h : Calm s t) : Calm s (t.markBoth rows) := (h.markRows _ _).markRows _ _
theorem Calm.markDepartures (h : Calm s t) : Calm s t.markDepartures := h.markBoth _
theorem Calm.markNotices (h : Calm s t) : Calm s t.markNotices := h.markBoth _
theorem Calm.fareEvent (h : Calm s t) : Calm s t.fareEvent := h.markRows _ _

/-! ### The mode (R135 to R139) -/

/-- A change of the mode reaches only the composer beside the blocks named. -/
theorem State.boardMode_eq (s : State) (old new : Mode) : s.boardMode old new = { s with board := (s.boardMode old new).board } := by
  unfold State.boardMode
  split
  · rfl
  · split <;> rfl
  · split <;> rfl

/-- What a change of the mode reaches (R140). -/
theorem State.setMode_eq (s : State) (m : Mode) :
    s.setMode m = { s with
      act := { s.act with mode := m }, board := (s.setMode m).board, panel := (s.setMode m).panel
      ann := { s.ann with volume := (s.setMode m).ann.volume } } := by
  unfold State.setMode
  split
  next h => subst h; rfl
  next => rw [State.boardMode_eq]; rfl

theorem State.setMode_act (s : State) (m : Mode) : (s.setMode m).act = { s.act with mode := m } := by rw [s.setMode_eq m]

theorem State.setMode_dueCount (s : State) (m : Mode) : (s.setMode m).dueCount = s.dueCount := by rw [s.setMode_eq m]

/-- A change to a mode that the bounds allow keeps them. -/
theorem Calm.setMode (m : Mode) (h : Calm s t)
    (hm : t.FloorKept → (0 < t.dueCount → m ≠ .dormant) ∧ (t.act.supplyLow = true → m ≠ .active)) : Calm s (t.setMode m) := by
  rw [t.setMode_eq m]
  exact ⟨h.1, fun hs => ⟨(h.2 hs).1, hm (h.2 hs)⟩, h.3, h.4⟩

/-- QUIET is always within the bounds. -/
theorem Calm.setQuiet (h : Calm s t) : Calm s (t.setMode .quiet) := h.setMode .quiet fun _ => ⟨nofun, nofun⟩

/-- The ceiling is always within the bounds. -/
theorem Calm.setCeiling (h : Calm s t) : Calm s (t.setMode t.act.ceiling) := by
  refine h.setMode _ fun _ => ?_
  unfold Activity.ceiling
  split
  next => exact ⟨nofun, nofun⟩
  next hlow => exact ⟨nofun, fun hlow' => absurd hlow' hlow⟩

theorem Calm.activityEvent (h : Calm s t) : Calm s t.activityEvent := by
  unfold State.activityEvent
  split
  · exact h.setCeiling.setDeadline _
  · exact h

theorem Calm.idleStep (h : Calm s t) : Calm s t.idleStep := by
  unfold State.idleStep
  split
  next => exact h.setQuiet.setDeadline _
  next =>
    refine Calm.setDeadline _ ?_
    split
    next => exact h
    next hfloor =>
      refine h.setMode .dormant fun hk => ⟨fun hdue => absurd (hk.1.mpr hdue) hfloor, nofun⟩
  next => exact h.setDeadline _

theorem State.floorOn_eq (s : State) :
    s.floorOn = { s with
      act := { s.act with
        floor := true, mode := if s.act.mode = .dormant then .quiet else s.act.mode
        deadline := if s.act.mode = .dormant then none else s.act.deadline }
      board := s.floorOn.board, panel := s.floorOn.panel, ann := { s.ann with volume := s.floorOn.ann.volume } } := by
  unfold State.floorOn
  cases hm : s.act.mode
  all_goals simp only [State.modAct_act, hm]
  · simp [State.modAct, hm]
  · simp [State.modAct, hm]
  · unfold State.setDeadline State.modAct
    rw [State.setMode_eq]
    simp

theorem State.floorOff_eq (s : State) :
    s.floorOff = { s with act := { s.act with floor := false, deadline := s.floorOff.act.deadline } } := by
  unfold State.floorOff
  dsimp only
  split <;> rfl

/-- Bringing the DUE count up to date brings the floor with it (R57, R138). -/
theorem Calm.syncDue (h : Calm s t) : Calm s t.syncDue := by
  unfold State.syncDue
  dsimp only
  split
  next hon =>
    obtain ⟨hzero, hpos⟩ := hon
    rw [State.floorOn_eq]
    refine ⟨h.1, fun hs => ⟨iff_of_true rfl hpos, fun _ => ?_, fun hlow => ?_⟩, h.3, h.4⟩
    · change (if t.act.mode = .dormant then Mode.quiet else t.act.mode) ≠ .dormant
      split <;> simp_all
    · change (if t.act.mode = .dormant then Mode.quiet else t.act.mode) ≠ .active
      have := (h.2 hs).2.2 hlow
      split <;> simp_all
  next hon =>
    split
    next hoff =>
      obtain ⟨-, hzero⟩ := hoff
      rw [State.floorOff_eq]
      refine ⟨h.1, fun hs => ⟨?_, fun hpos => ?_, (h.2 hs).2.2⟩, h.3, h.4⟩
      · change false = true ↔ 0 < dueEntries t.bat t.table
        rw [hzero]
        simp
      · change 0 < dueEntries t.bat t.table at hpos
        omega
    next hoff =>
      have hiff : 0 < dueEntries t.bat t.table ↔ 0 < t.dueCount := by omega
      exact ⟨h.1, fun hs => ⟨(h.2 hs).1.trans hiff.symm, fun hpos => (h.2 hs).2.1 (hiff.mp hpos), (h.2 hs).2.2⟩, h.3, h.4⟩

/-! ### The announcer (R142 to R154) -/

theorem Calm.startFrom (c : Settings) (q : List AnnReq) (h : Calm s t) (hq : q.Sublist t.ann.queue) : Calm s (t.startFrom c q) := by
  induction q with
  | nil => exact h.modAnn _ hq
  | cons r rs ih =>
    have hrs := (List.sublist_cons_self r rs).trans hq
    unfold State.startFrom
    split
    · exact h.modAnn _ hrs
    · exact ih hrs

theorem Calm.startNext (h : Calm s t) : Calm s t.startNext := by
  unfold State.startNext
  split
  · exact h.startFrom _ _ (.refl _)
  · exact h

theorem Calm.endAnnouncement (h : Calm s t) : Calm s t.endAnnouncement := (h.modAnn' _).startNext

theorem Calm.cut (why : CutCause) (h : Calm s t) : Calm s (t.cut why) := by
  unfold State.cut
  split
  next => exact h
  next a =>
    split
    next => exact h
    next =>
      have hcount : Calm s (if why = .preempted then t.count .annDrop 1 else t) := by
        split
        · exact h.count _ _
        · exact h
      dsimp only
      split
      · exact hcount.modAnn' _
      · exact (hcount.modAnn' _).endAnnouncement

theorem Calm.takeRequest (r : AnnReq) (h : Calm s t) : Calm s (t.takeRequest r) := by
  unfold State.takeRequest
  dsimp only
  have hplaced : Calm s (t.modAnn fun n => { n with queue := (placeRequest t.ann.queue r).1 }) :=
    ⟨fun hs => (h.1 hs).place r, h.2, h.3, h.4⟩
  refine Calm.startNext ?_
  split
  · exact (hplaced.count _ _).cut _
  · exact hplaced.count _ _

theorem Calm.handRequest (k : AnnKind) (who : TrainId) (h : Calm s t) : Calm s (t.handRequest k who) := by
  unfold State.handRequest
  split
  · exact h.count _ _
  · exact h.takeRequest _

theorem Calm.withdrawQueued (who : TrainId) (kinds : List AnnKind) (h : Calm s t) : Calm s (t.withdrawQueued who kinds) :=
  h.modAnn _ List.filter_sublist

theorem Calm.cutFor (who : TrainId) (kinds : List AnnKind) (h : Calm s t) : Calm s (t.cutFor who kinds) := by
  unfold State.cutFor
  split
  · split
    · exact h.cut _
    · exact h
  · exact h

theorem Calm.annRemoved (who : TrainId) (h : Calm s t) : Calm s (t.annRemoved who) := (h.withdrawQueued _ _).cutFor _ _
theorem Calm.annCancelled (who : TrainId) (h : Calm s t) : Calm s (t.annCancelled who) := (h.withdrawQueued _ _).cutFor _ _
theorem Calm.annClear (h : Calm s t) : Calm s t.annClear := (h.modAnn _ (List.nil_sublist _)).cut _

theorem Calm.annSupply (asserted : Bool) (h : Calm s t) : Calm s (t.annSupply asserted) := by
  unfold State.annSupply
  dsimp only
  have hlevel : Calm s (t.modAnn fun a => { a with supplyLow := asserted }) := h.modAnn' _
  split
  · exact (hlevel.modAnn _ List.filter_sublist).count _ _
  · exact hlevel

theorem Calm.outputSample (h : Calm s t) : Calm s t.outputSample := by
  unfold State.outputSample
  split
  next a b rest _ _ =>
    dsimp only
    have hout : Calm s (t.modAnn fun n => { n with fifo := rest, level := scaled b t.ann.volume, driven := scaled b t.ann.volume }) :=
      h.modAnn' _
    split
    next => exact hout
    next =>
      split
      next => exact hout.modAnn' _
      next =>
        split
        · exact hout.endAnnouncement
        · exact hout.modAnn' _
  next => exact h

theorem Calm.annAdvance (h : Calm s t) : Calm s t.annAdvance := by
  unfold State.annAdvance
  split
  next => exact h
  next =>
    split
    next =>
      split
      · exact h.endAnnouncement
      · exact h
    next =>
      split
      next => exact (h.modAnn' _).outputSample.activityEvent
      next =>
        split
        · exact h.endAnnouncement
        · exact h

theorem Calm.annServed (w : Word) (h : Calm s t) : Calm s (t.annServed w) := by
  unfold State.annServed
  split
  next =>
    split
    · exact (h.modAnn' _).annAdvance
    · exact (h.modAnn' _).annAdvance
    · exact h
  next => exact h

theorem Calm.annSkip (c : Settings) (h : Calm s t) : Calm s (t.annSkip c) := by
  unfold State.annSkip
  split
  next => exact h
  next =>
    split
    · split
      · exact (h.modAnn' _).annAdvance
      · exact h
    · exact h
    · exact h

theorem Calm.annPeriod (h : Calm s t) : Calm s t.annPeriod := by
  unfold State.annPeriod
  split
  next => exact h
  next =>
    split
    next =>
      split
      · exact (h.count _ _).raise _
      · exact h.outputSample
    next => exact h

/-- Supply-low takes an ACTIVE mode down as it is asserted (R139). -/
theorem Calm.supplyMode (asserted : Bool) (h : Calm s t) : Calm s (t.supplyMode asserted) := by
  unfold State.supplyMode
  dsimp only
  split
  next hboth =>
    refine Calm.setDeadline _ ?_
    rw [State.setMode_eq]
    exact ⟨h.1, fun hs => ⟨(h.2 hs).1, nofun, nofun⟩, h.3, h.4⟩
  next hboth =>
    refine ⟨h.1, fun hs => ⟨(h.2 hs).1, (h.2 hs).2.1, fun hlow hactive => hboth ?_⟩, h.3, h.4⟩
    change asserted = true at hlow
    change t.act.mode = .active at hactive
    simp [hlow, hactive]

/-! ### Quotes (R62, R71 to R73) -/

theorem Calm.setRecord (slot : Nat) (r : QuoteRec) (h : Calm s t) : Calm s (t.setRecord slot r) := h.modIssue _
theorem Calm.issueWrites (accs : List Acc) (h : Calm s t) : Calm s (t.issueWrites accs) := h.modIssue _

theorem Calm.voidSlot (slot : Nat) (why : VoidReason) (h : Calm s t) : Calm s (t.voidSlot slot why) := by
  unfold State.voidSlot
  split
  · dsimp only
    split
    · exact (h.setRecord _ _).issueWrites _
    · exact h.setRecord _ _
  · exact h

theorem Calm.voidBound (who : TrainId) (h : Calm s t) : Calm s (t.voidBound who) := by
  refine Calm.foldl (fun u slot hu => ?_) h
  split
  · exact hu.voidSlot _ _
  · exact hu

theorem Calm.voidAll (h : Calm s t) : Calm s t.voidAll := Calm.foldl (fun _ _ hu => hu.voidSlot _ _) h
theorem Calm.endQuotes (h : Calm s t) : Calm s t.endQuotes := Calm.foldl (fun _ _ hu => hu.voidSlot _ _) h

/-! ### The selection machine (R100 to R109) -/

theorem Calm.syncLeave (entered : Bool) (h : Calm s t) : Calm s (t.syncLeave entered) := by
  unfold State.syncLeave
  split
  next => exact h
  next =>
    split
    · split
      · exact h.modSel _
      · exact h
    · exact h.modSel _

theorem Calm.setSel (new : Selection) (h : Calm s t) : Calm s (t.setSel new) := by
  unfold State.setSel
  dsimp only
  have hsync : Calm s ((t.modSel fun _ => new).syncLeave (t.sel.state != new.state)) := (h.modSel _).syncLeave _
  split
  next => exact hsync
  next =>
    have hfare : Calm s (if t.sel.cursor = new.cursor ∧ t.sel.product = new.product then
        ((t.modSel fun _ => new).syncLeave (t.sel.state != new.state)).markRows .a [1, 2, 3, 4]
        else (((t.modSel fun _ => new).syncLeave (t.sel.state != new.state)).markRows .a [1, 2, 3, 4]).fareEvent) := by
      split
      · exact hsync.markRows _ _
      · exact (hsync.markRows _ _).fareEvent
    split
    · exact hfare
    · exact hfare.activityEvent

theorem Calm.handCount (n : Nat) (h : Calm s t) : Calm s (t.handCount n) := by
  unfold State.handCount
  split
  next => exact h
  next =>
    dsimp only
    split
    · exact (h.modBoard _).setSel _
    · exact h.modBoard _

theorem Calm.selIdle (h : Calm s t) : Calm s t.selIdle := h.setSel _

theorem Calm.adjustSel (c : Settings) (h : Calm s t) : Calm s (t.adjustSel c) := by
  unfold State.adjustSel
  dsimp only
  split
  · exact h
  · exact h
  · exact h
  all_goals
    split
    · exact h.setSel _
    · split
      · exact h.setSel _
      · split
        · exact h
        · exact h.setSel _

theorem Calm.recomputeList (h : Calm s t) : Calm s t.recomputeList := by
  unfold State.recomputeList
  split
  · exact h
  · exact ((h.modPanel _).adjustSel _).fareEvent

theorem Calm.selBrowse (c : Settings) (ev : SelEvent) (h : Calm s t) : Calm s (t.selBrowse c ev) := by
  cases ev
  case hold | presence | absence => exact h
  all_goals exact h.setSel _

theorem Calm.chooseForward (h : Calm s t) : Calm s t.chooseForward := by
  unfold State.chooseForward
  split
  · exact h
  · exact h.setSel _

theorem Calm.selChoose (ev : SelEvent) (h : Calm s t) : Calm s (t.selChoose ev) := by
  cases ev
  case hold | presence | absence => exact h
  case ok | tap => exact h.chooseForward
  case back => exact h.setSel _
  all_goals
    unfold State.selChoose
    dsimp only
    split
    · exact h.setSel _
    · exact h

theorem Calm.confirmForward (c : Settings) (h : Calm s t) : Calm s (t.confirmForward c) := (h.pushInput _ _ _ _).setSel _

theorem Calm.selConfirm (c : Settings) (ev : SelEvent) (h : Calm s t) : Calm s (t.selConfirm c ev) := by
  cases ev
  case hold | presence | absence => exact h
  case ok | tap => exact h.confirmForward c
  all_goals exact h.setSel _

theorem Calm.selHanded (c : Settings) (ev : SelEvent) (h : Calm s t) : Calm s (t.selHanded c ev) := by
  cases ev
  case back => exact ((h.pushInput _ _ _ _).setSel _).adjustSel c
  all_goals exact h

theorem Calm.selWake (h : Calm s t) : Calm s t.selWake := h.setSel _

theorem Calm.selEvent (ev : SelEvent) (h : Calm s t) : Calm s (t.selEvent ev) := by
  unfold State.selEvent
  split
  next => exact h
  next =>
    split
    · split
      · exact h
      · exact h.selWake
    · exact h.selBrowse _ _
    · exact h.selChoose _
    · exact h.selConfirm _ _
    · exact h.selHanded _ _

theorem Calm.selLeave (h : Calm s t) : Calm s t.selLeave := by
  unfold State.selLeave
  split
  · exact (h.pushInput _ _ _ _).selIdle
  · exact (h.pushInput _ _ _ _).selIdle
  · exact h.selIdle
  · exact h
  · exact h

theorem Calm.selTimeout (h : Calm s t) : Calm s t.selTimeout := (h.pushInput _ _ _ _).setSel _
theorem Calm.selDone (h : Calm s t) : Calm s t.selDone := h.setSel _

/-! ### The departure table (R10 to R25, R41 to R58) -/

theorem Calm.removeEntry (who : TrainId) (h : Calm s t) : Calm s (t.removeEntry who) :=
  (((h.setTable _).voidBound _).annRemoved _).syncDue.markDepartures

theorem Calm.removeAll (l : List Entry) (h : Calm s t) : Calm s (t.removeAll l) := Calm.foldl (fun _ _ hu => hu.removeEntry _) h

theorem Calm.phaseEvents (old : Phase) (mark : Bool) (new : Entry) (h : Calm s t) : Calm s (t.phaseEvents old mark new) := by
  unfold State.phaseEvents
  split
  next => exact h
  next =>
    split
    · refine Calm.activityEvent ?_
      split
      · exact h
      · exact h.handRequest _ _
    · split
      · exact h.withdrawQueued _ _
      · exact h
    · exact (h.voidBound _).withdrawQueued _ _
    · dsimp only
      split
      · exact ((h.voidBound _).drawn.handRequest _ _).annCancelled _
      · exact ((h.voidBound _).drawn.annCancelled _).handRequest _ _

theorem Calm.evalEntry (c : Settings) (old cur : Entry) (after : EvalAfter) (stepped : Bool) (h : Calm s t) :
    Calm s (t.evalEntry c old cur after stepped) := by
  unfold State.evalEntry
  dsimp only
  have hphase := (h.setTable (replaceEntry t.bat t.table old (cur.evaluated t.bat c.proj t.nowSec old after stepped))).syncDue.phaseEvents
    old.phase cur.dueAnn (cur.evaluated t.bat c.proj t.nowSec old after stepped)
  split
  · refine Calm.markDepartures ?_
    split
    · exact hphase.handRequest _ _
    · exact hphase
  · split
    · exact hphase.handRequest _ _
    · exact hphase

theorem Calm.evalAll (c : Settings) (h : Calm s t) : Calm s (t.evalAll c) := by
  refine Calm.foldl (fun u e hu => ?_) h
  split
  · exact hu.evalEntry _ _ _ _ _
  · exact hu

theorem Calm.retire (c : Settings) (h : Calm s t) : Calm s (t.retire c) := ((h.removeAll _).removeAll _).countLost _
theorem Calm.rollTable (h : Calm s t) : Calm s t.rollTable := (((h.removeAll _).countLost _).setTable _).syncDue.markDepartures
theorem Calm.evalPass (c : Settings) (h : Calm s t) : Calm s (t.evalPass c) := ((h.evalAll c).retire c).recomputeList

theorem Calm.emptyTable (h : Calm s t) : Calm s t.emptyTable :=
  ((h.annClear.setTable []).syncDue.countLost _).voidAll.markDepartures.recomputeList

theorem Calm.retestStale (c : Settings) (h : Calm s t) : Calm s (t.retestStale c) := by
  unfold State.retestStale
  split
  · exact (h.setTable _).markDepartures.recomputeList
  · exact h

theorem Calm.makeRoom {u : State} (rel : Relation) (sched : Nat) (h : Calm s t) (hu : t.makeRoom rel sched = some u) : Calm s u := by
  unfold State.makeRoom at hu
  split at hu
  · cases hu; exact h
  · obtain ⟨e, _, rfl⟩ := Option.map_eq_some_iff.mp hu
    exact (h.removeEntry _).countLost _

theorem Calm.addEntry (c : Settings) (e : Entry) (h : Calm s t) : Calm s (t.addEntry c e) :=
  ((h.setTable _).markDepartures.evalEntry _ _ _ _ _).recomputeList

theorem Calm.recordOver (c : Settings) (src : Source) (im : Image) (e : Entry) (h : Calm s t) :
    Calm s (t.recordOver c src im e).1 := by
  unfold State.recordOver
  dsimp only
  split
  next => exact h
  next =>
    split
    next =>
      refine Calm.recomputeList ?_
      split
      · exact (h.evalEntry _ _ _ _ _).markDepartures.voidBound _
      · exact (h.evalEntry _ _ _ _ _).markDepartures
    next => exact h

theorem Calm.applyRecord (c : Settings) (src : Source) (im : Image) (h : Calm s t) : Calm s (t.applyRecord c src im).1 := by
  unfold State.applyRecord
  split
  · exact h.recordOver _ _ _ _
  · split
    · exact h
    · exact (h.makeRoom _ _ (by assumption)).addEntry _ _

theorem Calm.updateEntry (c : Settings) (old cur : Entry) (after : EvalAfter) (stepped : Bool) (h : Calm s t) :
    Calm s (t.updateEntry c old cur after stepped) := by
  unfold State.updateEntry
  dsimp only
  split
  · exact (h.evalEntry _ _ _ _ _).recomputeList
  · exact h.evalEntry _ _ _ _ _

theorem Calm.applyDelete (im : Image) (h : Calm s t) : Calm s (t.applyDelete im).1 := by
  unfold State.applyDelete
  split
  · exact h
  · exact (h.removeEntry _).recomputeList

theorem Calm.applyCancel (c : Settings) (im : Image) (h : Calm s t) : Calm s (t.applyCancel c im).1 := by
  unfold State.applyCancel
  split
  next => exact h
  next =>
    dsimp only
    split
    · exact h.updateEntry _ _ _ _ _
    · exact h.updateEntry _ _ _ _ _
    · split
      · exact h
      · dsimp only
        exact (h.updateEntry _ _ _ _ _).handRequest _ _
    · exact h

theorem Calm.applyReinstate (c : Settings) (im : Image) (h : Calm s t) : Calm s (t.applyReinstate c im).1 := by
  unfold State.applyReinstate
  split
  · exact h
  · split
    · exact h.updateEntry _ _ _ _ _
    · exact h

theorem Calm.applyReport (c : Settings) (im : Image) (h : Calm s t) : Calm s (t.applyReport c im).1 := by
  unfold State.applyReport
  split
  · exact h
  · split
    · exact h
    · exact h.updateEntry _ _ _ _ _

theorem Calm.applyDeparted (c : Settings) (im : Image) (h : Calm s t) : Calm s (t.applyDeparted c im).1 := by
  unfold State.applyDeparted
  split
  next => exact h
  next =>
    split
    · exact h.updateEntry _ _ _ _ _
    · exact h.updateEntry _ _ _ _ _
    · exact h
    · exact h

theorem Calm.applyImage (c : Settings) (src : Source) (k : UpdateKind) (im : Image) (h : Calm s t) :
    Calm s (t.applyImage c src k im).1 := by
  unfold State.applyImage
  split
  next => exact h
  next =>
    split
    next => exact h
    next =>
      cases k
      · exact h.applyRecord _ _ _
      · exact h.applyDelete _
      · exact h.applyCancel _ _
      · exact h.applyReinstate _ _
      · exact h.applyReport _ _
      · exact h.applyDeparted _ _

/-! ### The panel (R86 to R99) -/

theorem Calm.setChan (ch : Nat) (c : Channel) (h : Calm s t) : Calm s (t.setChan ch c) := h.modPanel _
theorem Calm.reseedChan (p : PanelParams) (ch : Nat) (h : Calm s t) : Calm s (t.reseedChan p ch) := h.setChan _ _
theorem Calm.clearTracker (h : Calm s t) : Calm s t.clearTracker := h.modPanel _
theorem Calm.noteRound (h : Calm s t) : Calm s t.noteRound := by
  unfold State.noteRound
  exact h.modPanel _

theorem Calm.wetEnd (p : PanelParams) (h : Calm s t) : Calm s (t.wetEnd p) := by
  refine Calm.foldl (fun u ch hu => ?_) h
  split
  · exact hu.reseedChan _ _
  · exact hu

theorem Calm.releaseChan (p : PanelParams) (ch : Nat) (h : Calm s t) : Calm s (t.releaseChan p ch) := by
  unfold State.releaseChan
  dsimp only
  split
  next => exact (h.setChan _ _).selEvent _
  next =>
    split
    next => exact (h.setChan _ _).wetEnd _
    next =>
      split
      · exact (h.setChan _ _).clearTracker
      · exact h.setChan _ _

theorem Calm.startCal (p : PanelParams) (ch : Nat) (h : Calm s t) : Calm s (t.startCal p ch) := by
  unfold State.startCal
  dsimp only
  refine Calm.setChan _ _ ?_
  split
  · exact h.releaseChan _ _
  · exact h

theorem Calm.sampleChan (p : PanelParams) (ch r : Nat) (h : Calm s t) : Calm s (t.sampleChan p ch r) := by
  unfold State.sampleChan
  dsimp only
  split
  · exact h.setChan _ _
  · exact h.setChan _ _
  · split
    · exact h.setChan _ _
    · split
      · exact h.setChan _ _
      · exact (h.setChan _ _).panelFault
  · exact h
  · exact h

theorem Calm.block (h : Calm s t) : Calm s t.block := (Calm.foldl (fun _ _ hu => hu.setChan _ _) h).clearTracker

theorem Calm.testRain (p : PanelParams) (h : Calm s t) : Calm s (t.testRain p) := by
  unfold State.testRain
  dsimp only
  split
  · exact (h.setChan _ _).block
  · exact (h.setChan _ _).wetEnd _
  · exact h.setChan _ _

theorem Calm.testChan (p : PanelParams) (ch : Nat) (h : Calm s t) : Calm s (t.testChan p ch).1 := by
  unfold State.testChan
  split
  · exact h.setChan _ _
  · exact h.setChan _ _

theorem Calm.testChans (p : PanelParams) (l : List Nat) (h : Calm s t) : Calm s (t.testChans p l).1 := by
  induction l generalizing t with
  | nil => exact h
  | cons ch rest ih => exact ih (h.testChan p ch)

theorem Calm.slide (p : PanelParams) (h : Calm s t) : Calm s (t.slide p).1 := by
  unfold State.slide
  dsimp only
  split
  · split
    all_goals
      dsimp only
      exact h.modPanel _
  · split
    · exact h.clearTracker
    · exact h.clearTracker

theorem Calm.onsets (es : List (Nat × Edge)) (h : Calm s t) : Calm s (t.onsets es) := by
  refine Calm.foldl (fun u e hu => ?_) h
  split
  · exact hu.activityEvent
  · exact hu

theorem Calm.finishCal (c : Settings) (h : Calm s t) : Calm s (t.finishCal c) := by
  unfold State.finishCal
  split
  · split
    · exact h
    · exact (h.modPanel _).commandDone _ _
  · exact h

/-- The samples of a round, taken of some channels in their order (R87, R88, R90). -/
def State.sampled (s : State) (p : PanelParams) (counts chans : List Nat) : State :=
  chans.foldl (fun s ch => s.sampleChan p ch (clampCount (counts.getD ch 0))) s.noteRound

/-- A round that samples all eight channels takes every step of R99. -/
theorem State.senseRound_full (s : State) (p : PanelParams) (counts : List Nat) (hfull : s.fullRound = true) :
    s.senseRound p counts =
      (let t := ((s.sampled p counts [0, 1, 2, 3, 4, 5, 6, 7]).testRain p).testChans p [0, 1, 2, 3, 4, 5, 6]
       let g := t.1.slide p
       (g.1, t.2, g.2)) := by
  simp only [State.senseRound, State.sampled, hfull, if_true]

/-- A round that samples the plate alone tests the plate alone (R87). -/
theorem State.senseRound_plate (s : State) (p : PanelParams) (counts : List Nat) (hfull : s.fullRound = false) :
    s.senseRound p counts =
      (let t := (s.sampled p counts [0]).testChans p [0]
       (t.1, t.2, [])) := by
  simp only [State.senseRound, State.sampled, hfull, Bool.false_eq_true, if_false]

theorem Calm.sampled (p : PanelParams) (counts chans : List Nat) (h : Calm s t) : Calm s (t.sampled p counts chans) :=
  Calm.foldl (fun _ _ hu => hu.sampleChan _ _ _) h.noteRound

theorem Calm.senseRound (p : PanelParams) (counts : List Nat) (h : Calm s t) : Calm s (t.senseRound p counts).1 := by
  cases hfull : t.fullRound
  · rw [State.senseRound_plate _ _ _ hfull]
    dsimp only
    exact (h.sampled _ _ _).testChans _ _
  · rw [State.senseRound_full _ _ _ hfull]
    dsimp only
    exact (((h.sampled _ _ _).testRain _).testChans _ _).slide _

theorem Calm.round (c : Settings) (counts : List Nat) (h : Calm s t) : Calm s (t.round c counts) :=
  ((Calm.foldl (fun _ _ hu => hu.selEvent _) ((h.senseRound _ _).onsets _)).syncLeave _).finishCal _

theorem Calm.releaseStuck (c : Settings) (ch : Nat) (h : Calm s t) : Calm s (t.releaseStuck c ch) :=
  ((h.releaseChan _ _).reseedChan _ _).panelFault.syncLeave _

theorem Calm.reseedMask (p : PanelParams) (m : Nat) (h : Calm s t) : Calm s (t.reseedMask p m) := by
  refine Calm.foldl (fun u ch hu => ?_) h
  split
  · exact hu.reseedChan _ _
  · exact (hu.releaseChan _ _).reseedChan _ _
  · exact hu
  · exact hu
  · exact hu

/-! ### The composer (R111 to R128) -/

theorem Calm.goOnBuild (b : Build) (h : Calm s t) : Calm s (t.goOnBuild b) := by
  unfold State.goOnBuild
  split
  · exact h.modBoard _
  · exact h.modBoard _

theorem Calm.countShown (c : Settings) (scr : Screen) (row : Nat) (h : Calm s t) : Calm s (t.countShown c scr row) := by
  unfold State.countShown
  split
  · exact h.handCount _
  · exact h

theorem Calm.startBuild (c : Settings) (scr : Screen) (row : Nat) (h : Calm s t) : Calm s (t.startBuild c scr row) :=
  ((h.modBoard _).countShown _ _ _).goOnBuild _

theorem Calm.setLineNotice (n : Option Notice) (h : Calm s t) : Calm s (t.setLineNotice n) := by
  unfold State.setLineNotice
  split
  · exact h
  · exact (h.modBoard _).markNotices

theorem Calm.setOwnNotice (n : Option Notice) (h : Calm s t) : Calm s (t.setOwnNotice n) := by
  unfold State.setOwnNotice
  split
  · exact h
  · exact (h.modBoard _).markNotices

theorem Calm.takeLocalNotice (c : Settings) (addr len duration : Nat) (h : Calm s t) :
    Calm s (t.takeLocalNotice c addr len duration) := by
  unfold State.takeLocalNotice
  split
  · exact h.commandRefused _ _
  · split
    · exact h.commandRefused _ _
    · split
      · exact (h.setOwnNotice _).commandDone _ _
      · exact (h.modBoard _).ownCommand _

theorem Calm.takeNoticeWord (c : Settings) (n : NoticeFetch) (w : Word) (h : Calm s t) : Calm s (t.takeNoticeWord c n w) := by
  unfold State.takeNoticeWord
  dsimp only
  split
  · exact h.modBoard _
  · exact ((h.modBoard _).setOwnNotice _).commandDone _ _

theorem Calm.paintServed (w : Word) (h : Calm s t) : Calm s (t.paintServed w) := by
  unfold State.paintServed
  split
  · exact h.goOnBuild _
  · exact h.modBoard _
  · exact h

theorem Calm.composerServed (w : Word) (h : Calm s t) : Calm s (t.composerServed w) := by
  unfold State.composerServed
  dsimp only
  have hdrawn : Calm s (if t.noticeWants.isSome && t.paintWants.isSome then t.drawn else t) := by
    split
    · exact h.drawn
    · exact h
  split
  · exact hdrawn.takeNoticeWord _ _ _
  · exact hdrawn.paintServed _

theorem Calm.recompose (h : Calm s t) : Calm s t.recompose := by
  unfold State.recompose
  exact h.modBoard _

end Sys2Proof.Machine
end

section
/-! PROOFS. What every operation keeps beside the departure side: the memory's canonical form, the host's side of the memory path,
the settings, and the ring order of the journal's indices. -/

namespace Sys2Proof.Machine

/-! ### The journal's ring (R79) -/

/-- The distance between two places of a ring: on from the first it leads to the second, perhaps round the ring. -/
theorem ring_span {m a b : Nat} (ha : a < m) (hb : b < m) :
    (b + m - a) % m < m ∧ (a + (b + m - a) % m = b ∨ a + (b + m - a) % m = b + m) := by
  refine ⟨Nat.mod_lt _ (by omega), ?_⟩
  rcases Nat.lt_or_ge b a with hlt | hge
  · rw [Nat.mod_eq_of_lt (by omega)]
    omega
  · rw [show b + m - a = b - a + m by omega, Nat.add_mod_right, Nat.mod_eq_of_lt (by omega)]
    omega

/-- A step of at most one round. -/
theorem ring_step {m a n : Nat} (ha : a < m) (hn : n ≤ m) : (a + n) % m < m ∧ ((a + n) % m = a + n ∨ (a + n) % m + m = a + n) := by
  refine ⟨Nat.mod_lt _ (by omega), ?_⟩
  rcases Nat.lt_or_ge (a + n) m with hlt | hge
  · rw [Nat.mod_eq_of_lt hlt]
    omega
  · rw [show a + n = a + n - m + m by omega, Nat.add_mod_right, Nat.mod_eq_of_lt (by omega)]
    omega

/-- The indices of a battery domain stand in ring order, with at most J entries unconfirmed (R79). -/
def Battery.RingOrdered (b : Battery) (g : Geometry) : Prop :=
  0 < g.size ∧ b.write < 2 * g.size ∧ b.send < 2 * g.size ∧ b.confirm < 2 * g.size ∧
  (b.send + 2 * g.size - b.confirm) % (2 * g.size) ≤ (b.write + 2 * g.size - b.confirm) % (2 * g.size) ∧
  (b.write + 2 * g.size - b.confirm) % (2 * g.size) ≤ g.size

/-- The write index takes an entry that is free (R76). -/
theorem Battery.RingOrdered.written {b b' : Battery} {g : Geometry} (h : b.RingOrdered g)
    (hfree : (b.write + 2 * g.size - b.confirm) % (2 * g.size) < g.size) (hw : b'.write = (b.write + 1) % (2 * g.size))
    (hs : b'.send = b.send) (hc : b'.confirm = b.confirm) : b'.RingOrdered g := by
  obtain ⟨h0, hwrite, hsend, hconfirm, h1, h2⟩ := h
  obtain ⟨hlt, hstep⟩ := ring_step (n := 1) hwrite (by omega)
  have hspan := ring_span hconfirm hwrite
  have hspan' := ring_span hconfirm hlt
  unfold Battery.RingOrdered
  rw [hw, hs, hc]
  refine ⟨h0, hlt, hsend, hconfirm, ?_, ?_⟩ <;> omega

/-- The send index moves on toward the write index (R81). -/
theorem Battery.RingOrdered.sent {b b' : Battery} {g : Geometry} {n : Nat} (h : b.RingOrdered g) (hn : n ≤ g.span b.send b.write)
    (hw : b'.write = b.write) (hs : b'.send = (b.send + n) % (2 * g.size)) (hc : b'.confirm = b.confirm) : b'.RingOrdered g := by
  obtain ⟨h0, hwrite, hsend, hconfirm, h1, h2⟩ := h
  unfold Geometry.span at hn
  have hleft := ring_span hsend hwrite
  have hspan := ring_span hconfirm hwrite
  have hold := ring_span hconfirm hsend
  obtain ⟨hlt, hstep⟩ := ring_step hsend (Nat.le_trans hn (Nat.le_of_lt hleft.1))
  have hnew := ring_span hconfirm hlt
  unfold Battery.RingOrdered
  rw [hw, hs, hc]
  refine ⟨h0, hwrite, hlt, hconfirm, ?_, h2⟩
  omega

/-- The confirm index moves on toward the send index (R82). -/
theorem Battery.RingOrdered.confirmed {b b' : Battery} {g : Geometry} {n : Nat} (h : b.RingOrdered g) (hn : n ≤ g.span b.confirm b.send)
    (hw : b'.write = b.write) (hs : b'.send = b.send) (hc : b'.confirm = (b.confirm + n) % (2 * g.size)) :
    b'.RingOrdered g ∧
      (b'.write + 2 * g.size - b'.confirm) % (2 * g.size) ≤ (b.write + 2 * g.size - b.confirm) % (2 * g.size) := by
  obtain ⟨h0, hwrite, hsend, hconfirm, h1, h2⟩ := h
  unfold Geometry.span at hn
  have hspan := ring_span hconfirm hwrite
  have hold := ring_span hconfirm hsend
  obtain ⟨hlt, hstep⟩ := ring_step hconfirm (Nat.le_trans hn (Nat.le_of_lt hold.1))
  have hspan' := ring_span hlt hwrite
  have hold' := ring_span hlt hsend
  unfold Battery.RingOrdered
  rw [hw, hs, hc]
  refine ⟨⟨h0, hwrite, hsend, hlt, ?_, ?_⟩, ?_⟩ <;> omega

/-- The send index returns to the confirm index (R81). -/
theorem Battery.RingOrdered.reverted {b b' : Battery} {g : Geometry} (h : b.RingOrdered g) (hw : b'.write = b.write)
    (hs : b'.send = b.confirm) (hc : b'.confirm = b.confirm) : b'.RingOrdered g := by
  obtain ⟨h0, hwrite, hsend, hconfirm, h1, h2⟩ := h
  unfold Battery.RingOrdered
  rw [hw, hs, hc]
  refine ⟨h0, hwrite, hconfirm, hconfirm, ?_, h2⟩
  rw [Nat.add_sub_cancel_left, Nat.mod_self]
  exact Nat.zero_le _

end Sys2Proof.Machine
end

section
/-! PROOFS. What the operations of the issue unit, the link, the report writer, the memory path and the loader keep: the memory's
canonical form, the host's side of the memory path, the settings, the table, and the ring order of the journal's indices. -/

namespace Sys2Proof.Machine

/-! ### The relations -/

/-- The settings that a reload is about to put in force (R198). -/
def LoaderStage.next? : LoaderStage → Option Settings
  | .reloadTicket next _ => some next
  | .reloadFinish next => some next
  | _ => none

theorem LoaderStage.next?_iff (g : LoaderStage) (c : Settings) :
    g.next? = some c ↔ (∃ late, g = .reloadTicket c late) ∨ g = .reloadFinish c := by
  cases g <;> simp [LoaderStage.next?]

/-- The windows fit when those of the settings in force and of those about to be do. -/
theorem State.windowsFit_iff (s : State) :
    s.WindowsFit ↔ (∀ c, s.cfg = some c → c.windowsFit) ∧ ∀ c, s.loader.stage.next? = some c → c.windowsFit := by
  simp only [State.WindowsFit, LoaderStage.next?_iff, or_imp, forall_and, forall_exists_index]

theorem State.journalOrdered_iff (s : State) :
    s.JournalOrdered ↔
      (∀ g, s.bat.geometry = some g → s.bat.RingOrdered g) ∧
      (∀ k, s.issue.stage = .ticket k → s.issue.fifo ≠ [] ∧ 0 < s.bat.freeEntries) ∧
      ∀ c, s.loader.stage.next? = some c → 0 < c.win.jsize := by
  simp only [State.JournalOrdered, LoaderStage.next?_iff]
  exact Iff.rfl

/-- What every operation keeps: the canonical form of memory, the host's side of the memory path, the order of the announcer's
queue, and the bounds of the floor. -/
structure Holds (s t : State) : Prop where
  mem : Memory.wf s.mem = true → Memory.wf t.mem = true
  host : t.path.hostSide = s.path.hostSide
  queue : QueueFine s.ann.queue → QueueFine t.ann.queue
  floor : s.FloorKept → t.FloorKept

/-- What every operation keeps that puts no settings in force, beside that: power, the settings, the journal's order, and the
settings that a reload is about to put in force. -/
structure Keeps (s t : State) : Prop extends Holds s t where
  power : t.power = s.power
  cfg : t.cfg = s.cfg
  journal : s.JournalOrdered → t.JournalOrdered
  next : t.loader.stage.next? = none ∨ t.loader.stage.next? = s.loader.stage.next?

/-- What every operation keeps that leaves the table alone, beside that: the table, the DUE count and the service day. -/
structure Still (s t : State) : Prop extends Keeps s t where
  table : t.table = s.table
  dueCount : t.dueCount = s.dueCount
  day : t.bat.day = s.bat.day

theorem Holds.refl (s : State) : Holds s s := ⟨id, rfl, id, id⟩
theorem Keeps.refl (s : State) : Keeps s s := ⟨.refl s, rfl, rfl, id, .inr rfl⟩
theorem Still.refl (s : State) : Still s s := ⟨.refl s, rfl, rfl, rfl⟩

theorem Holds.trans {s t u : State} (h : Holds s t) (k : Holds t u) : Holds s u :=
  ⟨k.mem ∘ h.mem, k.host.trans h.host, k.queue ∘ h.queue, k.floor ∘ h.floor⟩

theorem Keeps.trans {s t u : State} (h : Keeps s t) (k : Keeps t u) : Keeps s u where
  toHolds := h.toHolds.trans k.toHolds
  power := k.power.trans h.power
  cfg := k.cfg.trans h.cfg
  journal := k.journal ∘ h.journal
  next := k.next.elim .inl fun hk => h.next.imp hk.trans hk.trans

theorem Still.trans {s t u : State} (h : Still s t) (k : Still t u) : Still s u :=
  ⟨h.toKeeps.trans k.toKeeps, k.table.trans h.table, k.dueCount.trans h.dueCount, k.day.trans h.day⟩

variable {s t u : State}

/-- `Still` along a fold. -/
theorem Still.foldl {α : Type} {l : List α} {f : State → α → State} (hf : ∀ t x, Still s t → Still s (f t x)) (h : Still s t) :
    Still s (l.foldl f t) := by
  induction l generalizing t with
  | nil => exact h
  | cons x xs ih => exact ih (hf t x h)

/-- The journal's order is one of the battery domain, of the slot in work, and of the settings about to be in force. -/
theorem State.JournalOrdered.congr (h : s.JournalOrdered) (hg : t.bat.geometry = s.bat.geometry) (hw : t.bat.write = s.bat.write)
    (hs : t.bat.send = s.bat.send) (hc : t.bat.confirm = s.bat.confirm) (hstage : t.issue.stage = s.issue.stage)
    (hfifo : t.issue.fifo = s.issue.fifo) (hnext : t.loader.stage.next? = none ∨ t.loader.stage.next? = s.loader.stage.next?) :
    t.JournalOrdered := by
  rw [State.journalOrdered_iff] at h ⊢
  obtain ⟨hring, hticket, hsize⟩ := h
  refine ⟨?_, ?_, ?_⟩
  · simpa only [hg, Battery.RingOrdered, hw, hs, hc] using hring
  · simpa only [hstage, hfifo, Battery.freeEntries, Battery.unconfirmed, hg, hw, hc] using hticket
  · intro c hn
    rcases hnext with hnone | hsame
    · rw [hnone] at hn
      cases hn
    · exact hsize c (hsame ▸ hn)

/-- A change within what the departure table reaches keeps all but the table. -/
theorem Keeps.of_inner (hi : Inner t u) (hc : Calm t u) (h : Keeps s t) : Keeps s u :=
  h.trans {
    mem := by rw [hi.mem]; exact id
    host := by rw [hi.path]
    queue := hc.queue
    floor := hc.floor
    power := hi.power
    cfg := hi.cfg
    journal := fun hj => hj.congr (by rw [hi.bat]) (by rw [hi.bat]) (by rw [hi.bat]) (by rw [hi.bat]) hc.stage hc.fifo
      (.inr (by rw [hi.loader]))
    next := .inr (by rw [hi.loader]) }

/-- A change of the panel, the selection, the composer, the controller and the announcer leaves the table. -/
theorem Still.of_front (hf : Front t u) (hc : Calm t u) (h : Still s t) : Still s u :=
  h.trans ⟨Keeps.of_inner hf.inner hc (.refl t), hf.table, hf.dueCount, by rw [hf.bat]⟩

/-- A change within what the table reaches that leaves the table and its count. -/
theorem Still.of_inner (hi : Inner t u) (hc : Calm t u) (ht : u.table = t.table) (hd : u.dueCount = t.dueCount) (h : Still s t) :
    Still s u :=
  h.trans ⟨Keeps.of_inner hi hc (.refl t), ht, hd, by rw [hi.bat]⟩

/-! ### Updates of one block -/

theorem Still.modClk (f : HaltClock → HaltClock) (h : Still s t) : Still s (t.modClk f) :=
  ⟨⟨⟨h.mem, h.host, h.queue, h.floor⟩, h.power, h.cfg, h.journal, h.next⟩, h.table, h.dueCount, h.day⟩
theorem Still.modPanel (f : Panel → Panel) (h : Still s t) : Still s (t.modPanel f) := h.of_front (.modPanel f (.refl t)) (.modPanel f (.refl t))
theorem Still.modSel (f : Selection → Selection) (h : Still s t) : Still s (t.modSel f) := h.of_front (.modSel f (.refl t)) (.modSel f (.refl t))
theorem Still.modBoard (f : Board → Board) (h : Still s t) : Still s (t.modBoard f) := h.of_front (.modBoard f (.refl t)) (.modBoard f (.refl t))
theorem Still.modScrA (f : Scan → Scan) (h : Still s t) : Still s (t.modScrA f) :=
  ⟨⟨⟨h.mem, h.host, h.queue, h.floor⟩, h.power, h.cfg, h.journal, h.next⟩, h.table, h.dueCount, h.day⟩
theorem Still.modScrB (f : Scan → Scan) (h : Still s t) : Still s (t.modScrB f) :=
  ⟨⟨⟨h.mem, h.host, h.queue, h.floor⟩, h.power, h.cfg, h.journal, h.next⟩, h.table, h.dueCount, h.day⟩
theorem Still.modIntake (f : Intake → Intake) (h : Still s t) : Still s (t.modIntake f) :=
  ⟨⟨⟨h.mem, h.host, h.queue, h.floor⟩, h.power, h.cfg, h.journal, h.next⟩, h.table, h.dueCount, h.day⟩
theorem Still.modLink (f : Link → Link) (h : Still s t) : Still s (t.modLink f) :=
  ⟨⟨⟨h.mem, h.host, h.queue, h.floor⟩, h.power, h.cfg, h.journal, h.next⟩, h.table, h.dueCount, h.day⟩
theorem Still.modRep (f : ReportUnit → ReportUnit) (h : Still s t) : Still s (t.modRep f) :=
  ⟨⟨⟨h.mem, h.host, h.queue, h.floor⟩, h.power, h.cfg, h.journal, h.next⟩, h.table, h.dueCount, h.day⟩
theorem Still.drawn (h : Still s t) : Still s t.drawn :=
  ⟨⟨⟨h.mem, h.host, h.queue, h.floor⟩, h.power, h.cfg, h.journal, h.next⟩, h.table, h.dueCount, h.day⟩
theorem Still.raise (f : Flag) (h : Still s t) : Still s (t.raise f) := h.modRep _
theorem Still.count (c : Counter) (n : Nat) (h : Still s t) : Still s (t.count c n) := h.modRep _

/-- Busy marks and the data read may change. -/
theorem Still.modPath (f : Path → Path) (h : Still s t) (hf : (f t.path).hostSide = t.path.hostSide := by rfl) : Still s (t.modPath f) :=
  ⟨⟨⟨h.mem, hf.trans h.host, h.queue, h.floor⟩, h.power, h.cfg, h.journal, h.next⟩, h.table, h.dueCount, h.day⟩

/-- The loader may leave its stage for one without settings to put in force, or keep them. -/
theorem Still.modLoader (f : Loader → Loader) (h : Still s t)
    (hf : (f t.loader).stage.next? = none ∨ (f t.loader).stage.next? = t.loader.stage.next?) : Still s (t.modLoader f) :=
  h.trans ⟨⟨⟨id, rfl, id, id⟩, rfl, rfl, fun hj => hj.congr rfl rfl rfl rfl rfl rfl hf, hf⟩, rfl, rfl, rfl⟩

theorem Still.pokeLanes (a : Nat) (v : Word) (l : Lanes) (h : Still s t) : Still s (t.pokeLanes a v l) :=
  ⟨⟨⟨fun hs => Memory.wf_writeLanes a v l (h.mem hs), h.host, h.queue, h.floor⟩, h.power, h.cfg, h.journal, h.next⟩, h.table,
    h.dueCount, h.day⟩

theorem Still.poke (a : Nat) (v : Word) (h : Still s t) : Still s (t.poke a v) := h.pokeLanes a v .both

theorem Still.landed (x : Access) (h : Still s t) : Still s (t.landed x) := by
  cases x with
  | read a => exact h
  | write a v => exact h.poke a v

/-- The issue unit may go on to anything but a new ticket, and does not lose the slot of the ticket it has. -/
theorem Still.modIssue (f : IssueUnit → IssueUnit) (h : Still s t)
    (hf : ∀ k, (f t.issue).stage = .ticket k → t.issue.stage = .ticket k ∧ (t.issue.fifo ≠ [] → (f t.issue).fifo ≠ [])) :
    Still s (t.modIssue f) := by
  refine h.trans ⟨⟨⟨id, rfl, id, id⟩, rfl, rfl, fun hj => ?_, .inr rfl⟩, rfl, rfl, rfl⟩
  rw [State.journalOrdered_iff] at hj ⊢
  obtain ⟨hring, hticket, hsize⟩ := hj
  refine ⟨hring, fun k hk => ?_, hsize⟩
  obtain ⟨hold, hkeep⟩ := hf k hk
  obtain ⟨hne, hfree⟩ := hticket k hold
  exact ⟨hkeep hne, hfree⟩

/-- The issue unit may have other records, and other writes waiting. -/
theorem Still.modIssue' (f : IssueUnit → IssueUnit) (h : Still s t) (hs : (f t.issue).stage = t.issue.stage := by rfl)
    (hf : (f t.issue).fifo = t.issue.fifo := by rfl) : Still s (t.modIssue f) :=
  h.modIssue f fun _ hk => ⟨hs ▸ hk, fun hne => hf ▸ hne⟩

/-- The battery domain may change where the ring order and an entry free for a ticket stand. -/
theorem Still.modBat (f : Battery → Battery) (h : Still s t) (hday : (f t.bat).day = t.bat.day)
    (hring : ∀ g, (f t.bat).geometry = some g → (∀ g, t.bat.geometry = some g → t.bat.RingOrdered g) → (f t.bat).RingOrdered g)
    (hfree : (∀ g, t.bat.geometry = some g → t.bat.RingOrdered g) → 0 < t.bat.freeEntries → 0 < (f t.bat).freeEntries) :
    Still s (t.modBat f) := by
  refine h.trans ⟨⟨⟨id, rfl, id, id⟩, rfl, rfl, fun hj => ?_, .inr rfl⟩, rfl, rfl, hday⟩
  rw [State.journalOrdered_iff] at hj ⊢
  obtain ⟨hr, ht, hn⟩ := hj
  exact ⟨fun g hg => hring g hg hr, fun k hk => ⟨(ht k hk).1, hfree hr (ht k hk).2⟩, hn⟩

/-! ### The issue unit (R60 to R85) -/

theorem Still.setRecord (slot : Nat) (r : QuoteRec) (h : Still s t) : Still s (t.setRecord slot r) := h.modIssue' _
theorem Still.issueWrites (accs : List Acc) (h : Still s t) : Still s (t.issueWrites accs) := h.modIssue' _
theorem Still.writeStates (g : Geometry) (is : List Nat) (v : Word) (h : Still s t) : Still s (t.writeStates g is v) := h.issueWrites _

theorem State.voidSlot_table (s : State) (slot : Nat) (why : VoidReason) :
    (s.voidSlot slot why).table = s.table ∧ (s.voidSlot slot why).dueCount = s.dueCount := by
  unfold State.voidSlot
  split
  · dsimp only
    split
    · exact ⟨rfl, rfl⟩
    · exact ⟨rfl, rfl⟩
  · exact ⟨rfl, rfl⟩

theorem Still.voidSlot (slot : Nat) (why : VoidReason) (h : Still s t) : Still s (t.voidSlot slot why) :=
  h.of_inner (.voidSlot slot why (.refl t)) (.voidSlot slot why (.refl t)) (t.voidSlot_table slot why).1 (t.voidSlot_table slot why).2

theorem Still.endQuotes (h : Still s t) : Still s t.endQuotes := Still.foldl (fun _ _ hu => hu.voidSlot _ _) h

theorem Still.answerSale (c : Settings) (results : List (Nat × Word)) (post : Word) (h : Still s t) :
    Still s (t.answerSale c results post) := by
  unfold State.answerSale
  split
  · exact h
  · exact (h.issueWrites _).modIssue _ nofun

theorem Still.refuseSale (c : Settings) (reason : Word) (h : Still s t) : Still s (t.refuseSale c reason) := by
  unfold State.refuseSale
  split
  · exact h
  · exact (h.setRecord _ _).answerSale _ _ _

theorem Still.issueNext (h : Still s t) : Still s t.issueNext := by
  unfold State.issueNext
  split
  next =>
    split
    · split
      · exact h.refuseSale _ _
      · split
        · exact h
        · exact h.modIssue _ nofun
    · split
      · exact h.refuseSale _ _
      · exact h
    · split
      · exact h.refuseSale _ _
      · exact h
    · exact h
    · exact h
  next => exact h

theorem Still.issueGoOn (h : Still s t) : Still s t.issueGoOn := by
  unfold State.issueGoOn
  split
  · exact h
  · exact h.issueNext

theorem Still.takeQuote (c : Settings) (slot : Nat) (req : List Word) (h : Still s t) : Still s (t.takeQuote c slot req) := by
  unfold State.takeQuote
  dsimp only
  split
  · exact (h.setRecord _ _).refuseSale _ _
  · exact ((h.setRecord _ _).setRecord _ _).answerSale _ _ _

theorem Still.takeRelease (c : Settings) (slot : Nat) (h : Still s t) : Still s (t.takeRelease c slot) :=
  (h.setRecord _ _).answerSale _ _ _

/-- The issue check passes only with an entry free (R74). -/
theorem State.issueCheck_free {q : Quote} (c : Settings) (slot : Nat) (h : s.issueCheck c slot = .ok q) : 0 < s.bat.freeEntries := by
  unfold State.issueCheck at h
  split at h
  next => cases h
  next =>
    split at h
    case h_5 =>
      split at h
      next => cases h
      next =>
        split at h
        next => cases h
        next hfree => omega
    all_goals cases h

theorem Still.takeIssue (c : Settings) (slot : Nat) (h : Still s t) (hfifo : t.issue.fifo ≠ []) : Still s (t.takeIssue c slot) := by
  unfold State.takeIssue
  split
  next q g hcheck hgeometry =>
    dsimp only
    have hwritten := (h.setRecord slot .empty).issueWrites
      (ticketWrites g t.bat.write ((t.ticketOf c q).words t.bat.nextSerial c.fare.halt))
    refine hwritten.trans ⟨⟨⟨id, rfl, id, id⟩, rfl, rfl, fun hj => ?_, .inr rfl⟩, rfl, rfl, rfl⟩
    rw [State.journalOrdered_iff] at hj ⊢
    exact ⟨hj.1, fun _ _ => ⟨hfifo, State.issueCheck_free (s := t) c slot hcheck⟩, hj.2.2⟩
  next => exact h.refuseSale _ _
  next => exact h.refuseSale _ _

/-- The mirror's rewrite, where there is a journal (R83). -/
theorem State.writeMirror_some (s : State) (g : Geometry) (hg : s.bat.geometry = some g) :
    s.writeMirror = s.issueWrites (s.bat.mirror.zipIdx.map fun p => ⟨g.base + p.2, p.1, .plain⟩) := by
  unfold State.writeMirror
  rw [hg]

theorem Still.writeMirror (h : Still s t) : Still s t.writeMirror := by
  unfold State.writeMirror
  split
  · exact h.issueWrites _
  · exact h

theorem Still.testLow (g : Geometry) (before : Nat) (h : Still s t) : Still s (t.testLow g before) := by
  unfold State.testLow
  split
  · exact h.raise _
  · exact h

theorem Battery.addSale_ring (b : Battery) (p : Product) (fare : Nat) :
    (b.addSale p fare).day = b.day ∧ (b.addSale p fare).geometry = b.geometry ∧ (b.addSale p fare).write = b.write ∧
    (b.addSale p fare).send = b.send ∧ (b.addSale p fare).confirm = b.confirm := by
  cases p <;> exact ⟨rfl, rfl, rfl, rfl, rfl⟩

/-- A commit moves the write index on, and nothing else of the ring (R76). -/
theorem Battery.commit_ring (b : Battery) (g : Geometry) (k : Ticket) :
    (b.commit g k).day = b.day ∧ (b.commit g k).geometry = b.geometry ∧ (b.commit g k).write = (b.write + 1) % (2 * g.size) ∧
    (b.commit g k).send = b.send ∧ (b.commit g k).confirm = b.confirm := by
  obtain ⟨hday, hg, hw, hs, hc⟩ := b.addSale_ring k.product k.fare
  exact ⟨hday, hg, congrArg (fun w => (w + 1) % (2 * g.size)) hw, hs, hc⟩

theorem Battery.freeEntries_pos {b : Battery} {g : Geometry} (hg : b.geometry = some g) :
    0 < b.freeEntries ↔ (b.write + 2 * g.size - b.confirm) % (2 * g.size) < g.size := by
  unfold Battery.freeEntries Battery.unconfirmed
  rw [hg]
  exact Nat.sub_pos_iff_lt

/-- The answer to the slot at the head of the FIFO: the result words in their order, and the post word last (R60). -/
theorem State.answerSale_cons (s : State) (c : Settings) (results : List (Nat × Word)) (post : Word) (slot : Nat) (rest : List Nat)
    (hfifo : s.issue.fifo = slot :: rest) :
    s.answerSale c results post = { s with issue := { s.issue with
      stage := .answering
      accs := s.issue.accs ++ (results.map (fun r => ⟨c.win.saleWord slot r.1, r.2, .plain⟩) ++
        [⟨c.win.saleWord slot 0, post, .salePost slot⟩]) } } := by
  unfold State.answerSale
  rw [hfifo]
  rfl

theorem State.answerSale_nil (s : State) (c : Settings) (results : List (Nat × Word)) (post : Word) (hfifo : s.issue.fifo = []) :
    s.answerSale c results post = s := by
  unfold State.answerSale
  rw [hfifo]

/-- The battery domain, the mirror's writes and JOURNAL_LOW as a commit leaves them, before the slot is answered (R76, R80, R83). -/
def State.committed (s : State) (g : Geometry) (k : Ticket) : State :=
  { s with
    bat := s.bat.commit g k
    issue := { s.issue with accs := s.issue.accs ++ (s.bat.commit g k).mirror.zipIdx.map fun p => ⟨g.base + p.2, p.1, .plain⟩ }
    rep := if g.size / 8 ≤ s.bat.freeEntries ∧ (s.bat.commit g k).freeEntries < g.size / 8 then s.rep.raised .journalLow else s.rep }

/-- A commit changes the battery domain in one event, and then the slot is answered ISSUED (R76). -/
theorem State.commitTicket_eq (s : State) (c : Settings) (g : Geometry) (k : Ticket) (hcfg : s.cfg = some c)
    (hgeometry : s.bat.geometry = some g) (hstage : s.issue.stage = .ticket k) :
    s.commitTicket = (s.committed g k).answerSale c
      ([(14, highWord s.bat.nextSerial), (15, lowWord s.bat.nextSerial)] ++ saleResults k.fare k.train k.validity) Code.issued := by
  have hg : (s.bat.commit g k).geometry = some g := (s.bat.commit_ring g k).2.1.trans hgeometry
  unfold State.commitTicket
  rw [hcfg, hgeometry, hstage]
  dsimp only
  congr 1
  rw [State.writeMirror_some _ g hg]
  unfold State.testLow State.committed
  split
  next hlow =>
    change _ ∧ (s.bat.commit g k).freeEntries < _ at hlow
    rw [if_pos hlow]
    rfl
  next hlow =>
    change ¬ (_ ∧ (s.bat.commit g k).freeEntries < _) at hlow
    rw [if_neg hlow]
    rfl

/-- The commit of the ticket in work keeps the ring, since the ticket has an entry free, and leaves the stage (R76). -/
theorem Still.commitTicket (h : Still s t) : Still s t.commitTicket := by
  cases hcfg : t.cfg with
  | none => unfold State.commitTicket; rw [hcfg]; exact h
  | some c =>
  cases hgeometry : t.bat.geometry with
  | none => unfold State.commitTicket; rw [hcfg, hgeometry]; exact h
  | some g =>
  cases hstage : t.issue.stage with
  | ticket k =>
    obtain ⟨hday, hg, hw, hs, hc⟩ := t.bat.commit_ring g k
    rw [t.commitTicket_eq c g k hcfg hgeometry hstage]
    cases hfifo : t.issue.fifo with
    | nil =>
      rw [(t.committed g k).answerSale_nil _ _ _ hfifo]
      refine h.trans ⟨⟨⟨id, rfl, id, id⟩, rfl, rfl, fun hj => ?_, .inr rfl⟩, rfl, rfl, hday⟩
      exact absurd hfifo ((State.journalOrdered_iff _).mp hj |>.2.1 k hstage).1
    | cons slot rest =>
      rw [(t.committed g k).answerSale_cons _ _ _ slot rest hfifo]
      refine h.trans ⟨⟨⟨id, rfl, id, id⟩, rfl, rfl, fun hj => ?_, .inr rfl⟩, rfl, rfl, hday⟩
      rw [State.journalOrdered_iff] at hj ⊢
      obtain ⟨hring, hticket, hsize⟩ := hj
      refine ⟨fun g' hg' => ?_, nofun, hsize⟩
      have hsame : g' = g := Option.some.inj ((hg'.symm.trans hg).trans hgeometry)
      subst hsame
      exact (hring g' hgeometry).written ((Battery.freeEntries_pos hgeometry).mp (hticket k hstage).2) hw hs hc
  | idle | fetching _ | ready _ | answering => unfold State.commitTicket; rw [hcfg, hgeometry, hstage]; exact h

theorem Still.showVoided (slot : Nat) (h : Still s t) : Still s (t.showVoided slot) := by
  unfold State.showVoided
  split
  · exact h.issueWrites _
  · exact h

theorem Still.saleLanded (slot : Nat) (h : Still s t) : Still s (t.saleLanded slot) := by
  refine Still.issueGoOn (Still.showVoided slot (Still.raise .sale (Still.modIssue _ (h.modPath _) ?_)))
  exact nofun

theorem Still.expiredLanded (slot : Nat) (h : Still s t) : Still s (t.expiredLanded slot) := (h.setRecord _ _).raise _

/-- The send index moves on by the entries handed for sending, which lie before the write index (R81). -/
theorem Still.takeForSending (g : Geometry) (h : Still s t) (hg : t.bat.geometry = some g) : Still s (t.takeForSending g).2 := by
  unfold State.takeForSending
  dsimp only
  refine (h.writeStates g (g.indices t.bat.send (min 4 (g.span t.bat.send t.bat.write))) Code.sent).modBat _ rfl
    (fun g' hg' hring => ?_) (fun _ hfree => hfree)
  have hsame : g' = g := Option.some.inj (hg'.symm.trans hg)
  subst hsame
  exact (hring g' hg).sent (Nat.min_le_right 4 _) rfl rfl rfl

/-- The send index returns to the confirm index (R81). -/
theorem Still.revertSent (h : Still s t) : Still s t.revertSent := by
  unfold State.revertSent
  split
  next g hg =>
    exact (h.writeStates _ _ _).modBat _ rfl (fun g' hg' hring => (hring g' hg').reverted rfl rfl rfl) (fun _ hfree => hfree)
  next => exact h

theorem Still.rewriteUnsent (h : Still s t) : Still s t.rewriteUnsent := by
  unfold State.rewriteUnsent
  split
  · exact h.writeStates _ _ _
  · exact h

/-- A confirm covers only entries that have been sent (R82). -/
theorem Battery.confirmCount_le (b : Battery) (g : Geometry) (serial : Nat) : b.confirmCount g serial ≤ g.span b.confirm b.send := by
  unfold Battery.confirmCount
  dsimp only
  split
  · exact Nat.zero_le _
  · omega

theorem Still.confirmSerial (serial : Nat) (h : Still s t) : Still s (t.confirmSerial serial) := by
  unfold State.confirmSerial
  split
  next => exact h
  next g hg =>
    dsimp only
    split
    next => exact h
    next =>
      have hmoved := fun hring : ∀ g, t.bat.geometry = some g → t.bat.RingOrdered g =>
        (hring g hg).confirmed (b' := { t.bat with confirm := (t.bat.confirm + t.bat.confirmCount g serial) % (2 * g.size) })
          (t.bat.confirmCount_le g serial) rfl rfl rfl
      refine Still.writeMirror ((h.writeStates g (g.indices t.bat.confirm (t.bat.confirmCount g serial)) Code.confirmed).modBat _ rfl
        (fun g' hg' hring => ?_) (fun hring hfree => ?_))
      · have hsame : g' = g := Option.some.inj (hg'.symm.trans hg)
        subst hsame
        exact (hmoved hring).1
      · exact (Battery.freeEntries_pos (b := { t.bat with confirm := (t.bat.confirm + t.bat.confirmCount g serial) % (2 * g.size) }) hg).mpr
          (Nat.lt_of_le_of_lt (hmoved hring).2 ((Battery.freeEntries_pos hg).mp hfree))

end Sys2Proof.Machine
end

section
/-! PROOFS. What the link, the report writer, the host's posts, the intake job and the loader keep beside their own blocks. -/

namespace Sys2Proof.Machine

variable {s t u : State}

/-! ### The link (R155 to R171) -/

theorem Still.setReceiver (r : Receiver) (h : Still s t) : Still s (t.setReceiver r) := h.modLink _
theorem Still.setBuild (b : ReplyBuild) (h : Still s t) : Still s (t.setBuild b) := h.modLink _
theorem Still.breakFrame (h : Still s t) : Still s t.breakFrame := (h.setReceiver _).count _ _

theorem Still.endGap (c : Settings) (more : Nat) (h : Still s t) : Still s (t.endGap c more) := by
  unfold State.endGap
  split
  · exact h.breakFrame
  · exact h

theorem Still.endFrame (h : Still s t) : Still s t.endFrame := by
  unfold State.endFrame
  split
  · exact h.setReceiver _
  · exact h

/-- Characters reach the receiver and the frame errors only (R155, R156). -/
theorem Still.hearChars (c : Settings) (cause : FrameFault) (h : Still s t) : Still s (t.hearChars c cause) := by
  unfold State.hearChars
  dsimp only
  split
  next => exact h
  next r n _ =>
    have hcounted : Still s (if n = 0 then (t.endGap c 0).setReceiver r else ((t.endGap c 0).setReceiver r).count .frameError n) := by
      split
      · exact (h.endGap c 0).setReceiver r
      · exact ((h.endGap c 0).setReceiver r).count _ _
    split
    · exact hcounted.breakFrame
    · exact hcounted

theorem Still.linkUp (c : Settings) (h : Still s t) : Still s (t.linkUp c) := by
  unfold State.linkUp
  dsimp only
  split
  · exact h.modLink _
  · exact (h.modLink _).raise _

theorem Still.linkLost (h : Still s t) : Still s t.linkLost := ((h.modLink _).raise _).revertSent

theorem Still.reply (kind : Byte) (payload : List Word) (h : Still s t) : Still s (t.reply kind payload) := by
  unfold State.reply
  split
  · exact h
  · exact (h.setBuild _).modLink _

theorem Still.replyAck (status : Word) (outcomes : List Nat) (h : Still s t) : Still s (t.replyAck status outcomes) := h.reply _ _
theorem Still.replyStatus (h : Still s t) : Still s t.replyStatus := h.reply _ _

theorem Still.goOnJournal (todo : List Nat) (got : List Word) (h : Still s t) : Still s (t.goOnJournal todo got) := by
  unfold State.goOnJournal
  split
  · exact h.reply _ _
  · exact h.setBuild _

theorem Still.replyPush (g : Geometry) (h : Still s t) : Still s (t.replyPush g) := by
  unfold State.replyPush
  split
  · dsimp only
    split
    · exact (h.modLink _).reply _ _
    · exact (h.modLink _).goOnJournal _ _
  · exact h.reply _ _

theorem Still.replyJournal (h : Still s t) : Still s t.replyJournal := by
  unfold State.replyJournal
  split
  next => exact h.reply _ _
  next g hg =>
    split
    · exact (h.takeForSending g hg).goOnJournal _ _
    · exact h.replyPush g

theorem Still.goOnUpdate (outcomes : List Nat) (images : List (List Word)) (h : Still s t) :
    Still s (t.goOnUpdate outcomes images) := by
  induction images generalizing outcomes with
  | nil => exact h.replyAck _ _
  | cons im rest ih =>
    unfold State.goOnUpdate
    split
    · exact ih _
    · exact h.setBuild _

theorem Still.takeUpdate (payload : List Word) (h : Still s t) : Still s (t.takeUpdate payload) := by
  unfold State.takeUpdate
  dsimp only
  split
  · exact h.goOnUpdate _ _
  · exact h.replyAck _ _

theorem Still.activityEvent (h : Still s t) : Still s t.activityEvent :=
  h.of_front (.activityEvent (.refl t)) (.activityEvent (.refl t))

theorem Still.setLineNotice (n : Option Notice) (h : Still s t) : Still s (t.setLineNotice n) :=
  h.of_front (.setLineNotice n (.refl t)) (.setLineNotice n (.refl t))

theorem Still.setOwnNotice (n : Option Notice) (h : Still s t) : Still s (t.setOwnNotice n) :=
  h.of_front (.setOwnNotice n (.refl t)) (.setOwnNotice n (.refl t))

theorem Still.takeNotice (dur : Nat) (text : List Nat) (h : Still s t) : Still s (t.takeNotice dur text) := by
  unfold State.takeNotice
  split
  · exact h.setLineNotice _
  · exact (h.setLineNotice _).activityEvent

theorem Still.applyNotice (payload : List Word) (h : Still s t) : Still s (t.applyNotice payload) := by
  unfold State.applyNotice
  split
  · exact h.takeNotice _ _
  · exact h

theorem Still.answerUnless (malformed : Bool) (h : Still s t) : Still s (t.answerUnless malformed) := by
  unfold State.answerUnless
  split
  · exact h.replyAck _ _
  · exact h.replyJournal

theorem Still.takeForward (payload : List Word) (h : Still s t) : Still s (t.takeForward payload) := by
  unfold State.takeForward
  split
  · split
    · exact h.setBuild _
    · exact h.replyAck _ _
  · exact h.replyAck _ _

theorem Still.decideForward (c : Settings) (pos : Nat) (payload entry : List Word) (h : Still s t) :
    Still s (t.decideForward c pos payload entry) := by
  unfold State.decideForward
  split
  · exact h.setBuild _
  · exact h.replyAck _ _

theorem Still.forwardDone (next : Nat) (h : Still s t) : Still s (t.forwardDone next) := ((h.modLink _).raise _).replyAck _ _
theorem Still.awaitReply (c : Settings) (seq : Nat) (b : ReplyBuild) (h : Still s t) : Still s (t.awaitReply c seq b) := h.modLink _

theorem Still.takeDuplicate (c : Settings) (seq : Nat) (h : Still s t) : Still s (t.takeDuplicate c seq) := by
  unfold State.takeDuplicate
  split
  · exact (h.count _ _).awaitReply _ _ _
  · exact h.count _ _

theorem Still.linkServed (c : Settings) (w : Word) (h : Still s t) : Still s (t.linkServed c w) := by
  unfold State.linkServed
  split
  · exact h.goOnJournal _ _
  · split
    · exact h.setBuild _
    · exact h.decideForward _ _ _ _
  · split
    · exact h.forwardDone _
    · exact h.setBuild _
  · exact h

/-! ### The report writer and the command in work (R183 to R191) -/

theorem Still.answerCommand (c : Settings) (post value : Word) (h : Still s t) : Still s (t.answerCommand c post value) := h.modRep _
theorem Still.commandDone (c : Settings) (value : Word) (h : Still s t) : Still s (t.commandDone c value) := h.answerCommand _ _ _
theorem Still.commandRefused (c : Settings) (reason : Word) (h : Still s t) : Still s (t.commandRefused c reason) := h.answerCommand _ _ _
theorem Still.commandLanded (h : Still s t) : Still s t.commandLanded := ((h.modPath _).modRep _).raise _

theorem Still.postCommand (c : Settings) (code : CommandCode) (h : Still s t) : Still s (t.postCommand c code) := by
  unfold State.postCommand
  dsimp only
  split
  · exact (h.modRep _).commandRefused _ _
  · exact (h.modRep _).modRep _

theorem Still.takeProbe (c : Settings) (w : Word) (h : Still s t) : Still s (t.takeProbe c w) := by
  unfold State.takeProbe
  dsimp only
  split
  · exact (((h.modRep _).modPath _).modRep _).commandRefused _ _
  · exact h.modRep _

theorem Still.wordLanded (o : Nat) (v : Word) (h : Still s t) : Still s (t.wordLanded o v) := by
  unfold State.wordLanded
  dsimp only
  split
  · exact (h.modRep _).modRep _
  · split
    · exact ((h.modRep _).modRep _).raise _
    · split
      · exact (h.modRep _).drawn
      · exact h.modRep _

theorem Still.blockServed (c : Settings) (w : Word) (h : Still s t) : Still s (t.blockServed c w) := by
  unfold State.blockServed
  split
  · exact h
  · split
    · exact h.takeProbe _ _
    · exact h.wordLanded _ _

theorem Still.reportServed (c : Settings) (w : Word) (h : Still s t) : Still s (t.reportServed c w) := by
  unfold State.reportServed
  split
  · exact h.modRep _
  · split
    · exact h.commandLanded
    · exact h.modRep _
  · exact h
  all_goals exact h.blockServed _ _

/-! ### The intake job (R7) -/

theorem Still.answerIntake (c : Settings) (im : Image) (outcome : Word) (h : Still s t) : Still s (t.answerIntake c im outcome) := by
  unfold State.answerIntake
  split
  · exact h
  · exact h.modIntake _

theorem Still.intakeNext (h : Still s t) : Still s t.intakeNext := by
  unfold State.intakeNext
  split
  next =>
    have hrefuse : ∀ refused : IntakeStage,
        Still s (if t.loader.stage.finishing then t.modIntake fun j => { j with stage := refused } else t) := by
      intro refused
      split
      · exact h.modIntake _
      · exact h
    dsimp only
    split
    · split
      · exact h.modIntake _
      · split
        · exact h
        · exact h.modIntake _
    · exact hrefuse _
    · exact hrefuse _
    · exact h
  next => exact h

theorem Still.intakeFetched (c : Settings) (image : List Word) (h : Still s t) : Still s (t.intakeFetched c image) := by
  unfold State.intakeFetched
  split
  · exact h.answerIntake _ _ _
  · exact h.modIntake _

theorem Still.intakeLanded (slot : Nat) (h : Still s t) : Still s (t.intakeLanded slot) :=
  (((h.modPath _).modIntake _).raise _).intakeNext

/-! ### Posts and other host writes (R174 to R193) -/

theorem Still.postLoad (h : Still s t) : Still s t.postLoad := ((h.poke _ _).modPath _).modLoader _ (.inl rfl)

/-- A posted slot that a reload notes leaves the settings it is about to put in force. -/
theorem LoaderStage.next?_noteSlot (slot : Nat) (g : LoaderStage) : (g.noteSlot slot).next? = g.next? := by
  cases g <;> rfl

/-- A post may not take the slot at the head of a FIFO away. -/
theorem Still.postIntake (w : Windows) (slot : Nat) (h : Still s t) : Still s (t.postIntake w slot) :=
  ((((h.poke _ _).modPath _).modIntake _).modLoader _ (.inr (LoaderStage.next?_noteSlot slot _))).intakeNext

theorem Still.postSale (w : Windows) (slot : Nat) (code : SaleCode) (h : Still s t) : Still s (t.postSale w slot code) :=
  Still.issueGoOn (Still.modIssue _ (Still.modIssue' _ ((h.poke _ _).modPath _)) fun _ hk => ⟨hk, fun hne => by simp [hne]⟩)

theorem Still.postOrder (c : Settings) (code : CommandCode) (h : Still s t) : Still s (t.postOrder c code) :=
  ((h.poke _ _).modPath _).postCommand _ _

theorem Still.dropBusy (h : Still s t) : Still s t.dropBusy := (h.count _ _).raise _
theorem Still.dropProtected (h : Still s t) : Still s t.dropProtected := (h.count _ _).raise _

theorem Still.writeIndex (a : Nat) (v : Word) (l : Lanes) (h : Still s t) : Still s (t.writeIndex a v l) := by
  unfold State.writeIndex
  dsimp only
  split
  · exact (h.pokeLanes _ _ _).modRep _
  · exact h.dropProtected

theorem Still.writeIntake (w : Windows) (a : Nat) (v : Word) (l : Lanes) (h : Still s t) : Still s (t.writeIntake w a v l) := by
  unfold State.writeIntake
  dsimp only
  split
  · exact h.dropBusy
  · split
    · exact h.postIntake _ _
    · exact h.pokeLanes _ _ _

theorem Still.writeSale (w : Windows) (a : Nat) (v : Word) (l : Lanes) (h : Still s t) : Still s (t.writeSale w a v l) := by
  unfold State.writeSale
  dsimp only
  split
  · exact h.dropBusy
  · split
    · exact h.postSale _ _ _
    · exact h.pokeLanes _ _ _

theorem Still.writeReport (c : Settings) (a : Nat) (v : Word) (l : Lanes) (h : Still s t) : Still s (t.writeReport c a v l) := by
  have hpassed := h.pokeLanes a v l
  unfold State.writeReport
  dsimp only
  split
  · exact h.dropBusy
  split
  · exact h.dropProtected
  split
  · exact hpassed.modRep _
  split
  · exact hpassed.modRep _
  split
  · exact hpassed.modRep _
  split
  · exact h.writeIndex _ _ _
  split
  · exact h.postOrder _ _
  · exact hpassed

theorem Still.writeMapped (c : Settings) (a : Nat) (v : Word) (l : Lanes) (h : Still s t) : Still s (t.writeMapped c a v l) := by
  unfold State.writeMapped
  split
  · exact h.writeIntake _ _ _ _
  split
  · exact h.writeSale _ _ _ _
  split
  · exact h.writeReport _ _ _ _
  split
  · exact h.dropProtected
  · exact h.pokeLanes _ _ _

theorem Still.takeWrite (a : Nat) (v : Word) (l : Lanes) (h : Still s t) : Still s (t.takeWrite a v l) := by
  unfold State.takeWrite
  split
  · exact h.pokeLanes _ _ _
  split
  · exact h.dropBusy
  split
  · exact h.postLoad
  split
  · exact h.writeMapped _ _ _ _
  · exact h.pokeLanes _ _ _

theorem Still.takeRead (a : Nat) (h : Still s t) : Still s (t.takeRead a) := by
  unfold State.takeRead
  split
  · unfold State.readClock
    split
    · exact (h.modClk _).modPath _
    · exact h.modPath _
  · exact h.modPath _

theorem Still.takeCycle (c : HostCycle) (h : Still s t) : Still s (t.takeCycle c) := by
  cases c with
  | read a => exact h.takeRead _
  | write a v l => exact h.takeWrite _ _ _

/-! ### The loader (R192 to R198) -/

theorem Still.rejectLoad (reason : Word) (h : Still s t) : Still s (t.rejectLoad reason) := h.modLoader _ (.inl rfl)
theorem Still.acceptLoad (h : Still s t) : Still s t.acceptLoad := h.modLoader _ (.inl rfl)
theorem Still.loadLanded (h : Still s t) : Still s t.loadLanded := ((h.modPath _).modLoader _ (.inr rfl)).raise _

theorem Still.takeDescWord (got : List Word) (h : Still s t) : Still s (t.takeDescWord got) := by
  refine h.modLoader _ (.inl ?_)
  dsimp only
  split <;> rfl

theorem Still.restartSlot (w : Windows) (n : Nat) (h : Still s t) : Still s (t.restartSlot w n) := by
  unfold State.restartSlot
  split
  · exact (h.modPath _).modLoader _ (.inr rfl)
  · exact (h.modPath _).modLoader _ (.inr rfl)

theorem Still.scanSlot (c : Settings) (n : Nat) (w : Word) (h : Still s t) : Still s (t.scanSlot c n w) := by
  refine Still.modLoader (fun l => { l with stage := .scanning (n + 1) }) ?_ (.inl rfl)
  split
  · exact h.restartSlot _ _
  · exact h

theorem Still.startPanel (p : PanelParams) (h : Still s t) : Still s (t.startPanel p) := by
  refine Still.modPanel _ (Still.foldl (fun u ch hu => ?_) h)
  exact hu.of_front (.startCal p ch (.refl u)) (.startCal p ch (.refl u))

theorem Still.recompose (h : Still s t) : Still s t.recompose := h.of_front (.recompose (.refl t)) (.recompose (.refl t))
theorem Still.setDeadline (d : Option Nat) (h : Still s t) : Still s (t.setDeadline d) :=
  h.of_front (.setDeadline d (.refl t)) (.setDeadline d (.refl t))

theorem Still.startActivity (h : Still s t) : Still s t.startActivity :=
  (h.of_front (.setMode _ (.refl t)) (.setCeiling (.refl t))).setDeadline _

theorem Still.startScreens (c : Settings) (h : Still s t) : Still s (t.startScreens c) := (h.modScrA _).modScrB _
theorem Still.startLink (c : Settings) (h : Still s t) : Still s (t.startLink c) := h.modLink _
theorem Still.startReport (h : Still s t) : Still s t.startReport := by
  unfold State.startReport
  exact h.modRep _

/-- The announcer may change all but its queue. -/
theorem Still.modAnn (f : Announcer → Announcer) (h : Still s t) (hq : (f t.ann).queue = t.ann.queue := by rfl) : Still s (t.modAnn f) :=
  h.of_front (.modAnn f (.refl t)) (.modAnn' f (.refl t) hq)

theorem Still.setVolume (v : Nat) (h : Still s t) : Still s (t.modAnn fun n => { n with volume := v }) := h.modAnn _

theorem Still.startJobs (c : Settings) (h : Still s t) : Still s (t.startJobs c) :=
  Still.issueNext (Still.intakeNext (Still.modLoader (fun l => { l with stage := .firstReport })
    ((((((h.startPanel c.panel).recompose).startActivity).setVolume _).startScreens c).startLink c).startReport (.inl rfl)))

/-- The slot in work is refused, or the unit goes on: a ticket in work is not lost. -/
theorem Still.finishSale (c : Settings) (h : Still s t) : Still s (t.finishSale c) := by
  unfold State.finishSale
  split
  · exact (h.modIssue' _).refuseSale _ _
  · exact h.issueNext

theorem Still.finishCommand (c : Settings) (h : Still s t) : Still s (t.finishCommand c) := by
  unfold State.finishCommand
  dsimp only
  split
  · exact h
  · exact h
  · exact h.commandRefused _ _
  · exact h.commandRefused _ _
  · exact h.commandRefused _ _
  · exact ((h.modBoard _).modPanel _).commandRefused _ _

theorem Still.annClear (h : Still s t) : Still s t.annClear := h.of_front (.annClear (.refl t)) (.annClear (.refl t))
theorem Still.reloadPanel (h : Still s t) : Still s t.reloadPanel := h.modPanel _
theorem Still.moveReport (h : Still s t) : Still s t.moveReport := h.modRep _
theorem Still.reloadClear (h : Still s t) : Still s t.reloadClear := (((h.annClear).modSel _).reloadPanel.recompose).moveReport
theorem Still.reloadLink (old next : Settings) (h : Still s t) : Still s (t.reloadLink old next) := h.modLink _

theorem Still.abandonReload (h : Still s t) : Still s t.abandonReload := (((h.rejectLoad _).modRep _).intakeNext).issueGoOn

theorem Still.lowAtAcceptance (h : Still s t) : Still s t.lowAtAcceptance := by
  unfold State.lowAtAcceptance
  split
  · split
    · exact h.raise _
    · exact h
  · exact h

/-! ### Landings and served accesses (R179, R182) -/

theorem Still.land (l : Landing) (h : Still s t) : Still s (t.land l) := by
  cases l with
  | plain => exact h
  | intakePost slot => exact h.intakeLanded _
  | salePost slot => exact h.saleLanded _
  | expiredReason _ => exact h
  | expiredPost slot => exact h.expiredLanded _
  | journalState => exact h.commitTicket
  | restartIntake slot => exact (h.modPath _).raise _
  | restartSale slot => exact (h.modPath _).raise _
  | accepted => exact h.loadLanded
  | rejected => exact h.loadLanded
  | commandPost => exact h.commandLanded
  | chainFull next => exact h.forwardDone _

theorem Still.issueServed (w : Word) (h : Still s t) : Still s (t.issueServed w) := by
  unfold State.issueServed
  split
  · exact (h.modIssue' _).land _
  · dsimp only
    refine h.modIssue _ fun k hk => ?_
    dsimp only at hk
    split at hk <;> cases hk
  · exact h

theorem Still.intakeServed (c : Settings) (w : Word) (h : Still s t) : Still s (t.intakeServed c w) := by
  unfold State.intakeServed
  split
  · dsimp only
    split
    · exact h.modIntake _
    · exact h.intakeFetched _ _
  · exact (h.modIntake _).land _
  all_goals exact h

theorem Still.loaderServed (w : Word) (h : Still s t) : Still s (t.loaderServed w) := by
  unfold State.loaderServed
  split
  · exact (h.modLoader _ (.inr rfl)).land _
  · exact h.takeDescWord _
  · exact h.scanSlot _ _ _
  · exact h

theorem Still.annServed (w : Word) (h : Still s t) : Still s (t.annServed w) :=
  h.of_front (.annServed w (.refl t)) (.annServed w (.refl t))

theorem Still.takeNoticeWord (c : Settings) (n : NoticeFetch) (w : Word) (h : Still s t) : Still s (t.takeNoticeWord c n w) :=
  h.of_front (.takeNoticeWord c n w (.refl t)) (.takeNoticeWord c n w (.refl t))

theorem Still.paintServed (w : Word) (h : Still s t) : Still s (t.paintServed w) :=
  h.of_front (.paintServed w (.refl t)) (.paintServed w (.refl t))

theorem Still.composerServed (w : Word) (h : Still s t) : Still s (t.composerServed w) := by
  have hfetched : Still s (if t.noticeWants.isSome && t.paintWants.isSome then t.drawn else t) := by
    split
    · exact h.drawn
    · exact h
  unfold State.composerServed
  dsimp only
  split
  · exact hfetched.takeNoticeWord _ _ _
  · exact hfetched.paintServed _

/-- A block that takes the word of its access keeps the rest of the part in order. -/
theorem Still.served (r : Requester) (w : Word) (h : Still s t) : Still s (t.served r w) := by
  unfold State.served
  split
  · exact h.modScrA _
  · exact h.modScrB _
  · exact h.annServed _
  · exact h.linkServed _ _
  · exact h.issueServed _
  · exact h.intakeServed _ _
  · exact h.loaderServed _
  · exact h.composerServed _
  · exact h.reportServed _ _
  all_goals exact h

end Sys2Proof.Machine
end

section
/-! PROOFS. The departure table under its updates: no two entries of one identity, at most 48, in listing order, with the DUE count
its own (R4, R5, R40). -/

namespace Sys2Proof.Machine

/-! ### Lists of entries -/

/-- The entries stand in listing order (R4). -/
def InOrder (b : Battery) (l : List Entry) : Prop := l.Pairwise fun x y => listedBefore b y x = false

/-- No two entries have one identity (R1). -/
def Distinct (l : List Entry) : Prop := (l.map Entry.who).Nodup

theorem listedBefore_eq_false (b : Battery) (x y : Entry) :
    listedBefore b y x = false ↔
      (x.relation b).rank < (y.relation b).rank ∨
      ((x.relation b).rank = (y.relation b).rank ∧ (x.exp < y.exp ∨ (x.exp = y.exp ∧ x.train ≤ y.train))) := by
  unfold listedBefore
  dsimp only
  split
  next hrank => simp only [decide_eq_false_iff_not]; omega
  next hrank =>
    split
    next hexp => simp only [decide_eq_false_iff_not]; omega
    next hexp => simp only [decide_eq_false_iff_not]; omega

theorem listedBefore_eq_true (b : Battery) (x y : Entry) :
    listedBefore b y x = true ↔
      ¬ ((x.relation b).rank < (y.relation b).rank ∨
        ((x.relation b).rank = (y.relation b).rank ∧ (x.exp < y.exp ∨ (x.exp = y.exp ∧ x.train ≤ y.train)))) := by
  rw [← listedBefore_eq_false, Bool.not_eq_false]

theorem listedBefore_asymm (b : Battery) (x y : Entry) (h : listedBefore b x y = true) : listedBefore b y x = false := by
  rw [listedBefore_eq_true] at h
  rw [listedBefore_eq_false]
  omega

theorem listedBefore_trans (b : Battery) (x y z : Entry) (hxy : listedBefore b x y = true) (hzy : listedBefore b z y = false) :
    listedBefore b z x = false := by
  rw [listedBefore_eq_true] at hxy
  rw [listedBefore_eq_false] at hzy ⊢
  omega

theorem State.listed_iff (s : State) : s.Listed ↔ InOrder s.bat s.table :=
  List.Pairwise.iff fun {x y} => (listedBefore_eq_false s.bat x y).symm

theorem entry_is_iff (e : Entry) (who : TrainId) : (e.train == who.train && e.tag == who.tag) = true ↔ e.who = who := by
  cases who
  simp [Entry.who]

theorem entry?_some (s : State) (who : TrainId) (e : Entry) (h : s.entry? who = some e) : e ∈ s.table ∧ e.who = who :=
  ⟨List.mem_of_find?_eq_some (p := fun e : Entry => e.train == who.train && e.tag == who.tag) h, (entry_is_iff e who).mp (List.find?_some (p := fun e : Entry => e.train == who.train && e.tag == who.tag) h)⟩

theorem entry?_none (s : State) (who : TrainId) (h : s.entry? who = none) (e : Entry) (he : e ∈ s.table) : e.who ≠ who :=
  fun hwho => List.find?_eq_none.mp h e he ((entry_is_iff e who).mpr hwho)

theorem withoutEntry_sublist (l : List Entry) (who : TrainId) : (withoutEntry l who).Sublist l := List.filter_sublist

theorem mem_withoutEntry (l : List Entry) (who : TrainId) (e : Entry) : e ∈ withoutEntry l who ↔ e ∈ l ∧ e.who ≠ who := by
  simp only [withoutEntry, List.mem_filter, Bool.not_eq_true', ← Bool.not_eq_true, entry_is_iff, ne_eq]

theorem length_withoutEntry_lt (l : List Entry) (e : Entry) (h : e ∈ l) : (withoutEntry l e.who).length < l.length :=
  List.length_filter_lt_length_iff_exists.mpr ⟨e, h, by simp [(entry_is_iff e e.who).mpr rfl]⟩

theorem InOrder.sublist {b : Battery} {l k : List Entry} (h : InOrder b l) (hs : k.Sublist l) : InOrder b k := List.Pairwise.sublist hs h
theorem Distinct.sublist {l k : List Entry} (h : Distinct l) (hs : k.Sublist l) : Distinct k := List.Nodup.sublist (hs.map _) h

theorem InOrder.listEntry {b : Battery} {l : List Entry} (h : InOrder b l) (e : Entry) : InOrder b (listEntry b l e) :=
  insertBy_ordered _ (listedBefore_asymm b) (listedBefore_trans b) e l h

theorem listEntry_perm (b : Battery) (l : List Entry) (e : Entry) : (listEntry b l e).Perm (e :: l) := insertBy_perm _ _ _

theorem Distinct.listEntry {b : Battery} {l : List Entry} (h : Distinct l) (e : Entry) (he : ∀ x ∈ l, x.who ≠ e.who) :
    Distinct (listEntry b l e) := by
  refine ((listEntry_perm b l e).map Entry.who).nodup_iff.mpr (List.nodup_cons.mpr ⟨?_, h⟩)
  simpa using he

/-- In a table without double identities an identity names one entry. -/
theorem Distinct.eq_of_who {l : List Entry} (h : Distinct l) {x y : Entry} (hx : x ∈ l) (hy : y ∈ l) (hwho : x.who = y.who) :
    x = y := eq_of_nodup_map h hx hy hwho

/-- The relation follows the service day and the tag (R3). -/
theorem Entry.relation_congr {b b' : Battery} {e e' : Entry} (hday : b'.day = b.day) (htag : e'.tag = e.tag) :
    e'.relation b' = e.relation b := by rw [Entry.relation, Entry.relation, hday, htag]

theorem Entry.today_congr {b b' : Battery} (e : Entry) (hday : b'.day = b.day) : e.today b' = e.today b := by
  unfold Entry.today
  rw [Entry.relation_congr hday rfl]

theorem listedBefore_congr {b b' : Battery} {x x' y y' : Entry} (hday : b'.day = b.day) (hx : x'.who = x.who) (hxe : x'.exp = x.exp)
    (hy : y'.who = y.who) (hye : y'.exp = y.exp) : listedBefore b' x' y' = listedBefore b x y := by
  simp only [Entry.who, TrainId.mk.injEq] at hx hy
  unfold listedBefore
  rw [Entry.relation_congr hday hx.2, Entry.relation_congr hday hy.2, hxe, hye, hx.1, hy.1]

theorem InOrder.congr_day {b b' : Battery} {l : List Entry} (h : InOrder b l) (hday : b'.day = b.day) : InOrder b' l :=
  h.imp fun hxy => (listedBefore_congr hday rfl rfl rfl rfl).trans hxy

theorem dueEntries_congr_day {b b' : Battery} (l : List Entry) (hday : b'.day = b.day) : dueEntries b' l = dueEntries b l := by
  unfold dueEntries
  simp only [Entry.today_congr _ hday]

/-- A change of entries that leaves their tags and phases leaves the number of those that are DUE. -/
theorem dueEntries_map (b : Battery) (l : List Entry) (f : Entry → Entry) (hf : ∀ e ∈ l, (f e).tag = e.tag ∧ (f e).phase = e.phase) :
    dueEntries b (l.map f) = dueEntries b l := by
  unfold dueEntries
  rw [List.filter_map, List.length_map]
  congr 1
  refine List.filter_congr fun e he => ?_
  simp only [Function.comp, (hf e he).2, Entry.today, Entry.relation_congr (b' := b) rfl (hf e he).1]

/-- A change of entries that leaves their identities and E leaves the order. -/
theorem InOrder.map {b : Battery} {l : List Entry} (h : InOrder b l) (f : Entry → Entry)
    (hf : ∀ e ∈ l, (f e).who = e.who ∧ (f e).exp = e.exp) : InOrder b (l.map f) := by
  refine List.pairwise_map.mpr (List.Pairwise.imp_of_mem (fun {x y} hx hy hxy => ?_) h)
  exact (listedBefore_congr rfl (hf y hy).1 (hf y hy).2 (hf x hx).1 (hf x hx).2).trans hxy

theorem Distinct.map {l : List Entry} (h : Distinct l) (f : Entry → Entry) (hf : ∀ e ∈ l, (f e).who = e.who) : Distinct (l.map f) := by
  unfold Distinct at h ⊢
  rw [List.map_map, List.map_congr_left (f := Entry.who ∘ f) (g := Entry.who) hf]
  exact h

/-- The entries `replaceEntry` puts the new one in place of. -/
def Entry.replacedBy (old new e : Entry) : Entry := if e.train = old.train ∧ e.tag = old.tag then new else e

theorem Entry.replacedBy_who (old new e : Entry) (hwho : new.who = old.who) : (old.replacedBy new e).who = e.who := by
  unfold Entry.replacedBy
  split
  next h => rw [hwho, Entry.who, Entry.who, h.1, h.2]
  next => rfl

theorem replaceEntry_same (b : Battery) (l : List Entry) (old new : Entry) (h : old.exp = new.exp) :
    replaceEntry b l old new = l.map (old.replacedBy new) := if_pos h

theorem replaceEntry_moved (b : Battery) (l : List Entry) (old new : Entry) (h : old.exp ≠ new.exp) :
    replaceEntry b l old new = listEntry b (withoutEntry l old.who) new := if_neg h

theorem Distinct.replaceEntry {b : Battery} {l : List Entry} (h : Distinct l) (old new : Entry) (hwho : new.who = old.who) :
    Distinct (replaceEntry b l old new) := by
  by_cases hexp : old.exp = new.exp
  · rw [replaceEntry_same b l old new hexp]
    exact h.map _ fun e _ => old.replacedBy_who new e hwho
  · rw [replaceEntry_moved b l old new hexp]
    exact (h.sublist (withoutEntry_sublist l old.who)).listEntry new fun x hx => hwho ▸ ((mem_withoutEntry _ _ _).mp hx).2

theorem length_replaceEntry (b : Battery) (l : List Entry) (old new : Entry) (hold : old ∈ l) :
    (replaceEntry b l old new).length ≤ l.length := by
  by_cases hexp : old.exp = new.exp
  · exact Nat.le_of_eq (by rw [replaceEntry_same b l old new hexp, List.length_map])
  · rw [replaceEntry_moved b l old new hexp, (listEntry_perm b _ new).length_eq]
    exact length_withoutEntry_lt l old hold

theorem InOrder.replaceEntry {b : Battery} {l : List Entry} (h : InOrder b l) (hdistinct : Distinct l) (old new : Entry) (hold : old ∈ l)
    (hwho : new.who = old.who) : InOrder b (replaceEntry b l old new) := by
  by_cases hexp : old.exp = new.exp
  · rw [replaceEntry_same b l old new hexp]
    refine h.map _ fun e he => ⟨old.replacedBy_who new e hwho, ?_⟩
    unfold Entry.replacedBy
    split
    next hsame =>
      have : e = old := hdistinct.eq_of_who he hold (by rw [Entry.who, Entry.who, hsame.1, hsame.2])
      rw [this, hexp]
    next => rfl
  · rw [replaceEntry_moved b l old new hexp]
    exact (h.sublist (withoutEntry_sublist l old.who)).listEntry new

/-! ### What carries the table -/

variable {s t u : State}

/-- What every operation keeps that leaves the day and may change the table: beside what `Keeps` says, the table's soundness, and, from
a sound table, its order and the count of its DUE entries. -/
structure Kept (s t : State) : Prop extends Keeps s t where
  sound : s.TableSound → t.TableSound
  listed : s.TableSound → s.Listed → t.Listed
  due : s.TableSound → s.DueCounted → t.DueCounted

theorem Kept.trans (h : Kept s t) (k : Kept t u) : Kept s u :=
  ⟨h.toKeeps.trans k.toKeeps, k.sound ∘ h.sound, fun hs hl => k.listed (h.sound hs) (h.listed hs hl),
    fun hs hd => k.due (h.sound hs) (h.due hs hd)⟩

theorem Still.sound (h : Still s t) (hs : s.TableSound) : t.TableSound := by
  unfold State.TableSound
  rw [h.table]
  exact hs

theorem Still.listed (h : Still s t) (hs : s.Listed) : t.Listed := by
  rw [State.listed_iff] at hs ⊢
  rw [h.table]
  exact hs.congr_day h.day

theorem Still.due (h : Still s t) (hs : s.DueCounted) : t.DueCounted := by
  unfold State.DueCounted at hs ⊢
  rw [h.dueCount, h.table, dueEntries_congr_day _ h.day]
  exact hs

theorem Still.kept (h : Still s t) : Kept s t := ⟨h.toKeeps, h.sound, fun _ => h.listed, fun _ => h.due⟩
theorem Kept.refl (s : State) : Kept s s := (Still.refl s).kept

/-- A change beside the table goes on from any change that carries it. -/
theorem Kept.still (h : Kept s t) (k : Still t u) : Kept s u := h.trans k.kept

/-! ### Events of an evaluation and a removal that leave the table -/

theorem Still.handRequest (k : AnnKind) (who : TrainId) (h : Still s t) : Still s (t.handRequest k who) :=
  h.of_front (.handRequest k who (.refl t)) (.handRequest k who (.refl t))
theorem Still.takeRequest (r : AnnReq) (h : Still s t) : Still s (t.takeRequest r) :=
  h.of_front (.takeRequest r (.refl t)) (.takeRequest r (.refl t))
theorem Still.withdrawQueued (who : TrainId) (kinds : List AnnKind) (h : Still s t) : Still s (t.withdrawQueued who kinds) :=
  h.of_front (.withdrawQueued who kinds (.refl t)) (.withdrawQueued who kinds (.refl t))
theorem Still.annRemoved (who : TrainId) (h : Still s t) : Still s (t.annRemoved who) :=
  h.of_front (.annRemoved who (.refl t)) (.annRemoved who (.refl t))
theorem Still.annCancelled (who : TrainId) (h : Still s t) : Still s (t.annCancelled who) :=
  h.of_front (.annCancelled who (.refl t)) (.annCancelled who (.refl t))
theorem Still.markDepartures (h : Still s t) : Still s t.markDepartures := h.of_front (.markDepartures (.refl t)) (.markDepartures (.refl t))
theorem Still.markBoth (rows : List Nat) (h : Still s t) : Still s (t.markBoth rows) :=
  h.of_front (.markBoth rows (.refl t)) (.markBoth rows (.refl t))
theorem Still.recomputeList (h : Still s t) : Still s t.recomputeList := h.of_front (.recomputeList (.refl t)) (.recomputeList (.refl t))
theorem Still.annAdvance (h : Still s t) : Still s t.annAdvance := h.of_front (.annAdvance (.refl t)) (.annAdvance (.refl t))

theorem Still.voidBound (who : TrainId) (h : Still s t) : Still s (t.voidBound who) := by
  refine Still.foldl (fun v slot hv => ?_) h
  split
  · exact hv.voidSlot _ _
  · exact hv

theorem Still.voidAll (h : Still s t) : Still s t.voidAll := Still.foldl (fun _ _ hv => hv.voidSlot _ _) h

theorem Still.countLost (n : Nat) (h : Still s t) : Still s (t.countLost n) := by
  unfold State.countLost
  split
  · exact h
  · exact (h.count _ _).raise _

theorem Still.annSkip (c : Settings) (h : Still s t) : Still s (t.annSkip c) := by
  unfold State.annSkip
  split
  · exact h
  · split
    · split
      · exact (h.modAnn _).annAdvance
      · exact h
    · exact h
    · exact h

theorem Still.phaseEvents (old : Phase) (mark : Bool) (new : Entry) (h : Still s t) : Still s (t.phaseEvents old mark new) := by
  unfold State.phaseEvents
  split
  · exact h
  · split
    · refine Still.activityEvent ?_
      split
      · exact h
      · exact h.handRequest _ _
    · split
      · exact h.withdrawQueued _ _
      · exact h
    · exact (h.voidBound _).withdrawQueued _ _
    · dsimp only
      split
      · exact ((h.voidBound _).drawn.handRequest _ _).annCancelled _
      · exact ((h.voidBound _).drawn.annCancelled _).handRequest _ _

/-! ### The DUE count and the table's updates -/

theorem State.syncDue_table (s : State) : s.syncDue.table = s.table := by
  unfold State.syncDue
  dsimp only
  split
  · exact (Front.floorOn (.refl _)).table
  · split
    · exact (Front.floorOff (.refl _)).table
    · rfl

theorem State.syncDue_dueCount (s : State) : s.syncDue.dueCount = dueEntries s.bat s.table := by
  unfold State.syncDue
  dsimp only
  split
  · exact (Front.floorOn (.refl _)).dueCount
  · split
    · exact (Front.floorOff (.refl _)).dueCount
    · rfl

theorem State.syncDue_dueCounted (s : State) : s.syncDue.DueCounted := by
  unfold State.DueCounted
  rw [s.syncDue_dueCount, s.syncDue_table, (Inner.syncDue (.refl s)).bat]

theorem Keeps.syncDue (h : Keeps s t) : Keeps s t.syncDue := h.of_inner (.syncDue (.refl t)) (.syncDue (.refl t))
theorem Keeps.setTable (l : List Entry) (h : Keeps s t) : Keeps s (t.setTable l) :=
  h.of_inner (.setTable l (.refl t)) (.setTable l (.refl t))

/-- The removal as the statements speak of it: the entry leaves the table, the count follows (R10). -/
theorem State.removeEntry_still (s : State) (who : TrainId) :
    ∃ v, Still (s.setTable (withoutEntry s.table who)) v ∧ s.removeEntry who = v.syncDue.markDepartures :=
  ⟨_, ((Still.refl _).voidBound who).annRemoved who, rfl⟩

theorem State.removeEntry_table (s : State) (who : TrainId) : (s.removeEntry who).table = withoutEntry s.table who := by
  obtain ⟨v, hv, heq⟩ := s.removeEntry_still who
  rw [heq, (Front.markDepartures (.refl _)).table, v.syncDue_table, hv.table]
  rfl

theorem State.removeEntry_dueCounted (s : State) (who : TrainId) : (s.removeEntry who).DueCounted := by
  obtain ⟨v, hv, heq⟩ := s.removeEntry_still who
  rw [heq]
  exact (Still.markDepartures (.refl _)).due v.syncDue_dueCounted

theorem State.removeAll_bat (s : State) (l : List Entry) : (s.removeAll l).bat = s.bat := (Inner.removeAll l (.refl s)).bat

/-- Entries removed one after another leave those of other identities. -/
theorem State.removeAll_table (s : State) (l : List Entry) : (s.removeAll l).table = l.foldl (fun t e => withoutEntry t e.who) s.table := by
  induction l generalizing s with
  | nil => rfl
  | cons e es ih =>
    change ((s.removeEntry e.who).removeAll es).table = _
    rw [ih, s.removeEntry_table]
    rfl

theorem mem_foldl_withoutEntry (l k : List Entry) (e : Entry) :
    e ∈ k.foldl (fun t e => withoutEntry t e.who) l ↔ e ∈ l ∧ ∀ x ∈ k, e.who ≠ x.who := by
  induction k generalizing l with
  | nil => simp
  | cons x xs ih => simp only [List.foldl_cons, ih, mem_withoutEntry, List.forall_mem_cons, and_assoc]

theorem Keeps.removeEntry (who : TrainId) (h : Keeps s t) : Keeps s (t.removeEntry who) :=
  h.of_inner (.removeEntry who (.refl t)) (.removeEntry who (.refl t))

theorem State.TableSound.of_sublist (h : s.TableSound) (hsub : t.table.Sublist s.table) : t.TableSound :=
  ⟨Nat.le_trans hsub.length_le h.1, Distinct.sublist h.2 hsub⟩

/-- A removal carries the table (R10). -/
theorem Kept.removeEntry (who : TrainId) (h : Kept s t) : Kept s (t.removeEntry who) := by
  have hsub : (t.removeEntry who).table.Sublist t.table := t.removeEntry_table who ▸ withoutEntry_sublist t.table who
  refine h.trans ⟨(Keeps.refl t).removeEntry who, fun hs => hs.of_sublist hsub, fun _ hl => ?_, fun _ _ => t.removeEntry_dueCounted who⟩
  rw [State.listed_iff] at hl ⊢
  rw [(Inner.removeEntry who (.refl t)).bat]
  exact hl.sublist hsub

theorem Kept.removeAll (l : List Entry) (h : Kept s t) : Kept s (t.removeAll l) := by
  induction l generalizing t with
  | nil => exact h
  | cons e es ih => exact ih (h.removeEntry e.who)

/-- An evaluation puts the entry in place, brings the count up to date, and does nothing more to the table (R41). -/
theorem State.evalEntry_still (s : State) (c : Settings) (old cur : Entry) (after : EvalAfter) (stepped : Bool) :
    Still (s.setTable (replaceEntry s.bat s.table old (cur.evaluated s.bat c.proj s.nowSec old after stepped))).syncDue
      (s.evalEntry c old cur after stepped) := by
  have hevents := (Still.refl (s.setTable (replaceEntry s.bat s.table old (cur.evaluated s.bat c.proj s.nowSec old after stepped))).syncDue).phaseEvents
    old.phase cur.dueAnn (cur.evaluated s.bat c.proj s.nowSec old after stepped)
  have hdelay : ∀ {v w : State} {p : Prop} [Decidable p] (k : AnnKind) (who : TrainId), Still v w →
      Still v (if p then w.handRequest k who else w) := by
    intro v w p _ k who hw
    split
    · exact hw.handRequest k who
    · exact hw
  unfold State.evalEntry
  dsimp only
  split
  · exact (hdelay _ _ hevents).markDepartures
  · exact hdelay _ _ hevents

theorem State.evalEntry_table (s : State) (c : Settings) (old cur : Entry) (after : EvalAfter) (stepped : Bool) :
    (s.evalEntry c old cur after stepped).table =
      replaceEntry s.bat s.table old (cur.evaluated s.bat c.proj s.nowSec old after stepped) := by
  rw [(s.evalEntry_still c old cur after stepped).table, State.syncDue_table]
  rfl

/-- An evaluation leaves an entry's identity. -/
theorem Entry.evaluated_who (cur : Entry) (b : Battery) (p : ProjParams) (now : Nat) (old : Entry) (after : EvalAfter) (stepped : Bool) :
    (cur.evaluated b p now old after stepped).who = cur.who := by
  unfold Entry.evaluated
  dsimp only
  split <;> rfl

theorem Kept.evalEntry (c : Settings) (old cur : Entry) (after : EvalAfter) (stepped : Bool) (h : Kept s t) (hold : old ∈ t.table)
    (hwho : cur.who = old.who) : Kept s (t.evalEntry c old cur after stepped) := by
  have hnew : (cur.evaluated t.bat c.proj t.nowSec old after stepped).who = old.who := (cur.evaluated_who ..).trans hwho
  have htable := t.evalEntry_table c old cur after stepped
  refine h.trans ⟨(Keeps.refl t).of_inner (.evalEntry c old cur after stepped (.refl t)) (.evalEntry c old cur after stepped (.refl t)),
    fun hs => ?_, fun hs hl => ?_, fun _ _ => (t.evalEntry_still c old cur after stepped).due (State.syncDue_dueCounted _)⟩
  · unfold State.TableSound
    rw [htable]
    exact ⟨Nat.le_trans (length_replaceEntry _ _ _ _ hold) hs.1, Distinct.replaceEntry hs.2 _ _ hnew⟩
  · rw [State.listed_iff] at hl ⊢
    rw [htable, (Inner.evalEntry c old cur after stepped (.refl t)).bat]
    exact hl.replaceEntry hs.2 _ _ hold hnew

theorem Kept.foldl {α : Type} {l : List α} {f : State → α → State} (hf : ∀ t x, Kept s t → Kept s (f t x)) (h : Kept s t) :
    Kept s (l.foldl f t) := by
  induction l generalizing t with
  | nil => exact h
  | cons x xs ih => exact ih (hf t x h)

theorem Kept.evalAll (c : Settings) (h : Kept s t) : Kept s (t.evalAll c) := by
  refine Kept.foldl (fun v e hv => ?_) h
  split
  next cur hcur => exact hv.evalEntry c cur cur .plain false (entry?_some v e.who cur hcur).1 rfl
  next => exact hv

theorem Kept.countLost (n : Nat) (h : Kept s t) : Kept s (t.countLost n) := h.still (.countLost n (.refl t))
theorem Kept.recomputeList (h : Kept s t) : Kept s t.recomputeList := h.still (.recomputeList (.refl t))
theorem Kept.markDepartures (h : Kept s t) : Kept s t.markDepartures := h.still (.markDepartures (.refl t))
theorem Kept.retire (c : Settings) (h : Kept s t) : Kept s (t.retire c) := ((h.removeAll _).removeAll _).countLost _
theorem Kept.evalPass (c : Settings) (h : Kept s t) : Kept s (t.evalPass c) := ((h.evalAll c).retire c).recomputeList

/-! ### Changes of the day -/

/-- The day may have changed: the table is still sound, but its order and its DUE count are to be made again. -/
structure Loose (s t : State) : Prop extends Keeps s t where
  sound : s.TableSound → t.TableSound

theorem Kept.loose (h : Kept s t) : Loose s t := ⟨h.toKeeps, h.sound⟩

theorem Loose.trans (h : Loose s t) (k : Loose t u) : Loose s u := ⟨h.toKeeps.trans k.toKeeps, k.sound ∘ h.sound⟩

/-- The rollover removes what is two days off, then lists and counts the table again (R24). -/
theorem Loose.rollTable (h : Loose s t) : Kept s t.rollTable := by
  have hremoved : Kept t ((t.removeAll (t.table.filter fun e => e.relation t.bat == .unheld)).countLost
      (t.table.filter fun e => e.relation t.bat == .unheld).length) := ((Kept.refl t).removeAll _).countLost _
  unfold State.rollTable
  dsimp only
  generalize ((t.removeAll (t.table.filter fun e => e.relation t.bat == .unheld)).countLost
      (t.table.filter fun e => e.relation t.bat == .unheld).length) = v at hremoved ⊢
  refine Kept.markDepartures ⟨((h.toKeeps.trans hremoved.toKeeps).setTable _).syncDue, fun hs => ?_, fun _ _ => ?_,
    fun _ _ => State.syncDue_dueCounted _⟩
  · have hv := hremoved.sound (h.sound hs)
    unfold State.TableSound
    rw [State.syncDue_table]
    exact ⟨(sortBy_perm _ v.table).length_eq ▸ hv.1, ((sortBy_perm _ v.table).map Entry.who).nodup_iff.mpr hv.2⟩
  · rw [State.listed_iff, State.syncDue_table, (Inner.syncDue (.refl (v.setTable _))).bat]
    exact sortBy_ordered _ (listedBefore_asymm v.bat) (listedBefore_trans v.bat) v.table

theorem State.emptyTable_still (s : State) : Still (s.annClear.setTable []).syncDue s.emptyTable :=
  ((((Still.refl _).countLost _).voidAll).markDepartures).recomputeList

theorem State.emptyTable_table (s : State) : s.emptyTable.table = [] := by
  rw [s.emptyTable_still.table, State.syncDue_table]
  rfl

/-- An emptied table is sound, in order, and counts no DUE entry (R25). -/
theorem Loose.emptyTable (h : Loose s t) : Kept s t.emptyTable := by
  refine ⟨h.toKeeps.of_inner (.emptyTable (.refl t)) (.emptyTable (.refl t)), fun _ => ?_, fun _ _ => ?_,
    fun _ _ => t.emptyTable_still.due (State.syncDue_dueCounted _)⟩
  · unfold State.TableSound
    rw [t.emptyTable_table]
    exact ⟨Nat.zero_le _, List.nodup_nil⟩
  · rw [State.listed_iff, t.emptyTable_table]
    exact List.Pairwise.nil

/-! ### The staleness re-test (R47) -/

/-- An entry as the staleness re-test leaves it (R47). -/
def Entry.retested (b : Battery) (p : ProjParams) (now : Nat) (e : Entry) : Entry :=
  if e.goesStale b p now then { e with timeliness := .stale } else e

theorem Entry.retested_same (b : Battery) (p : ProjParams) (now : Nat) (e : Entry) :
    (e.retested b p now).who = e.who ∧ (e.retested b p now).exp = e.exp ∧ (e.retested b p now).phase = e.phase := by
  unfold Entry.retested
  split <;> exact ⟨rfl, rfl, rfl⟩

theorem Kept.retestStale (c : Settings) (h : Kept s t) : Kept s (t.retestStale c) := by
  unfold State.retestStale
  split
  next =>
    have hsame := fun e (_ : e ∈ t.table) => Entry.retested_same t.bat c.proj t.nowSec e
    refine Kept.recomputeList (Kept.markDepartures (h.trans ⟨(Keeps.refl t).setTable _, fun hs => ?_, fun _ hl => ?_, fun _ hd => ?_⟩))
    · exact ⟨Nat.le_trans (Nat.le_of_eq (List.length_map _)) hs.1, Distinct.map hs.2 (Entry.retested t.bat c.proj t.nowSec) fun e he => (hsame e he).1⟩
    · rw [State.listed_iff] at hl ⊢
      exact hl.map (Entry.retested t.bat c.proj t.nowSec) fun e he => ⟨(hsame e he).1, (hsame e he).2.1⟩
    · exact hd.trans (dueEntries_map _ _ _ fun e he => ⟨congrArg TrainId.tag (hsame e he).1, (hsame e he).2.2⟩).symm
  next => exact h

/-! ### The update images (R13 to R19) -/

/-- The entry given up is of the table (R20). -/
theorem evictee_mem (b : Battery) (l : List Entry) (rel : Relation) (sched : Nat) (e : Entry) (h : evictee b l rel sched = some e) :
    e ∈ l := by
  unfold evictee at h
  split at h
  next x hx => exact Option.some.inj h ▸ List.mem_of_find?_eq_some hx
  next =>
    split at h
    next =>
      split at h
      next x hx => exact Option.some.inj h ▸ (List.mem_filter.mp (List.mem_of_getLast? hx)).1
      next =>
        obtain ⟨hlast, -⟩ := Option.filter_eq_some_iff.mp h
        exact (List.mem_filter.mp (List.mem_of_getLast? hlast)).1
    next => cases h

/-- Room is made by leaving the table as it is, or without the entry given up (R20). -/
theorem State.makeRoom_some (s : State) {v : State} (rel : Relation) (sched : Nat) (hroom : s.makeRoom rel sched = some v) :
    (s.table.length < 48 ∧ v = s) ∨ ∃ e ∈ s.table, v = (s.removeEntry e.who).countLost 1 := by
  unfold State.makeRoom at hroom
  split at hroom
  next hlt => exact .inl ⟨hlt, (Option.some.inj hroom).symm⟩
  next =>
    obtain ⟨e, he, hv⟩ := Option.map_eq_some_iff.mp hroom
    exact .inr ⟨e, evictee_mem _ _ _ _ e he, hv.symm⟩

theorem State.countLost_table (s : State) (n : Nat) : (s.countLost n).table = s.table := (Still.countLost n (.refl s)).table

/-- Room made, the table holds fewer than 48 entries (R20). -/
theorem State.makeRoom_length {v : State} {rel : Relation} {sched : Nat} (hs : s.TableSound) (hroom : s.makeRoom rel sched = some v) :
    v.table.length < 48 := by
  rcases s.makeRoom_some rel sched hroom with ⟨hlt, rfl⟩ | ⟨e, he, rfl⟩
  · exact hlt
  · rw [State.countLost_table, State.removeEntry_table]
    exact Nat.lt_of_lt_of_le (length_withoutEntry_lt s.table e he) hs.1

theorem State.makeRoom_subset {v : State} {rel : Relation} {sched : Nat} (hroom : s.makeRoom rel sched = some v) :
    v.table ⊆ s.table := by
  rcases s.makeRoom_some rel sched hroom with ⟨-, rfl⟩ | ⟨e, -, rfl⟩
  · exact fun _ he => he
  · rw [State.countLost_table, State.removeEntry_table]
    exact (withoutEntry_sublist s.table e.who).subset

/-- A newcomer that is not DUE takes its place, and leaves the DUE count (R13). -/
theorem dueEntries_listEntry (b : Battery) (l : List Entry) (e : Entry) (hphase : e.phase ≠ .due) :
    dueEntries b (listEntry b l e) = dueEntries b l := by
  unfold dueEntries
  rw [((listEntry_perm b l e).filter _).length_eq, List.filter_cons_of_neg (by simp [hphase])]

theorem Kept.makeRoom {v : State} {rel : Relation} {sched : Nat} (h : Kept s t) (hroom : t.makeRoom rel sched = some v) : Kept s v := by
  rcases t.makeRoom_some rel sched hroom with ⟨-, rfl⟩ | ⟨e, -, rfl⟩
  · exact h
  · exact (h.removeEntry e.who).countLost 1

theorem Kept.addEntry (c : Settings) (e : Entry) (h : Kept s t) (hroom : s.TableSound → t.table.length < 48)
    (hnew : ∀ x ∈ t.table, x.who ≠ e.who) (hphase : e.phase ≠ .due) : Kept s (t.addEntry c e) := by
  have hlisted : Kept s (t.setTable (listEntry t.bat t.table e)) := by
    refine ⟨h.toKeeps.setTable _, fun hs => ⟨?_, Distinct.listEntry (h.sound hs).2 e hnew⟩, fun hs hl => ?_, fun hs hd => ?_⟩
    · exact Nat.le_trans (Nat.le_of_eq (listEntry_perm t.bat t.table e).length_eq) (hroom hs)
    · have := (State.listed_iff t).mp (h.listed hs hl)
      exact (State.listed_iff _).mpr (this.listEntry e)
    · exact (h.due hs hd).trans (dueEntries_listEntry t.bat t.table e hphase).symm
  refine Kept.recomputeList (hlisted.markDepartures.evalEntry c e (e.project false) .plain true ?_ rfl)
  rw [(Front.markDepartures (.refl _)).table]
  exact (listEntry_perm t.bat t.table e).mem_iff.mpr List.mem_cons_self

theorem Kept.recordOver (c : Settings) (src : Source) (im : Image) (e : Entry) (h : Kept s t) (he : e ∈ t.table) :
    Kept s (t.recordOver c src im e).1 := by
  have hwho : ((replaceFacts e src im).project false).who = e.who := rfl
  have heval := (h.evalEntry c e ((replaceFacts e src im).project false) .plain true he hwho).markDepartures
  unfold State.recordOver
  dsimp only
  split
  · exact h
  · split
    · dsimp only
      refine Kept.recomputeList ?_
      split
      · exact heval.still (.voidBound _ (.refl _))
      · exact heval
    · exact h

theorem Kept.applyRecord (c : Settings) (src : Source) (im : Image) (h : Kept s t) : Kept s (t.applyRecord c src im).1 := by
  unfold State.applyRecord
  split
  next e he => exact h.recordOver c src im e (entry?_some t im.who e he).1
  next hnone =>
    split
    next => exact h
    next v hv =>
      exact (h.makeRoom hv).addEntry c _ (fun hs => State.makeRoom_length (h.sound hs) hv)
        (fun x hx => entry?_none t im.who hnone x (State.makeRoom_subset hv hx)) nofun

theorem Kept.updateEntry (c : Settings) (old cur : Entry) (after : EvalAfter) (stepped : Bool) (h : Kept s t) (hold : old ∈ t.table)
    (hwho : cur.who = old.who) : Kept s (t.updateEntry c old cur after stepped) := by
  have heval := h.evalEntry c old cur after stepped hold hwho
  unfold State.updateEntry
  dsimp only
  split
  · exact heval.recomputeList
  · exact heval

theorem Kept.applyDelete (im : Image) (h : Kept s t) : Kept s (t.applyDelete im).1 := by
  unfold State.applyDelete
  split
  · exact h
  · exact (h.removeEntry _).recomputeList

theorem Kept.applyCancel (c : Settings) (im : Image) (h : Kept s t) : Kept s (t.applyCancel c im).1 := by
  unfold State.applyCancel
  split
  next => exact h
  next e he =>
    have hupdate := h.updateEntry c e { e with cancel := some im.reason, phase := Phase.cancelled } .plain false
      (entry?_some t im.who e he).1 rfl
    dsimp only
    split
    · exact hupdate
    · exact hupdate
    · split
      · exact h
      · exact hupdate.still (.handRequest .cancel e.who (.refl (t.updateEntry c e _ .plain false)))
    · exact h

theorem Kept.applyReinstate (c : Settings) (im : Image) (h : Kept s t) : Kept s (t.applyReinstate c im).1 := by
  unfold State.applyReinstate
  split
  next => exact h
  next e he =>
    split
    · exact h.updateEntry c e _ .reinstate false (entry?_some t im.who e he).1 rfl
    · exact h

theorem Kept.applyReport (c : Settings) (im : Image) (h : Kept s t) : Kept s (t.applyReport c im).1 := by
  unfold State.applyReport
  split
  next => exact h
  next e he =>
    split
    · exact h
    · exact h.updateEntry c e _ .report true (entry?_some t im.who e he).1 rfl

theorem Kept.applyDeparted (c : Settings) (im : Image) (h : Kept s t) : Kept s (t.applyDeparted c im).1 := by
  unfold State.applyDeparted
  split
  next => exact h
  next e he =>
    have hupdate := h.updateEntry c e { e with phase := Phase.departed } .plain false (entry?_some t im.who e he).1 rfl
    split
    · exact hupdate
    · exact hupdate
    · exact h
    · exact h

theorem Kept.applyImage (c : Settings) (src : Source) (k : UpdateKind) (im : Image) (h : Kept s t) :
    Kept s (t.applyImage c src k im).1 := by
  unfold State.applyImage
  split
  · exact h
  split
  · exact h
  cases k with
  | record => exact h.applyRecord c src im
  | delete => exact h.applyDelete im
  | cancel => exact h.applyCancel c im
  | reinstate => exact h.applyReinstate c im
  | report => exact h.applyReport c im
  | departed => exact h.applyDeparted c im

end Sys2Proof.Machine
end

section
/-! PROOFS. What one step keeps: the memory's canonical form, the announcer's queue, the table with its order and DUE count, the
windows, the journal's order, and the bound on the host's hold. -/

namespace Sys2Proof.Machine

variable {s t u : State}

/-! ### Update images and frames -/

theorem Kept.applyLine (c : Settings) (k : UpdateKind) (h : Kept s t) : Kept s (t.applyLine c k) := by
  unfold State.applyLine
  split
  · split
    · exact (h.applyImage c .line k _).still (.goOnUpdate _ _ (.refl _))
    · exact h
  · exact h

theorem Kept.applyLocal (c : Settings) (k : UpdateKind) (h : Kept s t) : Kept s (t.applyLocal c k) := by
  unfold State.applyLocal
  split
  · split
    · exact (h.applyImage c .loc k _).still (.answerIntake _ _ _ (.refl _))
    · exact h
  all_goals exact h

/-! ### Settings of the clock and the halt second (R27 to R38) -/

/-- The battery domain's clock may change: the journal stands. -/
theorem Loose.modBat (f : Battery → Battery) (h : Loose s t)
    (hf : (f t.bat).geometry = t.bat.geometry ∧ (f t.bat).write = t.bat.write ∧ (f t.bat).send = t.bat.send ∧
      (f t.bat).confirm = t.bat.confirm) : Loose s (t.modBat f) :=
  h.trans ⟨⟨⟨id, rfl, id, id⟩, rfl, rfl, fun hj => hj.congr hf.1 hf.2.1 hf.2.2.1 hf.2.2.2 rfl rfl (.inr rfl), .inr rfl⟩, id⟩

theorem Loose.still (h : Loose s t) (k : Still t u) : Loose s u := h.trans k.kept.loose

theorem Loose.setClockNow (civil : Nat) (day : Word) (h : Loose s t) : Loose s (t.setClockNow civil day) :=
  ((h.modBat _ ⟨rfl, rfl, rfl, rfl⟩).still (.modClk _ (.refl _))).still (.raise _ (.refl _))

/-- With the day as it was, the table is as it was. -/
theorem Loose.kept (h : Loose s t) (htable : t.table = s.table) (hcount : t.dueCount = s.dueCount) (hday : t.bat.day = s.bat.day) :
    Kept s t := by
  refine ⟨h.toKeeps, h.sound, fun _ hl => ?_, fun _ hd => ?_⟩
  · rw [State.listed_iff] at hl ⊢
    rw [htable]
    exact hl.congr_day hday
  · unfold State.DueCounted at hd ⊢
    rw [hcount, htable, dueEntries_congr_day _ hday]
    exact hd

/-- A day difference of 0 is no change of the day (R33). -/
theorem Battery.dayDiff_zero (b : Battery) (day : Word) (h : b.dayDiff day = 0) : day = b.day := by
  have hzero : day - b.day = 0 := BitVec.eq_of_toInt_eq (h.trans BitVec.toInt_zero.symm)
  calc day = day - b.day + b.day := (BitVec.sub_add_cancel day b.day).symm
    _ = 0 + b.day := by rw [hzero]
    _ = b.day := BitVec.zero_add b.day

/-- A step reaches the table so that it is in order for the new day (R35). -/
theorem Kept.stepTable (c : Settings) (k : Int) (h : Loose s t) (hsame : k = 0 → Kept s t) : Kept s (t.stepTable c k) := by
  unfold State.stepTable
  split
  next hk => exact (hsame hk).evalPass c
  next =>
    split
    · exact h.rollTable.evalPass c
    · exact h.emptyTable

theorem Kept.setAndStep (c : Settings) (civil : Nat) (day : Word) (h : Kept s t) :
    Kept s ((t.setClockNow civil day).stepTable c (t.bat.dayDiff day)) := by
  have hset : Loose t (t.setClockNow civil day) := (Kept.refl t).loose.setClockNow civil day
  exact h.trans (Kept.stepTable c _ hset fun hk => hset.kept rfl rfl (t.bat.dayDiff_zero day hk))

theorem Kept.applySetting (c : Settings) (civil : Nat) (day : Word) (h : Kept s t) : Kept s (t.applySetting c civil day) := by
  unfold State.applySetting
  dsimp only
  split
  · exact h.still (.modClk _ (.refl _))
  · exact (h.setAndStep c civil day).still (.markBoth _ (.refl _))

theorem Kept.changeHour (c : Settings) (hour : Nat) (h : Kept s t) : Kept s (t.changeHour c hour) := by
  unfold State.changeHour
  split
  next => exact h
  next =>
    have hhour : Kept s (t.modBat fun b => { b with hour := hour }) :=
      h.still (.modBat _ (.refl t) rfl (fun g hg hring => hring g hg) (fun _ hfree => hfree))
    dsimp only
    split
    · exact (hhour.setAndStep c t.bat.civil (t.bat.dayFor hour)).still (.markBoth _ (.refl _))
    · exact hhour

theorem Kept.applyClock (c : Settings) (payload : List Word) (h : Kept s t) : Kept s (t.applyClock c payload) := by
  unfold State.applyClock
  split
  · exact h.applySetting c _ _
  · exact h

/-- The day number changes at the rollover only (R28). -/
theorem Battery.advance_day (b : Battery) (h : b.rolls = false) : b.advance.day = b.day := by
  unfold Battery.rolls at h
  unfold Battery.advance
  dsimp only
  exact if_neg (by simpa using h)

theorem Loose.advance (h : Loose s t) : Loose s ((t.modBat Battery.advance).modClk HaltClock.wrap) :=
  (h.modBat _ ⟨rfl, rfl, rfl, rfl⟩).still (.modClk _ (.refl _))

/-- A halt second lists and counts the table for the day it brings (R22, R24, R28). -/
theorem Kept.haltTick (c : Settings) (hcfg : t.cfg = some c) (h : Kept s t) : Kept s t.haltTick := by
  have hloose : Loose t ((t.modBat Battery.advance).modClk HaltClock.wrap) := (Kept.refl t).loose.advance
  have hrolled : Kept t (if t.bat.rolls then ((t.modBat Battery.advance).modClk HaltClock.wrap).rollTable
      else (t.modBat Battery.advance).modClk HaltClock.wrap) := by
    cases hrolls : t.bat.rolls with
    | true => exact hloose.rollTable
    | false => exact hloose.kept rfl rfl (t.bat.advance_day hrolls)
  refine h.trans ?_
  unfold State.haltTick
  have hcfg' : ((t.modBat Battery.advance).modClk HaltClock.wrap).cfg = some c := hcfg
  dsimp only
  rw [hcfg']
  generalize (if t.bat.rolls then ((t.modBat Battery.advance).modClk HaltClock.wrap).rollTable
      else (t.modBat Battery.advance).modClk HaltClock.wrap) = v at hrolled ⊢
  dsimp only
  have hmarked : Kept t (if v.bat.civil % 60 = 0 then v.markBoth [0] else v) := by
    split
    · exact hrolled.still (.markBoth _ (.refl _))
    · exact hrolled
  generalize (if v.bat.civil % 60 = 0 then v.markBoth [0] else v) = w at hmarked ⊢
  split
  · exact (hmarked.evalPass c).markDepartures
  · exact hmarked.evalPass c

theorem State.haltTick_unconfigured (s : State) (hcfg : s.cfg = none) : s.haltTick = (s.modBat Battery.advance).modClk HaltClock.wrap := by
  have hcfg' : ((s.modBat Battery.advance).modClk HaltClock.wrap).cfg = none := hcfg
  unfold State.haltTick
  dsimp only
  rw [hcfg']

/-! ### What a step keeps -/

/-- What every step keeps of the state but the host's hold count and what stands in the windows and the journal. -/
structure Steady (s t : State) : Prop where
  mem : Memory.wf s.mem = true → Memory.wf t.mem = true
  queue : s.QueueOrdered → t.QueueOrdered
  empty : s.EmptyBeforeAcceptance → t.EmptyBeforeAcceptance
  sound : s.TableSound → t.TableSound
  listed : s.EmptyBeforeAcceptance → s.TableSound → s.Listed → t.Listed
  mode : s.EmptyBeforeAcceptance → s.TableSound → s.ModeBounded → t.ModeBounded

theorem Steady.refl (s : State) : Steady s s := ⟨id, id, id, id, fun _ _ => id, fun _ _ => id⟩

theorem Steady.trans (h : Steady s t) (k : Steady t u) : Steady s u :=
  ⟨k.mem ∘ h.mem, k.queue ∘ h.queue, k.empty ∘ h.empty, k.sound ∘ h.sound,
    fun he hs hl => k.listed (h.empty he) (h.sound hs) (h.listed he hs hl),
    fun he hs hm => k.mode (h.empty he) (h.sound hs) (h.mode he hs hm)⟩

/-- What carries the table while the emptiness before an acceptance stands is steady. -/
theorem Kept.steady (h : Kept s t) (hempty : s.EmptyBeforeAcceptance → t.EmptyBeforeAcceptance) : Steady s t where
  mem := h.mem
  queue := h.queue
  empty := hempty
  sound := h.sound
  listed := fun _ => h.listed
  mode := fun _ hs hm => by
    rw [State.modeBounded_iff] at hm ⊢
    exact ⟨h.due hs hm.1, h.floor hm.2⟩

/-- With settings in force the table need not be empty. -/
theorem Keeps.empty_of_cfg (h : Keeps s t) (hcfg : s.cfg ≠ none) (he : s.EmptyBeforeAcceptance) : t.EmptyBeforeAcceptance :=
  ⟨fun hmain => absurd (he.1 (h.power ▸ hmain)).1 hcfg, fun hnone => absurd (h.cfg ▸ hnone) hcfg⟩

/-- A change that leaves the table and the settings leaves the emptiness, when no load begins without main power. -/
theorem Still.empty (h : Still s t) (hmain : s.power.main = true ∨ t.loader.stage = s.loader.stage) (he : s.EmptyBeforeAcceptance) :
    t.EmptyBeforeAcceptance := by
  refine ⟨fun hoff => ?_, fun hnone => ?_⟩
  · rw [h.power] at hoff
    rcases hmain with hon | hstage
    · rw [hoff] at hon
      cases hon
    · rw [h.cfg, hstage]
      exact he.1 hoff
  · rw [h.table]
    exact he.2 (h.cfg ▸ hnone)

/-- A change of nothing that the memory, the queue and the table's bounds speak of is steady. -/
theorem Steady.of_same (hmem : t.mem = s.mem) (hann : t.ann.queue = s.ann.queue) (hact : t.act = s.act) (htable : t.table = s.table)
    (hcount : t.dueCount = s.dueCount) (hday : t.bat.day = s.bat.day) (hempty : s.EmptyBeforeAcceptance → t.EmptyBeforeAcceptance) :
    Steady s t where
  mem := by rw [hmem]; exact id
  queue := by unfold State.QueueOrdered; rw [hann]; exact id
  empty := hempty
  sound := by unfold State.TableSound; rw [htable]; exact id
  listed := fun _ _ hl => by
    rw [State.listed_iff] at hl ⊢
    rw [htable]
    exact hl.congr_day hday
  mode := fun _ _ hm => by
    rw [State.modeBounded_iff] at hm ⊢
    unfold State.DueCounted State.FloorKept at hm ⊢
    rw [hcount, hact, htable, dueEntries_congr_day _ hday]
    exact hm

/-- What every step keeps. -/
structure Safe (s t : State) : Prop extends Steady s t where
  hold : s.HoldBounded → t.HoldBounded
  windows : s.WindowsFit → t.WindowsFit
  journal : s.JournalOrdered → t.JournalOrdered

theorem Safe.trans (h : Safe s t) (k : Safe t u) : Safe s u :=
  ⟨h.toSteady.trans k.toSteady, k.hold ∘ h.hold, k.windows ∘ h.windows, k.journal ∘ h.journal⟩

theorem State.HoldBounded.congr (hs : s.HoldBounded) (hhost : t.path.hostSide = s.path.hostSide) : t.HoldBounded := by
  obtain ⟨hwaiting, hhold⟩ := (Path.hostSide_eq_iff _ _).mp hhost
  unfold State.HoldBounded
  rw [hwaiting, hhold]
  exact hs

theorem Keeps.windows (h : Keeps s t) (hs : s.WindowsFit) : t.WindowsFit := by
  rw [State.windowsFit_iff] at hs ⊢
  refine ⟨h.cfg ▸ hs.1, fun c hc => ?_⟩
  rcases h.next with hnone | hsame
  · rw [hnone] at hc
    cases hc
  · exact hs.2 c (hsame ▸ hc)

theorem Keeps.safe (h : Keeps s t) (hsteady : Steady s t) : Safe s t := ⟨hsteady, fun hs => hs.congr h.host, h.windows, h.journal⟩

/-- With settings in force, what carries the table is safe. -/
theorem Kept.safe (h : Kept s t) (hcfg : s.cfg ≠ none) : Safe s t := h.toKeeps.safe (h.steady (h.empty_of_cfg hcfg))

/-- What leaves the table is safe, when no load begins without main power. -/
theorem Still.safe (h : Still s t) (hmain : s.power.main = true ∨ t.loader.stage = s.loader.stage) : Safe s t :=
  h.toKeeps.safe (h.kept.steady (h.empty hmain))

theorem Safe.refl (s : State) : Safe s s := (Still.refl s).safe (.inr rfl)

/-- What reaches no more than the panel, the selection, the composer, the controller and the announcer is safe. -/
theorem Front.safe (h : Front s t) (hc : Calm s t) : Safe s t := (Still.of_front h hc (.refl s)).safe (.inr (by rw [h.loader]))

end Sys2Proof.Machine
end

section
/-! PROOFS. Acceptances and part cycles keep what every step keeps: the settings put in force come from a descriptor that fits, or from
the stage of the reload. -/

namespace Sys2Proof.Machine

variable {s t u : State}

/-! ### Settings that are put in force (R197, R198) -/

/-- What keeps the state steady while it puts settings in force, or prepares to: the windows fit when those of the settings do, and the
journal has its order when theirs has room. -/
structure Puts (c : Settings) (s t : State) : Prop extends Steady s t where
  hold : s.HoldBounded → t.HoldBounded
  windows : c.windowsFit → s.WindowsFit → t.WindowsFit
  journal : 0 < c.win.jsize → s.JournalOrdered → t.JournalOrdered

theorem Puts.trans {c : Settings} (h : Puts c s t) (k : Puts c t u) : Puts c s u :=
  ⟨h.toSteady.trans k.toSteady, k.hold ∘ h.hold, fun hc => k.windows hc ∘ h.windows hc, fun hc => k.journal hc ∘ h.journal hc⟩

theorem Safe.puts (c : Settings) (h : Safe s t) : Puts c s t := ⟨h.toSteady, h.hold, fun _ => h.windows, fun _ => h.journal⟩

theorem Puts.kept {c : Settings} (h : Puts c s t) (k : Kept t u) (hcfg : t.cfg ≠ none) : Puts c s u := h.trans ((k.safe hcfg).puts c)

/-- Settings that fit and have room for a journal may be put in force. -/
theorem Puts.safe {c : Settings} (h : Puts c s t) (hfit : c.windowsFit) (hsize : 0 < c.win.jsize) : Safe s t :=
  ⟨h.toSteady, h.hold, h.windows hfit, h.journal hsize⟩

/-- The settings that the loader's stage holds may be put in force (R198). -/
theorem Puts.safe_of_next {c : Settings} (h : Puts c s t) (hnext : s.loader.stage.next? = some c) : Safe s t :=
  ⟨h.toSteady, h.hold, fun hw => h.windows ((State.windowsFit_iff s).mp hw |>.2 c hnext) hw,
    fun hj => h.journal ((State.journalOrdered_iff s).mp hj |>.2.2 c hnext) hj⟩

/-- Where a load or settings are, main power is. -/
theorem State.EmptyBeforeAcceptance.main (he : s.EmptyBeforeAcceptance) (hload : s.cfg ≠ none ∨ s.loader.stage ≠ .idle) :
    s.power.main = true := by
  cases hmain : s.power.main with
  | true => rfl
  | false =>
    obtain ⟨hcfg, hstage⟩ := he.1 hmain
    exact hload.elim (absurd hcfg) (absurd hstage)

/-- With main power and settings in force nothing need be empty. -/
theorem State.emptyBeforeAcceptance_of_main (hmain : s.power.main = true) (hcfg : s.cfg ≠ none) : s.EmptyBeforeAcceptance :=
  ⟨fun hoff => absurd (hmain.symm.trans hoff) Bool.noConfusion, fun hnone => absurd hnone hcfg⟩

theorem Puts.setCfg (c : Settings) (hload : s.cfg ≠ none ∨ s.loader.stage ≠ .idle) : Puts c s (s.setCfg (some c)) where
  toSteady := .of_same rfl rfl rfl rfl rfl rfl fun he => State.emptyBeforeAcceptance_of_main (he.main hload) nofun
  hold := fun hs => hs.congr rfl
  windows := fun hfit hs => by
    rw [State.windowsFit_iff] at hs ⊢
    refine ⟨fun c' hc' => ?_, hs.2⟩
    cases hc'
    exact hfit
  journal := fun _ hj => hj.congr rfl rfl rfl rfl rfl rfl (.inr rfl)

theorem State.takeGeometry_cases (s : State) (c : Settings) :
    s.takeGeometry c = s ∨
    s.takeGeometry c = s.modBat fun b => { b with geometry := some c.geometry, write := 0, send := 0, confirm := 0 } := by
  unfold State.takeGeometry
  split
  · exact .inl rfl
  · exact .inr rfl

theorem State.takeGeometry_cfg (s : State) (c : Settings) : (s.takeGeometry c).cfg = s.cfg := by
  rcases s.takeGeometry_cases c with h | h
  · rw [h]
  · rw [h]
    rfl

/-- A new journal starts with its indices at 0 and all its entries free (R83, R84). -/
theorem Puts.takeGeometry (c : Settings) : Puts c s (s.takeGeometry c) := by
  rcases s.takeGeometry_cases c with h | h
  · rw [h]
    exact (Safe.refl s).puts c
  · rw [h]
    refine ⟨.of_same rfl rfl rfl rfl rfl rfl id, fun hs => hs.congr rfl, fun _ => id, fun hsize hj => ?_⟩
    rw [State.journalOrdered_iff] at hj ⊢
    obtain ⟨-, hticket, hnext⟩ := hj
    refine ⟨fun g hg => ?_, fun k hk => ⟨(hticket k hk).1, ?_⟩, hnext⟩
    · cases hg
      have hg : 0 < c.geometry.size := hsize
      simp only [Battery.RingOrdered, State.modBat_bat]
      simp
      omega
    · rw [Battery.freeEntries_pos (g := c.geometry) rfl]
      change (0 + 2 * c.geometry.size - 0) % (2 * c.geometry.size) < c.geometry.size
      simpa [Settings.geometry] using hsize

/-- The loader's stage may hold the settings (R198). -/
theorem Puts.stage (c : Settings) (f : Loader → Loader) (hf : (f s.loader).stage.next? = some c)
    (hload : s.cfg ≠ none) : Puts c s (s.modLoader f) where
  toSteady := .of_same rfl rfl rfl rfl rfl rfl fun he => State.emptyBeforeAcceptance_of_main (he.main (.inl hload)) hload
  hold := fun hs => hs.congr rfl
  windows := fun hfit hs => by
    rw [State.windowsFit_iff] at hs ⊢
    refine ⟨hs.1, fun c' hc' => ?_⟩
    cases hf.symm.trans hc'
    exact hfit
  journal := fun hsize hj => by
    rw [State.journalOrdered_iff] at hj ⊢
    refine ⟨hj.1, hj.2.1, fun c' hc' => ?_⟩
    cases hf.symm.trans hc'
    exact hsize

/-- The settings are in force, with their day-start hour and their journal (R38, R84). -/
theorem Puts.inForce (c : Settings) (hload : s.cfg ≠ none ∨ s.loader.stage ≠ .idle) :
    Puts c s (((s.setCfg (some c)).changeHour c c.proj.hour).takeGeometry c) :=
  ((Puts.setCfg c hload).kept (.changeHour c c.proj.hour (.refl _)) nofun).trans (.takeGeometry c)

theorem State.inForce_cfg (s : State) (c : Settings) :
    (((s.setCfg (some c)).changeHour c c.proj.hour).takeGeometry c).cfg = some c := by
  rw [State.takeGeometry_cfg, (Kept.changeHour c c.proj.hour (.refl (s.setCfg (some c)))).cfg]
  rfl

/-- Stages 1 and 2 of a first acceptance (R197). -/
theorem Puts.takeSettings (c : Settings) (hstage : s.loader.stage ≠ .idle) : Puts c s (s.takeSettings c) :=
  (Puts.inForce c (.inr hstage)).kept
    (Still.modLoader (fun l => { l with stage := .scanning 0 }) ((((Still.refl _).rewriteUnsent).writeMirror).lowAtAcceptance)
      (.inl rfl)).kept (by rw [s.inForce_cfg c]; exact nofun)

theorem Kept.annSkip (c : Settings) (h : Kept s t) : Kept s (t.annSkip c) := h.still (.annSkip c (.refl t))

/-- Stage 7 of a reload, when the settings are in force (R198). -/
theorem State.reloadSettings_kept (s : State) (old next : Settings) :
    Kept (((s.setCfg (some next)).changeHour next next.proj.hour).takeGeometry next) (s.reloadSettings old next) := by
  have hrest : ∀ v : State, Kept v (((((v.writeMirror).lowAtAcceptance).reloadLink old next).annSkip next).evalAll next).recomputeList :=
    fun v => (((((Still.refl v).writeMirror).lowAtAcceptance).reloadLink old next).kept.annSkip next).evalAll next |>.recomputeList
  exact (hrest _).still (.setVolume _ (.refl _))

theorem State.reloadSettings_cfg (s : State) (old next : Settings) : (s.reloadSettings old next).cfg = some next :=
  (s.reloadSettings_kept old next).cfg.trans (s.inForce_cfg next)

theorem Puts.reloadSettings (old next : Settings) (hcfg : s.cfg ≠ none) : Puts next s (s.reloadSettings old next) :=
  (Puts.inForce next (.inl hcfg)).kept (s.reloadSettings_kept old next) (by rw [s.inForce_cfg next]; exact nofun)

theorem Puts.goOnFinish (old next : Settings) (hcfg : s.cfg ≠ none) : Puts next s (s.goOnFinish old next) := by
  have hended : Still s s.endQuotes := (Still.refl s).endQuotes
  unfold State.goOnFinish
  split
  · dsimp only
    split
    · have hcleared : Still s s.endQuotes.reloadClear := hended.reloadClear
      have hcfg' : s.endQuotes.reloadClear.cfg ≠ none := by rw [hcleared.cfg]; exact hcfg
      have hput := ((hcleared.kept.safe hcfg).puts next).trans (Puts.reloadSettings old next hcfg')
      refine hput.trans (Safe.puts next ((Still.refl _).acceptLoad.kept.safe ?_))
      rw [State.reloadSettings_cfg]
      exact nofun
    · exact (hended.kept.safe hcfg).puts next
  · exact (Safe.refl s).puts next

/-- Stage 2 of a reload begins (R198). -/
theorem Puts.beginFinish (old next : Settings) (hcfg : s.cfg ≠ none) : Puts next s (s.beginFinish old next) := by
  have hstage : Puts next s (s.modLoader fun l => { l with stage := .reloadFinish next }) := Puts.stage next _ rfl hcfg
  exact hstage.kept ((((Still.refl _).intakeNext).finishSale old).finishCommand old).kept hcfg

theorem State.beginFinish_cfg (s : State) (old next : Settings) : (s.beginFinish old next).cfg = s.cfg :=
  ((((Still.refl (s.modLoader fun l => { l with stage := .reloadFinish next })).intakeNext).finishSale old).finishCommand old).cfg

theorem Puts.goOnTicket (old next : Settings) (hcfg : s.cfg ≠ none) : Puts next s (s.goOnTicket old next) := by
  unfold State.goOnTicket
  split
  · exact (Safe.refl s).puts next
  split
  · exact ((Still.refl s).abandonReload.kept.safe hcfg).puts next
  · exact (Puts.beginFinish old next hcfg).trans (.goOnFinish old next (by rwa [State.beginFinish_cfg]))

theorem Kept.safe_of_some {c : Settings} (h : Kept s t) (hcfg : s.cfg = some c) : Safe s t := h.safe (by rw [hcfg]; exact nofun)

/-- An acceptance that goes on is safe: what a reload puts in force, its stage holds (R197, R198). -/
theorem Safe.settleLoad : Safe s s.settleLoad := by
  unfold State.settleLoad
  split
  next c n hcfg hstage =>
    split
    · exact ((Still.refl s).startJobs c).kept.safe_of_some hcfg
    · exact .refl s
  next c hcfg hstage =>
    split
    · exact ((Still.refl s).acceptLoad).kept.safe_of_some hcfg
    · exact .refl s
  next c next late hcfg hstage =>
    exact (Puts.goOnTicket c next (by rw [hcfg]; exact nofun)).safe_of_next (by rw [hstage]; rfl)
  next c next hcfg hstage =>
    exact (Puts.goOnFinish c next (by rw [hcfg]; exact nofun)).safe_of_next (by rw [hstage]; rfl)
  next => exact .refl s

/-! ### Fetched descriptors (R193, R194) -/

/-- A descriptor without a fault has windows that fit, and room for a journal (R194). -/
theorem readSettings_fits (d : List Word) (h : descriptorFault d = none) :
    (readSettings d).windowsFit ∧ 0 < (readSettings d).win.jsize := by
  unfold descriptorFault at h
  split at h
  next => cases h
  split at h
  next => cases h
  split at h
  next => cases h
  split at h
  next => cases h
  next hwindows =>
    split at h
    next => cases h
    next hvalues =>
      refine ⟨Classical.not_not.mp hwindows, ?_⟩
      have hall := Classical.not_not.mp hvalues
      unfold valuesOk at hall
      simp only [Bool.and_eq_true, and_assoc, within, decide_eq_true_eq] at hall
      exact Nat.lt_of_lt_of_le (Nat.succ_pos 15) hall.1

/-- A descriptor that is not rejected has no fault (R194). -/
theorem State.rejection_none (s : State) (got : List Word) (h : s.rejection got = none) : descriptorFault got = none := by
  unfold State.rejection at h
  split at h
  next => cases h
  next hfault => exact hfault

/-! ### The host's cycles and the part cycle (R174, R181, R182) -/

/-- The host's side of the path may change where the bound on the hold stands. -/
theorem Safe.modPath (f : Path → Path) (hhold : s.HoldBounded → (s.modPath f).HoldBounded) : Safe s (s.modPath f) where
  toSteady := .of_same rfl rfl rfl rfl rfl rfl id
  hold := hhold
  windows := id
  journal := id

theorem Safe.setHold : Safe s (s.setHold 0) := Safe.modPath _ fun _ => ⟨Nat.zero_le 4, fun _ => rfl⟩

theorem Safe.takeCycle (c : HostCycle) (hmain : s.power.main = true) : Safe s (s.takeCycle c) :=
  ((Still.refl s).takeCycle c).safe (.inl hmain)

theorem State.takeCycle_power (s : State) (c : HostCycle) : (s.takeCycle c).power = s.power := ((Still.refl s).takeCycle c).power

theorem Safe.settleHost (q : List HostCycle) (hmain : s.power.main = true) : Safe s (s.settleHost q) := by
  induction q generalizing s with
  | nil => exact (Safe.modPath (fun p => { p with waiting := [], hold := 0 }) fun _ => ⟨Nat.zero_le 4, fun _ => rfl⟩)
  | cons c rest ih =>
    unfold State.settleHost
    split
    · exact (Safe.takeCycle c hmain).trans (ih (by rwa [State.takeCycle_power]))
    · exact Safe.modPath _ fun hs => ⟨hs.1, nofun⟩

theorem Safe.serveHost (hmain : s.power.main = true) : Safe s s.serveHost := by
  unfold State.serveHost
  split
  · exact .setHold
  next c rest _ =>
    refine ((Safe.takeCycle c hmain).trans .setHold).trans (.settleHost rest ?_)
    exact (congrArg Power.main (s.takeCycle_power c)).trans hmain

theorem State.settleHost_power (s : State) (q : List HostCycle) : (s.settleHost q).power = s.power := by
  induction q generalizing s with
  | nil => rfl
  | cons c rest ih =>
    unfold State.settleHost
    split
    · rw [ih, State.takeCycle_power]
    · rfl

theorem Safe.present (c : HostCycle) : Safe s (s.present c) := by
  unfold State.present
  split
  next hmain =>
    have hqueued : Safe s (s.queueCycle c) := .settleHost _ hmain
    have hmain' : (s.queueCycle c).power.main = true := (congrArg Power.main (s.settleHost_power _)).trans hmain
    dsimp only
    split
    · exact hqueued
    · exact hqueued.trans (.serveHost hmain')
  next => exact .refl s

/-- A host held fewer than four times, or with no cycle waiting, may be counted as held (R181). -/
theorem Safe.countHold (hturn : s.path.waiting = [] ∨ s.path.hold < 4) : Safe s s.countHold := by
  unfold State.countHold
  split
  · exact .setHold
  next hwaiting =>
    have hne : s.path.waiting ≠ [] := fun hnil => hwaiting (by rw [hnil]; rfl)
    exact Safe.modPath _ fun _ => ⟨(hturn.resolve_left hne), fun hnil => absurd hnil hne⟩

/-- A requester that takes the part cycle is safe where the host may be held, when no load begins without main power. -/
theorem Safe.serve (r : Requester)
    (hmain : s.power.main = true ∨ ∀ a, ((s.landed a).served r (s.fetched a)).loader.stage = s.loader.stage)
    (hturn : s.path.waiting = [] ∨ s.path.hold < 4) : Safe s (s.serve r) := by
  unfold State.serve
  split
  next a _ =>
    have hserved : Still s ((s.landed a).served r (s.fetched a)) := ((Still.refl s).landed a).served r _
    obtain ⟨hw, hh⟩ := s.landed_served_host r a (s.fetched a)
    exact ((hserved.safe (hmain.imp_right fun hstage => hstage a)).trans (.countHold (by rwa [hw, hh]))).trans .settleLoad
  next => exact .countHold hturn

/-- A requester is granted the part cycle only while the host may be held (R181). -/
theorem State.grant_requester (s : State) (r : Requester) (h : s.grant = some (.inr r)) : s.path.waiting = [] ∨ s.path.hold < 4 := by
  unfold State.grant at h
  split at h
  next hnil => exact .inl (List.isEmpty_iff.mp hnil)
  split at h
  next => cases h
  split at h
  next =>
    split at h
    next hlt => exact .inr hlt
    next => cases h
  next => cases h

theorem Safe.partCycle (hmain : s.power.main = true) : Safe s s.partCycle := by
  unfold State.partCycle
  split
  · exact .serveHost hmain
  next r hgrant => exact .serve r (.inl hmain) (s.grant_requester r hgrant)
  · exact .setHold

theorem State.commitTicket_loader (s : State) : s.commitTicket.loader = s.loader := by
  unfold State.commitTicket
  split
  · exact (Inner.answerSale _ _ _ (.testLow _ _ (.writeMirror (.refl _)))).loader
  · rfl

/-- The landing of a ticket's state word leaves the loader (R76). -/
theorem State.served_ticket_loader (s : State) (a : Acc) (rest : List Acc) (haccs : s.issue.accs = a :: rest)
    (hland : a.land = .journalState) (x : Access) (w : Word) : ((s.landed x).served .issue w).loader = s.loader := by
  have haccs' : (s.landed x).issue.accs = a :: rest := by cases x <;> exact haccs
  have hloader : (s.landed x).loader = s.loader := by cases x <;> rfl
  change ((s.landed x).issueServed w).loader = _
  unfold State.issueServed
  rw [haccs']
  dsimp only
  rw [hland]
  exact (State.commitTicket_loader _).trans hloader

/-- The part cycle of a commit is the issue unit's (R75). -/
theorem Safe.commit (hnext : s.commitNext = true) : Safe s s.partCycle := by
  unfold State.commitNext at hnext
  split at hnext
  next a rest hgrant haccs =>
    unfold State.partCycle
    rw [hgrant]
    exact .serve .issue (.inr fun x => congrArg Loader.stage (s.served_ticket_loader a rest haccs (eq_of_beq hnext) x _))
      (s.grant_requester .issue hgrant)
  next => cases hnext

/-! ### Power and resets (R30, R199) -/

/-- A change of power that leaves the main supply is safe. -/
theorem Safe.modPower (f : Power → Power) (hmain : (f s.power).main = s.power.main) : Safe s (s.modPower f) where
  toSteady := .of_same rfl rfl rfl rfl rfl rfl fun he => ⟨fun hoff => he.1 (hmain.symm.trans hoff), he.2⟩
  hold := id
  windows := id
  journal := id

theorem Activity.initial_floorKept (low : Bool) (hcount : t.dueCount = 0) (hact : t.act = Activity.initial low) : t.FloorKept := by
  unfold State.FloorKept
  rw [hact, hcount]
  cases low <;> simp [Activity.initial]

/-- A reset of the main domain is safe, whatever is done to the clock of the battery domain, when the ring stands (R199). -/
theorem Safe.reset (low : Bool) (hmem : t.mem = s.mem) (hann : t.ann = Announcer.initial low) (hact : t.act = Activity.initial low)
    (htable : t.table = []) (hcount : t.dueCount = 0) (hcfg : t.cfg = none) (hstage : t.loader.stage = .idle)
    (hissue : t.issue.stage = .idle) (hpath : t.path = Path.initial)
    (hring : (∀ g, s.bat.geometry = some g → s.bat.RingOrdered g) → ∀ g, t.bat.geometry = some g → t.bat.RingOrdered g) : Safe s t where
  mem := by rw [hmem]; exact id
  queue := fun _ => by
    unfold State.QueueOrdered
    rw [hann]
    exact ⟨Nat.zero_le 4, .nil, .nil⟩
  empty := fun _ => ⟨fun _ => ⟨hcfg, hstage⟩, fun _ => htable⟩
  sound := fun _ => by
    unfold State.TableSound
    rw [htable]
    exact ⟨Nat.zero_le 48, List.nodup_nil⟩
  listed := fun _ _ _ => by
    rw [State.listed_iff, htable]
    exact .nil
  mode := fun _ _ _ => by
    rw [State.modeBounded_iff]
    refine ⟨?_, Activity.initial_floorKept low hcount hact⟩
    unfold State.DueCounted
    rw [hcount, htable]
    rfl
  hold := fun _ => by
    unfold State.HoldBounded
    rw [hpath]
    exact ⟨Nat.zero_le 4, fun _ => rfl⟩
  windows := fun _ => by
    rw [State.windowsFit_iff, hcfg, hstage]
    exact ⟨nofun, nofun⟩
  journal := fun hj => by
    rw [State.journalOrdered_iff] at hj ⊢
    rw [hissue, hstage]
    exact ⟨hring hj.1, nofun, nofun⟩

theorem Safe.losePower : Safe s s.losePower :=
  Safe.reset s.power.supplyLow rfl rfl rfl rfl rfl rfl rfl rfl rfl fun hring g hg => hring g hg

theorem Safe.powerKept : Safe s s.powerKept :=
  Safe.reset s.power.supplyLow rfl rfl rfl rfl rfl rfl rfl rfl rfl fun hring g hg => (hring g hg).reverted rfl rfl rfl

theorem Safe.powerLost : Safe s s.powerLost :=
  Safe.reset s.power.supplyLow rfl rfl rfl rfl rfl rfl rfl rfl rfl fun _ => nofun

theorem Safe.lineReset : Safe s s.lineReset :=
  Safe.reset s.power.supplyLow rfl rfl rfl rfl rfl rfl rfl rfl rfl fun hring g hg => (hring g hg).reverted rfl rfl rfl

theorem Safe.assertReset (hmain : s.power.main = true) : Safe s s.assertReset := by
  have hreset : Safe s (s.modPower fun p => { p with reset := true }) := .modPower _ rfl
  have htaken : Still (s.modPower fun p => { p with reset := true })
      (s.path.waiting.foldl State.takeCycle ((s.modPower fun p => { p with reset := true }).modLink fun k => { k with sending := none })) :=
    Still.foldl (fun _ c hu => hu.takeCycle c) ((Still.refl _).modLink _)
  exact (hreset.trans (htaken.safe (.inl hmain))).trans
    (.modPath (fun p => { p with waiting := [], hold := 0 }) fun _ => ⟨Nat.zero_le 4, fun _ => rfl⟩)

/-! ### The crystal, the halt second and the backup second (R27 to R30) -/

/-- Commands put at the end of the queue change nothing else but the free values drawn. -/
theorem Still.enqueueDue (l : List Instr) (h : Still s t) : Still s (t.enqueueDue l) :=
  ⟨⟨⟨h.mem, h.host, h.queue, h.floor⟩, h.power, h.cfg, h.journal, h.next⟩, h.table, h.dueCount, h.day⟩

/-- A change of the day while the table is empty is safe. -/
theorem Loose.safe_of_unconfigured (h : Loose s t) (hcfg : s.EmptyBeforeAcceptance → s.cfg = none) (htable : t.table = s.table)
    (hcount : t.dueCount = s.dueCount) (hstage : t.loader.stage = s.loader.stage) : Safe s t := by
  refine h.toKeeps.safe ⟨h.mem, h.queue, fun he => ?_, h.sound, fun he _ _ => ?_, fun he _ hm => ?_⟩
  · exact ⟨fun hoff => by rw [h.cfg, hstage]; exact he.1 (h.power ▸ hoff), fun _ => htable.trans (he.2 (hcfg he))⟩
  · rw [State.listed_iff, htable, he.2 (hcfg he)]
    exact .nil
  · rw [State.modeBounded_iff] at hm ⊢
    refine ⟨?_, h.floor hm.2⟩
    have hdue := hm.1
    unfold State.DueCounted at hdue ⊢
    rw [he.2 (hcfg he)] at hdue
    rw [hcount, htable, he.2 (hcfg he), hdue]
    rfl

theorem Safe.haltTick : Safe s s.haltTick := by
  cases hcfg : s.cfg with
  | none =>
    rw [s.haltTick_unconfigured hcfg]
    exact (Kept.refl s).loose.advance.safe_of_unconfigured (fun _ => hcfg) rfl rfl rfl
  | some c => exact (Kept.haltTick c hcfg (.refl s)).safe_of_some hcfg

theorem Safe.modClk (f : HaltClock → HaltClock) : Safe s (s.modClk f) := ((Still.refl s).modClk f).safe (.inr rfl)

theorem Safe.takeHalt : Safe s s.takeHalt := by
  unfold State.takeHalt
  split
  · exact .haltTick
  · exact ((Safe.modClk _).trans .haltTick).trans (.modClk _)

theorem Safe.crystalCycle : Safe s s.crystalCycle := by
  unfold State.crystalCycle
  split
  · have hcounted : Still s ((s.modClk fun k => k.countPrescaler.countUptime (Config.freeUptime s.free % 4294967296)).modAnn
        Announcer.pace) := ((Still.refl s).modClk _).modAnn _
    unfold State.mainCycle
    dsimp only
    split
    · exact (((hcounted.drawn).enqueueDue _).modClk _).safe (.inr rfl)
    · exact ((hcounted.enqueueDue _).modClk _).safe (.inr rfl)
  · unfold State.backupCycle
    split
    · exact ((Still.refl s).modBat _ rfl (fun g hg hring => hring g hg) (fun _ hfree => hfree)).safe (.inr rfl)
    · exact ((Still.refl s).enqueueDue _).safe (.inr rfl)

end Sys2Proof.Machine
end

section
/-! PROOFS. Every command is safe, one lemma per command that does more than one operation, and the invariants of every step. -/

namespace Sys2Proof.Machine

variable {s t u : State}

/-! ### Outcomes -/

/-- An outcome is safe when the state it goes on with is. -/
def SafeOutcome (s : State) (o : Host.Outcome State Fault Refusal) : Prop := ∀ t, o = .next t → Safe s t

theorem Safe.outcome (h : Safe s t) : SafeOutcome s (.next t) := by
  intro u hu
  cases hu
  exact h

/-- A change of what `Front` allows, made by a command on its own. -/
theorem Safe.of_front {f : State → State} (hf : Front s (f s)) (hc : Calm s (f s)) : Safe s (f s) := hf.safe hc

/-! ### Times, the panel, the screens and the announcer -/

theorem execSupplyLowChange_safe (asserted : Bool) : SafeOutcome s (execSupplyLowChange asserted s) := by
  have hdriven : Safe s (s.driveSupply asserted) := .modPower _ rfl
  refine Safe.outcome ?_
  dsimp only
  split
  · exact hdriven
  · refine hdriven.trans (Front.safe ?_ ?_)
    · exact .annSupply asserted (.supplyMode asserted (.refl _))
    · exact .annSupply asserted (.supplyMode asserted (.refl _))

theorem execHaltSecond_safe : SafeOutcome s (execHaltSecond s) := by
  refine Safe.outcome ?_
  split
  · exact .takeHalt
  · exact .refl s

theorem execBackupSecond_safe : SafeOutcome s (execBackupSecond s) := by
  refine Safe.outcome ?_
  split
  next => exact .refl s
  next hoff =>
    have hloose : Loose s (s.modBat fun b => { b.advance with divider := 0 }) := (Kept.refl s).loose.modBat _ ⟨rfl, rfl, rfl, rfl⟩
    exact hloose.safe_of_unconfigured (fun he => (he.1 (Bool.eq_false_iff.mpr hoff)).1) rfl rfl rfl

theorem execStalenessRetest_safe : SafeOutcome s (execStalenessRetest s) := by
  refine Safe.outcome ?_
  split
  next c hcfg => exact ((Kept.refl s).retestStale c).safe_of_some hcfg
  next => exact .refl s

theorem execQuoteLapse_safe (slot : Fin 4) : SafeOutcome s (execQuoteLapse slot s) := by
  refine Safe.outcome ?_
  split
  · exact ((Still.refl s).voidSlot _ _).safe (.inr (by rw [(Inner.voidSlot slot.val .none (.refl s)).loader]))
  · exact .refl s

theorem execIdleDeadline_safe : SafeOutcome s (execIdleDeadline s) := by
  refine Safe.outcome ?_
  split
  · exact Front.safe (.idleStep (.refl s)) (.idleStep (.refl s))
  · exact .refl s

theorem execDueFlash_safe : SafeOutcome s (execDueFlash s) := by
  refine Safe.outcome ?_
  split
  · exact Front.safe (.modBoard _ (.refl s)) (.modBoard _ (.refl s))
  · exact .refl s

theorem execNoticeExpiry_safe (notice : NoticeKind) : SafeOutcome s (execNoticeExpiry notice s) := by
  refine Safe.outcome ?_
  cases notice with
  | line =>
    dsimp only
    split
    · exact Front.safe (.setLineNotice none (.refl s)) (.setLineNotice none (.refl s))
    · exact .refl s
  | own =>
    dsimp only
    split
    · exact Front.safe (.setOwnNotice none (.refl s)) (.setOwnNotice none (.refl s))
    · exact .refl s

theorem State.revertSent_loader (s : State) : s.revertSent.loader = s.loader := by
  unfold State.revertSent
  split <;> rfl

theorem execLossDeadline_safe : SafeOutcome s (execLossDeadline s) := by
  refine Safe.outcome ?_
  split
  · exact (Still.refl s).linkLost.safe (.inr (congrArg Loader.stage (State.revertSent_loader _)))
  · exact .refl s

theorem execStuckTimeout_safe (channel : Fin 8) : SafeOutcome s (execStuckTimeout channel s) := by
  refine Safe.outcome ?_
  split
  · split
    · exact Front.safe (.releaseStuck _ _ (.refl s)) (.releaseStuck _ _ (.refl s))
    · exact .refl s
  · exact .refl s

theorem execLeaveDeadline_safe : SafeOutcome s (execLeaveDeadline s) := by
  refine Safe.outcome ?_
  split
  · exact Front.safe (.selLeave (.refl s)) (.selLeave (.refl s))
  · exact .refl s

theorem execHandedDeadline_safe : SafeOutcome s (execHandedDeadline s) := by
  refine Safe.outcome ?_
  split
  · exact Front.safe (.selTimeout (.refl s)) (.selTimeout (.refl s))
  · exact .refl s

theorem execScrollDeadline_safe (screen : Screen) : SafeOutcome s (execScrollDeadline screen s) := by
  refine Safe.outcome ?_
  split
  · split
    · exact Front.safe (.modBoard _ (.refl s)) (.modBoard _ (.refl s))
    · exact .refl s
  · exact .refl s

theorem execSampleRound_safe (counts : List Nat) : SafeOutcome s (execSampleRound counts s) := by
  refine Safe.outcome ?_
  split
  next c _ =>
    split
    · exact Front.safe (.round c counts (.refl s)) (.round c counts (.refl s))
    · exact .refl s
  next => exact .refl s

theorem Safe.modScan (scr : Screen) (f : Scan → Scan) : Safe s (s.modScan scr f) := by
  cases scr
  · exact ((Still.refl s).modScrA f).safe (.inr rfl)
  · exact ((Still.refl s).modScrB f).safe (.inr rfl)

theorem execFrameStart_safe (screen : Screen) : SafeOutcome s (execFrameStart screen s) := by
  refine Safe.outcome ?_
  split
  · split
    · exact .modScan _ _
    · exact .refl s
  · exact .refl s

theorem execLineStart_safe (screen : Screen) : SafeOutcome s (execLineStart screen s) := by
  refine Safe.outcome ?_
  split
  next y _ _ =>
    have hstarted : Safe s (s.modScan screen (·.startLine y)) := .modScan _ _
    unfold State.startLine
    dsimp only
    split
    · exact hstarted
    · exact hstarted.trans (Front.safe (.raise _ (.count _ _ (.refl _))) (.raise _ (.count _ _ (.refl _))))
  next => exact .refl s

theorem execFetchUrgent_safe (screen : Screen) : SafeOutcome s (execFetchUrgent screen s) := by
  refine Safe.outcome ?_
  split
  · exact .modScan _ _
  · exact .refl s

theorem execSamplePeriod_safe : SafeOutcome s (execSamplePeriod s) :=
  Safe.outcome (Front.safe (.annPeriod (.refl s)) (.annPeriod (.refl s)))

theorem execRowBuild_safe : SafeOutcome s (execRowBuild s) := by
  refine Safe.outcome ?_
  split
  · split
    · exact .refl s
    · exact Front.safe (.startBuild _ _ _ (.refl s)) (.startBuild _ _ _ (.refl s))
  · exact .refl s

theorem execCellRender_safe : SafeOutcome s (execCellRender s) := by
  refine Safe.outcome ?_
  split
  · exact Front.safe (.modBoard _ (.refl s)) (.modBoard _ (.refl s))
  · exact .refl s

/-! ### Power, the host and the part cycle -/

theorem execPowerOn_safe (backupKept : Bool) : SafeOutcome s (execPowerOn backupKept s) := by
  refine Safe.outcome ?_
  split
  · exact .refl s
  · split
    · exact .powerKept
    · exact .powerLost

theorem execMainPowerLoss_safe : SafeOutcome s (execMainPowerLoss s) := by
  refine Safe.outcome ?_
  split
  · exact .losePower
  · exact .refl s

theorem execHostLineReset_safe : SafeOutcome s (execHostLineReset s) := by
  refine Safe.outcome ?_
  split
  · exact .lineReset
  · exact .refl s

theorem execHostResetAsserted_safe : SafeOutcome s (execHostResetAsserted s) := by
  refine Safe.outcome ?_
  split
  next h => exact .assertReset (Bool.and_eq_true_iff.mp h).1
  next => exact .refl s

theorem execPartCycle_safe (hostRead : Option Addr) : SafeOutcome s (execPartCycle hostRead s) := by
  refine Safe.outcome ?_
  split
  next hmain =>
    split
    next a =>
      have hmain' : (s.queueCycle (.read a)).power.main = true := (congrArg Power.main (s.settleHost_power _)).trans hmain
      exact (Safe.settleHost _ hmain).trans (.partCycle hmain')
    next => exact .partCycle hmain
  next => exact .refl s

theorem execCommit_safe : SafeOutcome s (execCommit s) := by
  refine Safe.outcome ?_
  split
  next hnext => exact .commit hnext
  next => exact .refl s

theorem Safe.presentReport (o : Nat) (v : Word) (l : Lanes) : Safe s (s.presentReport o v l) := by
  unfold State.presentReport
  split
  · exact .present _
  · exact .refl s

theorem execClockGroupRead_safe (word : Fin 3) : SafeOutcome s (execClockGroupRead word s) := by
  refine Safe.outcome ?_
  split
  · exact .present _
  · exact .refl s

theorem execSubmit_safe (slot : Fin 16) : SafeOutcome s (execSubmit slot s) := by
  refine Safe.outcome ?_
  split
  · exact .present _
  · exact .refl s

theorem execSaleSlotPost_safe (slot : Fin 4) (code : SaleCode) : SafeOutcome s (execSaleSlotPost slot code s) := by
  refine Safe.outcome ?_
  split
  · exact .present _
  · exact .refl s

/-! ### The loader -/

theorem execDescriptorRejection_safe : SafeOutcome s (execDescriptorRejection s) := by
  refine Safe.outcome ?_
  split
  next got hstage =>
    split
    next r _ =>
      have hrejected : Still s (s.rejectLoad r) := (Still.refl s).rejectLoad r
      refine hrejected.toKeeps.safe (hrejected.kept.steady fun he => hrejected.empty (.inl ?_) he)
      exact he.main (.inr (by rw [hstage]; exact nofun))
    next => exact .refl s
  next => exact .refl s

theorem execFirstAcceptance_safe : SafeOutcome s (execFirstAcceptance s) := by
  refine Safe.outcome ?_
  split
  next got hstage hcfg =>
    split
    next hrejection =>
      obtain ⟨hfit, hsize⟩ := readSettings_fits got (s.rejection_none got hrejection)
      exact (Puts.takeSettings (readSettings got) (by rw [hstage]; exact nofun)).safe hfit hsize
    next => exact .refl s
  next => exact .refl s

theorem execReloadAcceptance_safe : SafeOutcome s (execReloadAcceptance s) := by
  refine Safe.outcome ?_
  split
  next got c hstage hcfg =>
    have hload : s.cfg ≠ none := by rw [hcfg]; exact nofun
    split
    next hrejection =>
      obtain ⟨hfit, hsize⟩ := readSettings_fits got (s.rejection_none got hrejection)
      exact ((Puts.stage (readSettings got) _ rfl hload).trans (.goOnTicket c (readSettings got) hload)).safe hfit hsize
    next => exact .refl s
  next => exact .refl s

/-! ### Update images, sales and commands -/

theorem Safe.applyUpdate (k : UpdateKind) (src : Source) : Safe s (s.applyUpdate k src) := by
  unfold State.applyUpdate
  split
  next c hcfg => exact ((Kept.refl s).applyLine c k).safe_of_some hcfg
  next c hcfg => exact ((Kept.refl s).applyLocal c k).safe_of_some hcfg
  next => exact .refl s

theorem Still.safe_of_some {c : Settings} (h : Still s t) (hcfg : s.cfg = some c) : Safe s t := h.kept.safe_of_some hcfg

theorem execQuote_safe : SafeOutcome s (execQuote s) := by
  refine Safe.outcome ?_
  split
  next c slot req hcfg _ => exact ((Still.refl s).takeQuote c slot req).safe_of_some hcfg
  next => exact .refl s

theorem execIssue_safe : SafeOutcome s (execIssue s) := by
  refine Safe.outcome ?_
  split
  next c slot req hcfg hready =>
    obtain ⟨⟨rest, hfifo⟩, -, -⟩ := (s.saleReady_some_iff .issue slot req).mp hready
    exact ((Still.refl s).takeIssue c slot (by rw [hfifo]; exact List.cons_ne_nil _ _)).safe_of_some hcfg
  next => exact .refl s

theorem execRelease_safe : SafeOutcome s (execRelease s) := by
  refine Safe.outcome ?_
  split
  next c slot req hcfg _ => exact ((Still.refl s).takeRelease c slot).safe_of_some hcfg
  next => exact .refl s

theorem execSetClock_safe : SafeOutcome s (execSetClock s) := by
  refine Safe.outcome ?_
  split
  next c args hcfg _ =>
    dsimp only
    split
    · exact ((Still.refl s).commandRefused c _).safe_of_some hcfg
    split
    · exact ((Still.refl s).commandRefused c _).safe_of_some hcfg
    · exact (((Kept.refl s).applySetting c _ _).still (.commandDone c 0 (.refl _))).safe_of_some hcfg
  next => exact .refl s

theorem execCalibrate_safe : SafeOutcome s (execCalibrate s) := by
  refine Safe.outcome ?_
  split
  next c args hcfg _ =>
    dsimp only
    split
    · refine Front.safe (.syncLeave false (.modPanel _ (.foldl (fun _ ch hu => hu.startCal _ ch) (.ownCommand .calibrate (.refl s)))))
        (.syncLeave false (.modPanel _ (.foldl (fun _ ch hu => hu.startCal _ ch) (.ownCommand .calibrate (.refl s)))))
    · exact ((Still.refl s).commandRefused c _).safe_of_some hcfg
  next => exact .refl s

theorem execReseed_safe : SafeOutcome s (execReseed s) := by
  refine Safe.outcome ?_
  split
  next c args hcfg _ =>
    dsimp only
    split
    · exact Front.safe (.commandDone c 0 (.syncLeave false (.reseedMask _ _ (.refl s))))
        (.commandDone c 0 (.syncLeave false (.reseedMask _ _ (.refl s))))
    · exact ((Still.refl s).commandRefused c _).safe_of_some hcfg
  next => exact .refl s

theorem execPlay_safe : SafeOutcome s (execPlay s) := by
  refine Safe.outcome ?_
  split
  next c args hcfg _ =>
    split
    next clips _ =>
      have htaken : Still s (s.takeRequest { kind := .play, who := none, clips := clips }) := (Still.refl s).takeRequest _
      unfold State.takePlay
      dsimp only
      split
      · exact (htaken.commandDone c 0).safe_of_some hcfg
      · exact (htaken.commandRefused c _).safe_of_some hcfg
    next => exact ((Still.refl s).commandRefused c _).safe_of_some hcfg
  next => exact .refl s

theorem execLocalNotice_safe : SafeOutcome s (execLocalNotice s) := by
  refine Safe.outcome ?_
  split
  · exact Front.safe (.takeLocalNotice _ _ _ _ (.refl s)) (.takeLocalNotice _ _ _ _ (.refl s))
  · exact .refl s

theorem execSelectionDone_safe : SafeOutcome s (execSelectionDone s) := by
  refine Safe.outcome ?_
  split
  next c args hcfg _ =>
    split
    · exact Front.safe (.commandDone c 0 (.selDone (.refl s))) (.commandDone c 0 (.selDone (.refl s)))
    · exact ((Still.refl s).commandRefused c _).safe_of_some hcfg
  next => exact .refl s

theorem execJournalPush_safe : SafeOutcome s (execJournalPush s) := by
  refine Safe.outcome ?_
  split
  next c args hcfg _ =>
    split
    · exact ((Still.refl s).commandRefused c _).safe_of_some hcfg
    · exact (((Still.refl s).modLink _).commandDone c 0).safe_of_some hcfg
  next => exact .refl s

/-! ### Frames (R155 to R171) -/

theorem execFrameError_safe (cause : FrameFault) : SafeOutcome s (execFrameError cause s) := by
  refine Safe.outcome ?_
  split
  next c hcfg =>
    split
    · exact ((Still.refl s).hearChars c cause).safe_of_some hcfg
    · exact .refl s
  next => exact .refl s

theorem execFrameGapExpiry_safe (gap : Nat) : SafeOutcome s (execFrameGapExpiry gap s) := by
  refine Safe.outcome ?_
  split
  next c hcfg =>
    split
    · exact ((Still.refl s).endGap c gap).safe_of_some hcfg
    · exact .refl s
  next => exact .refl s

/-- What a frame brings about is safe when it carries the table from the state in which the frame is good. -/
theorem Safe.onFrame (kind : Byte) (seq : Fin 8) (halt : Settings → Byte) (payload : List Word) (f : Settings → State → State)
    (hf : ∀ c v, Kept s v → Kept s (f c v)) : Safe s (s.onFrame kind seq halt payload f) := by
  unfold State.onFrame
  split
  next c hcfg =>
    split
    next =>
      have hended : Still s (s.endGap c 0).endFrame := ((Still.refl s).endGap c 0).endFrame
      dsimp only
      split
      · split
        · exact (hf c _ hended.kept).safe_of_some hcfg
        · exact (hended.count _ _).safe_of_some hcfg
      · exact .refl s
    next => exact .refl s
  next => exact .refl s

theorem Kept.takeAddressed (c : Settings) (kind : Byte) (seq : Nat) (payload : List Word) (apply : State → State)
    (happly : ∀ v, Kept s v → Kept s (apply v)) (h : Kept s t) : Kept s (t.takeAddressed c kind seq payload apply) := by
  have hup : Kept s (t.linkUp c) := h.still (.linkUp c (.refl t))
  unfold State.takeAddressed
  dsimp only
  split
  · exact hup.still (.takeDuplicate c seq (.refl _))
  · exact happly _ (hup.still (((Still.refl _).modLink _).awaitReply c seq _))

theorem execForeignFrame_safe (kind halt : Byte) (seq : Fin 8) (payload : List Word) :
    SafeOutcome s (execForeignFrame kind halt seq payload s) := by
  refine Safe.outcome (.onFrame _ _ _ _ _ fun c v hv => ?_)
  split
  · exact hv.still (.count _ _ (.refl v))
  · exact hv

theorem execPoll_safe (seq : Fin 8) (payload : List Word) : SafeOutcome s (execPoll seq payload s) :=
  Safe.outcome (.onFrame _ _ _ _ _ fun c _ hv => hv.takeAddressed c _ _ _ _ fun w hw => hw.still (.replyJournal (.refl w)))

theorem execUpdate_safe (seq : Fin 8) (payload : List Word) : SafeOutcome s (execUpdate seq payload s) :=
  Safe.outcome (.onFrame _ _ _ _ _ fun c _ hv => hv.takeAddressed c _ _ _ _ fun w hw => hw.still (.takeUpdate payload (.refl w)))

theorem execClock_safe (dest : Dest) (seq : Fin 8) (payload : List Word) : SafeOutcome s (execClock dest seq payload s) := by
  refine Safe.outcome (.onFrame _ _ _ _ _ fun c v hv => ?_)
  cases dest with
  | addressed =>
    exact hv.takeAddressed c _ _ _ _ fun w hw => (hw.applyClock c payload).still (.answerUnless _ (.refl _))
  | broadcast => exact (hv.still (.linkUp c (.refl v))).applyClock c payload

theorem execNotice_safe (dest : Dest) (seq : Fin 8) (payload : List Word) : SafeOutcome s (execNotice dest seq payload s) := by
  refine Safe.outcome (.onFrame _ _ _ _ _ fun c v hv => ?_)
  cases dest with
  | addressed =>
    exact hv.takeAddressed c _ _ _ _ fun w hw => hw.still (((Still.refl w).applyNotice payload).answerUnless _)
  | broadcast => exact hv.still (((Still.refl v).linkUp c).applyNotice payload)

theorem execJournalConfirm_safe (seq : Fin 8) (payload : List Word) : SafeOutcome s (execJournalConfirm seq payload s) := by
  refine Safe.outcome (.onFrame _ _ _ _ _ fun c v hv => hv.takeAddressed c _ _ _ _ fun w hw => ?_)
  split
  · exact hw.still (((Still.refl w).confirmSerial _).replyJournal)
  · exact hw.still (.replyAck _ _ (.refl w))

theorem execStatusRequest_safe (seq : Fin 8) (payload : List Word) : SafeOutcome s (execStatusRequest seq payload s) :=
  Safe.outcome (.onFrame _ _ _ _ _ fun c _ hv => hv.takeAddressed c _ _ _ _ fun w hw => hw.still (.replyStatus (.refl w)))

theorem execForward_safe (seq : Fin 8) (payload : List Word) : SafeOutcome s (execForward seq payload s) :=
  Safe.outcome (.onFrame _ _ _ _ _ fun c _ hv => hv.takeAddressed c _ _ _ _ fun w hw => hw.still (.takeForward payload (.refl w)))

theorem execUnknownKindFrame_safe (kind : Byte) (seq : Fin 8) (payload : List Word) :
    SafeOutcome s (execUnknownKindFrame kind seq payload s) := by
  refine Safe.outcome ?_
  split
  · exact .refl s
  · exact .onFrame _ _ _ _ _ fun c _ hv => hv.takeAddressed c _ _ _ _ fun w hw => hw.still (.replyJournal (.refl w))

theorem Safe.modLink (f : Link → Link) : Safe s (s.modLink f) := ((Still.refl s).modLink f).safe (.inr rfl)

theorem execReplySend_safe : SafeOutcome s (execReplySend s) := by
  refine Safe.outcome ?_
  split
  · split
    · split
      · exact .modLink _
      · exact .refl s
    all_goals exact .refl s
  · exact .refl s

/-! ### Every step -/

/-- Every command is safe. -/
theorem exec_safe (i : Instr) (s : State) : SafeOutcome s (exec i s) := by
  cases i with
  | powerOn backupKept => exact execPowerOn_safe backupKept
  | mainPowerLoss => exact execMainPowerLoss_safe
  | backupSecond => exact execBackupSecond_safe
  | hostLineReset => exact execHostLineReset_safe
  | supplyLowChange asserted => exact execSupplyLowChange_safe asserted
  | haltSecond => exact execHaltSecond_safe
  | stalenessRetest => exact execStalenessRetest_safe
  | quoteLapse slot => exact execQuoteLapse_safe slot
  | idleDeadline => exact execIdleDeadline_safe
  | dueFlash => exact execDueFlash_safe
  | noticeExpiry notice => exact execNoticeExpiry_safe notice
  | lossDeadline => exact execLossDeadline_safe
  | stuckTimeout channel => exact execStuckTimeout_safe channel
  | leaveDeadline => exact execLeaveDeadline_safe
  | handedDeadline => exact execHandedDeadline_safe
  | scrollDeadline screen => exact execScrollDeadline_safe screen
  | sampleRound counts => exact execSampleRound_safe counts
  | frameStart screen => exact execFrameStart_safe screen
  | lineStart screen => exact execLineStart_safe screen
  | fetchUrgent screen => exact execFetchUrgent_safe screen
  | samplePeriod => exact execSamplePeriod_safe
  | partCycle hostRead => exact execPartCycle_safe hostRead
  | rowBuild => exact execRowBuild_safe
  | cellRender => exact execCellRender_safe
  | hostWrite addr value lanes => exact (Safe.present (.write addr value lanes)).outcome
  | clearWord value lanes => exact (Safe.presentReport 3 value lanes).outcome
  | mask value lanes => exact (Safe.presentReport 1 value lanes).outcome
  | globalEnable value lanes => exact (Safe.presentReport 2 value lanes).outcome
  | inputReadIndex value lanes => exact (Safe.presentReport 31 value lanes).outcome
  | clockGroupRead word => exact execClockGroupRead_safe word
  | load => exact (Safe.present (.write (BitVec.ofNat 20 Config.loadWord) Code.load .both)).outcome
  | descriptorRejection => exact execDescriptorRejection_safe
  | firstAcceptance => exact execFirstAcceptance_safe
  | reloadAcceptance => exact execReloadAcceptance_safe
  | submit slot => exact execSubmit_safe slot
  | record src => exact (Safe.applyUpdate .record src).outcome
  | delete src => exact (Safe.applyUpdate .delete src).outcome
  | cancel src => exact (Safe.applyUpdate .cancel src).outcome
  | reinstate src => exact (Safe.applyUpdate .reinstate src).outcome
  | report src => exact (Safe.applyUpdate .report src).outcome
  | departed src => exact (Safe.applyUpdate .departed src).outcome
  | saleSlotPost slot code => exact execSaleSlotPost_safe slot code
  | quote => exact execQuote_safe
  | issue => exact execIssue_safe
  | commit => exact execCommit_safe
  | release => exact execRelease_safe
  | commandPost code => exact (Safe.presentReport 4 (commandWord code) .both).outcome
  | setClock => exact execSetClock_safe
  | calibrate => exact execCalibrate_safe
  | reseed => exact execReseed_safe
  | play => exact execPlay_safe
  | localNotice => exact execLocalNotice_safe
  | selectionDone => exact execSelectionDone_safe
  | journalPush => exact execJournalPush_safe
  | frameError cause => exact execFrameError_safe cause
  | frameGapExpiry gap => exact execFrameGapExpiry_safe gap
  | foreignFrame kind halt seq payload => exact execForeignFrame_safe kind halt seq payload
  | poll seq payload => exact execPoll_safe seq payload
  | update seq payload => exact execUpdate_safe seq payload
  | clock dest seq payload => exact execClock_safe dest seq payload
  | notice dest seq payload => exact execNotice_safe dest seq payload
  | journalConfirm seq payload => exact execJournalConfirm_safe seq payload
  | statusRequest seq payload => exact execStatusRequest_safe seq payload
  | forward seq payload => exact execForward_safe seq payload
  | unknownKindFrame kind seq payload => exact execUnknownKindFrame_safe kind seq payload
  | replySend => exact execReplySend_safe
  | replyEnd => exact (Safe.modLink fun k => { k with sending := none }).outcome
  | hostResetAsserted => exact execHostResetAsserted_safe

/-- Every step is safe: the command at the front, or a crystal cycle (log 2). -/
theorem step_safe (s t : State) (hstep : step s = .next t) : Safe s t := by
  unfold step at hstep
  split at hstep
  next => exact Safe.crystalCycle.outcome t hstep
  next i rest _ =>
    have hqueue : Safe s { s with pending := rest } :=
      Still.safe ⟨⟨⟨id, rfl, id, id⟩, rfl, rfl, id, .inr rfl⟩, rfl, rfl, rfl⟩ (.inr rfl)
    exact hqueue.trans (exec_safe i _ t hstep)

/-- Settles O56: only a landing writes memory, and a written word leaves the list canonical. -/
theorem memoryStaysCanonical : Obligations.MemoryStaysCanonical := fun s t hs hstep => (step_safe s t hstep).mem hs

/-- Settles O57: the arbiter grants a requester the cycle only while the host may be held, and a request enters the queue at its place,
or not at all when the queue is full or it stands there. -/
theorem hostHeldAtMostFour : Obligations.HostHeldAtMostFour :=
  ⟨fun s t hs hstep => (step_safe s t hstep).hold hs, fun s t hs hstep => (step_safe s t hstep).queue hs⟩

/-- Settles O58: the table changes by insertions in listing order, removals and replacements, each followed by the count of its DUE
entries; a change of the day lists it again, and finds it empty where no settings are in force. -/
theorem tableStaysSound : Obligations.TableStaysSound :=
  ⟨fun s t hs hstep => (step_safe s t hstep).sound hs, fun s t he hstep => (step_safe s t hstep).empty he,
    fun s t he hs hl hstep => (step_safe s t hstep).listed he hs hl, fun s t he hs hm hstep => (step_safe s t hstep).mode he hs hm⟩

/-- Settles O59: settings come in force from a descriptor without a fault, and the indices move by what lies before them in the ring. -/
theorem windowsStayFitting : Obligations.WindowsStayFitting :=
  ⟨fun s t hs hstep => (step_safe s t hstep).windows hs, fun s t hs hstep => (step_safe s t hstep).journal hs⟩

/-- Settles O60: the part at reset has no main power, no settings, an empty table and no journal. -/
theorem invariantsAtReset : Obligations.InvariantsAtReset := by
  refine ⟨rfl, ⟨Nat.zero_le 4, fun _ => rfl⟩, ⟨Nat.zero_le 48, .nil⟩, ?_, ⟨Nat.zero_le 4, .nil, .nil⟩, ⟨fun _ => ⟨rfl, rfl⟩, fun _ => rfl⟩,
    .nil, ?_, ?_⟩
  · rw [State.windowsFit_iff]
    exact ⟨nofun, nofun⟩
  · rw [State.modeBounded_iff]
    exact ⟨rfl, Activity.initial_floorKept false rfl rfl⟩
  · rw [State.journalOrdered_iff]
    exact ⟨nofun, nofun, nofun⟩

end Sys2Proof.Machine
end

section
/-! PROOFS. The step, power and resets (R30, R31, R199), the supply-low input (R139, R153), and the clock at a halt second (R27, R28). -/

namespace Sys2Proof.Machine

variable (s : State)

/-! ### The step -/

/-- Settles O1: it is the step's definition. -/
theorem stepRunsFrontCommand : Obligations.StepRunsFrontCommand := fun _ _ _ => rfl

/-- Settles O3: the state at reset, block by block. -/
theorem resetValues : Obligations.ResetValues := rfl

/-! ### Power -/

theorem State.anyDivider_lt : s.anyDivider < 32768 := Nat.mod_lt _ (by decide)

/-- Settles O4: the marker decides whether the battery domain is kept; the main domain is reset in both cases. -/
theorem powerOn : Obligations.PowerOn := by
  intro kept s hoff
  have hexec : exec (.powerOn kept) s = .next (if kept && s.bat.marker then s.powerKept else s.powerLost) := by
    change execPowerOn kept s = _
    rw [execPowerOn, hoff]
    rfl
  rw [hexec]
  refine ⟨?kept, ?lost⟩
  case kept =>
    rintro ⟨rfl, hmarker⟩
    rw [hmarker]
    rfl
  case lost =>
    intro hlost
    have hcond : (kept && s.bat.marker) = false := by rcases hlost with h | h <;> simp [h]
    rw [hcond]
    exact ⟨s.anyDivider, s.anyDivider_lt, rfl⟩

/-- One second more, as the statements have it (R28). -/
theorem Battery.advance_eq (b : Battery) : b.advance = { b with civil := b.nextCivil, day := b.nextDay } := rfl

/-- Settles O5: the power loss resets the main domain, and without main power a backup second advances C and d. -/
theorem powerLossAndBackupSecond : Obligations.PowerLossAndBackupSecond := by
  refine ⟨fun s hon => ⟨s.anyDivider, s.anyDivider_lt, ?_⟩, fun s hoff => ?_⟩
  · change execMainPowerLoss s = _
    rw [execMainPowerLoss, hon]
    rfl
  · change execBackupSecond s = _
    rw [execBackupSecond, hoff]
    rfl

/-! ### The host reset input -/

/-- Memory after a host cycle that passes unwatched (R199). -/
def HostCycle.pass (m : List Host.Cell) : HostCycle → List Host.Cell
  | .read _ => m
  | .write a v l => Memory.writeLanes m a.toNat v l

/-- While the reset input is asserted a host cycle reaches memory and the data read, nothing else. -/
theorem State.takeCycle_reset (c : HostCycle) (hreset : s.power.reset = true) :
    ∃ r, s.takeCycle c = { s with mem := c.pass s.mem, path := { s.path with readData := r } } := by
  cases c with
  | read a =>
    refine ⟨s.peek a.toNat, ?_⟩
    have hclock : s.clockWord? a.toNat = none := by rw [State.clockWord?, State.map?, hreset]; rfl
    rw [State.takeCycle, State.takeRead, hclock]
    rfl
  | write a v l =>
    refine ⟨s.path.readData, ?_⟩
    rw [State.takeCycle, State.takeWrite, hreset]
    rfl

/-- The same for the cycles that wait, in their order. -/
theorem State.takeCycles_reset (q : List HostCycle) (s : State) (hreset : s.power.reset = true) :
    ∃ r, (q = [] → r = s.path.readData) ∧
      q.foldl State.takeCycle s = { s with mem := q.foldl HostCycle.pass s.mem, path := { s.path with readData := r } } := by
  induction q generalizing s with
  | nil => exact ⟨s.path.readData, fun _ => rfl, rfl⟩
  | cons c rest ih =>
    obtain ⟨r, hr⟩ := s.takeCycle_reset c hreset
    obtain ⟨r', -, hrest⟩ := ih (s.takeCycle c) (by rw [hr]; exact hreset)
    refine ⟨r', nofun, ?_⟩
    rw [List.foldl_cons, hrest, hr]
    rfl

/-- Settles O6: the waiting cycles pass to memory unwatched, and the line reset resets every block of the main domain. -/
theorem hostReset : Obligations.HostReset := by
  refine ⟨fun s hon hreset => ?asserted, fun s hon hreset => ?released⟩
  case asserted =>
    obtain ⟨r, hr, htaken⟩ := State.takeCycles_reset s.path.waiting
      ((s.modPower fun p => { p with reset := true }).modLink fun k => { k with sending := none }) rfl
    refine ⟨r, hr, ?_⟩
    have hexec : exec .hostResetAsserted s = .next s.assertReset := by
      change execHostResetAsserted s = _
      rw [execHostResetAsserted, hon, hreset]
      rfl
    have hassert : s.assertReset = (s.path.waiting.foldl State.takeCycle
        ((s.modPower fun p => { p with reset := true }).modLink fun k => { k with sending := none })).modPath
          fun p => { p with waiting := [], hold := 0 } := rfl
    rw [hexec, hassert, htaken]
    rfl
  case released =>
    change execHostLineReset s = _
    rw [execHostLineReset, hon, hreset]
    rfl

/-! ### The supply-low input (R139, R153) -/

/-- From ACTIVE to QUIET the composer and the panel unit keep all they have (R128, R140). -/
theorem State.setQuiet_of_active (hmode : s.act.mode = .active) :
    s.setMode .quiet = { s with
      act := { s.act with mode := .quiet }
      ann := { s.ann with volume := match s.cfg with | some c => c.ann.volQuiet | none => 16 } } := by
  unfold State.setMode
  have hvolume : volumeOf s.cfg .quiet = match s.cfg with | some c => c.ann.volQuiet | none => 16 := by
    cases s.cfg <;> rfl
  rw [hmode, if_neg nofun, ← hvolume]
  rfl

/-- An assertion takes ACTIVE down to QUIET, with the dormant step time ahead (R139). -/
theorem State.supplyMode_of_active (hmode : s.act.mode = .active) :
    s.supplyMode true = { s with
      act := { s.act with supplyLow := true, mode := .quiet, deadline := s.cfg.map fun c => s.clk.upSec + c.times.dormant }
      ann := { s.ann with volume := match s.cfg with | some c => c.ann.volQuiet | none => 16 } } := by
  have hquiet := (s.modAct fun a => { a with supplyLow := true }).setQuiet_of_active hmode
  have hstep : s.supplyMode true = ((s.modAct fun a => { a with supplyLow := true }).setMode .quiet).setDeadline s.dormantAhead :=
    if_pos (by simp [hmode])
  rw [hstep, hquiet]
  rfl

/-- In the other modes an assertion is only recorded (R139). -/
theorem State.supplyMode_of_not_active (hmode : s.act.mode ≠ .active) :
    s.supplyMode true = { s with act := { s.act with supplyLow := true } } :=
  if_neg (by simp [hmode])

/-- An input that does not change, or changes without main power or under reset, only moves (log 46). -/
theorem exec_supplyLowChange_idle (level : Bool) (h : s.power.supplyLow = level ∨ s.power.reset = true ∨ s.power.main = false) :
    exec (.supplyLowChange level) s = .next (s.driveSupply level) := by
  have hcond : s.power.supplyLow = level ∨ s.power.reset = true ∨ ¬ s.power.main = true := by simpa using h
  change execSupplyLowChange level s = _
  rw [execSupplyLowChange]
  dsimp only
  rw [if_pos hcond]

theorem exec_supplyLowChange_taken (level : Bool) (hon : s.power.main = true) (hreset : s.power.reset = false)
    (hlevel : s.power.supplyLow ≠ level) :
    exec (.supplyLowChange level) s = .next (((s.driveSupply level).supplyMode level).annSupply level) := by
  have hcond : ¬ (s.power.supplyLow = level ∨ s.power.reset = true ∨ ¬ s.power.main = true) := by simp [hon, hreset, hlevel]
  change execSupplyLowChange level s = _
  rw [execSupplyLowChange]
  dsimp only
  rw [if_neg hcond]

/-- Settles O7: an assertion reaches the controller and then the announcer, a release the records of the input alone. -/
theorem supplyLowChange : Obligations.SupplyLowChange := by
  intro s
  refine ⟨fun hon hreset hlow => ?asserted, fun hon hreset hlow => ?released, fun level h => ?idle⟩
  case asserted =>
    rw [exec_supplyLowChange_taken s true hon hreset (by rw [hlow]; exact nofun)]
    by_cases hmode : s.act.mode = .active
    · have hmoded : (s.driveSupply true).supplyMode true = { s with
          power := { s.power with supplyLow := true }
          act := { s.act with supplyLow := true, mode := .quiet, deadline := s.cfg.map fun c => s.clk.upSec + c.times.dormant }
          ann := { s.ann with volume := match s.cfg with | some c => c.ann.volQuiet | none => 16 } } := by
        rw [(s.driveSupply true).supplyMode_of_active hmode]
        rfl
      rw [hmoded, if_pos hmode, if_pos hmode]
      rfl
    · have hmoded : (s.driveSupply true).supplyMode true = { s with
          power := { s.power with supplyLow := true }, act := { s.act with supplyLow := true } } := by
        rw [(s.driveSupply true).supplyMode_of_not_active hmode]
        rfl
      rw [hmoded, if_neg hmode, if_neg hmode]
      rfl
  case released =>
    rw [exec_supplyLowChange_taken s false hon hreset (by rw [hlow]; exact nofun)]
    rfl
  case idle => exact exec_supplyLowChange_idle s level h

/-! ### The halt second (R27, R28) -/

theorem exec_haltSecond (hon : s.power.main = true) : exec .haltSecond s = .next s.takeHalt := by
  change execHaltSecond s = _
  rw [execHaltSecond, if_pos hon]

/-- The halt clock as a wrap leaves it, in the words of the statement (R27). -/
theorem HaltClock.wrap_eq (k : HaltClock) :
    k.wrap = { k with
      prescaler := if 0 < k.slew then 2048 else 0
      hold := if k.slew < 0 then 2048 else 0
      slew := if 0 < k.slew then k.slew - 1 else if k.slew < 0 then k.slew + 1 else 0
      early := none } := by
  rcases Int.lt_trichotomy k.slew 0 with h | h | h
  · simp [HaltClock.wrap, h, Int.not_lt.mpr (Int.le_of_lt h)]
  · simp [HaltClock.wrap, h]

  · simp [HaltClock.wrap, h, Int.not_lt.mpr (Int.le_of_lt h)]

/-- The same change of the halt clock on both sides of a change within what the table reaches. -/
theorem Inner.modClk_both {t u : State} (f : HaltClock → HaltClock) (h : Inner t u) : Inner (t.modClk f) (u.modClk f) :=
  ⟨h.pending, h.mem, h.power, h.bat, congrArg f h.clk, h.cfg, h.intake, h.scrA, h.scrB, h.link, h.path, h.loader, h.rep⟩

/-- A halt second counts, and then only what the departure table reaches can change (R28). -/
theorem State.haltTick_inner : Inner ((s.modBat Battery.advance).modClk HaltClock.wrap) s.haltTick := by
  have hstart := Inner.refl ((s.modBat Battery.advance).modClk HaltClock.wrap)
  unfold State.haltTick
  dsimp only
  generalize (s.modBat Battery.advance).modClk HaltClock.wrap = u at hstart ⊢
  split
  next => exact hstart
  next c _ =>
    have hrolled : Inner u (if s.bat.rolls then u.rollTable else u) := by
      split
      · exact hstart.rollTable
      · exact hstart
    generalize (if s.bat.rolls then u.rollTable else u) = v at hrolled ⊢
    have hmarked : Inner u (if v.bat.civil % 60 = 0 then v.markBoth [0] else v) := by
      split
      · exact hrolled.markBoth _
      · exact hrolled
    generalize (if v.bat.civil % 60 = 0 then v.markBoth [0] else v) = w at hmarked ⊢
    split
    · exact (hmarked.evalPass c).markDepartures
    · exact hmarked.evalPass c

/-- A halt second as it is taken counts at the uptime it has, or at the second before (R47; log 3). -/
theorem State.takeHalt_inner : Inner ((s.modBat Battery.advance).modClk HaltClock.wrap) s.takeHalt := by
  unfold State.takeHalt
  split
  next => exact s.haltTick_inner
  next sec _ =>
    have hback := (State.haltTick_inner (s.modClk (·.backTo sec))).modClk_both (·.uptimeOf s.clk)
    have hclock : (((s.modClk (·.backTo sec)).modBat Battery.advance).modClk HaltClock.wrap).modClk (·.uptimeOf s.clk) =
        (s.modBat Battery.advance).modClk HaltClock.wrap := by
      unfold State.modClk State.modBat
      dsimp only
      rw [HaltClock.wrap_eq, HaltClock.wrap_eq]
      rfl
    rwa [hclock] at hback

/-- Before the first acceptance a halt second only counts. -/
theorem State.takeHalt_unconfigured (hcfg : s.cfg = none) : s.takeHalt = (s.modBat Battery.advance).modClk HaltClock.wrap := by
  unfold State.takeHalt
  split
  next => exact s.haltTick_unconfigured hcfg
  next sec _ =>
    rw [State.haltTick_unconfigured (s.modClk (·.backTo sec)) hcfg]
    unfold State.modClk State.modBat
    dsimp only
    rw [HaltClock.wrap_eq, HaltClock.wrap_eq]
    rfl

/-- Settles O8: the halt second counts first, and all that follows is the departure table's. -/
theorem haltSecondAdvancesTheClock : Obligations.HaltSecondAdvancesTheClock := by
  intro s hon
  have hinner := s.takeHalt_inner
  have hbat : s.takeHalt.bat = { s.bat with civil := s.bat.nextCivil, day := s.bat.nextDay } := hinner.bat
  have hclk : s.takeHalt.clk = s.clk.wrap := hinner.clk
  refine ⟨s.takeHalt, exec_haltSecond s hon, hbat, hclk.trans s.clk.wrap_eq, ?_, fun hcfg => ?_⟩
  · rw [hbat, hclk]
    exact hinner
  · rw [hbat, hclk]
    exact s.takeHalt_unconfigured hcfg

end Sys2Proof.Machine
end

section
/-! PROOFS. What falls due at an uptime second or a sub-tick (R47, R71, R93, R106, R107, R118, R121, R125, R137, R159). -/

namespace Sys2Proof.Machine

variable (s : State)

/-! ### The staleness re-test (R47) -/

theorem Entry.goesStale_iff (e : Entry) (b : Battery) (p : ProjParams) (now : Nat) :
    e.goesStale b p now = true ↔
      ∃ r, e.report = some r ∧ b.clock = .set ∧ p.stale < now - r.arrival ∧ e.timeliness ≠ .stale := by
  unfold Entry.goesStale
  cases e.report with
  | none => simp
  | some r =>
    simp [and_assoc]
    exact fun _ _ => Iff.rfl

/-- An entry after the re-test is STALE when its report is over age while the clock is SET, and else as it was. -/
theorem Entry.retested_eq (e : Entry) (b : Battery) (p : ProjParams) (now : Nat) :
    e.retested b p now =
      match e.report with
      | some r => if b.clock = .set ∧ p.stale < now - r.arrival then { e with timeliness := .stale } else e
      | none => e := by
  unfold Entry.retested
  cases hreport : e.report with
  | none => rw [if_neg (by simp [e.goesStale_iff, hreport])]
  | some r =>
    dsimp only
    by_cases hover : b.clock = .set ∧ p.stale < now - r.arrival
    · rw [if_pos hover]
      by_cases hstale : e.timeliness = .stale
      · rw [if_neg (by simp [e.goesStale_iff, hstale])]
        cases e
        simp_all
      · rw [if_pos ((e.goesStale_iff b p now).mpr ⟨r, hreport, hover.1, hover.2, hstale⟩)]
    · rw [if_neg hover, if_neg]
      rintro h
      obtain ⟨r', hr', hset, hage, -⟩ := (e.goesStale_iff b p now).mp h
      cases hreport.symm.trans hr'
      exact hover ⟨hset, hage⟩

/-- The table after the re-test (R47). -/
theorem State.retestStale_table (c : Settings) :
    (s.retestStale c).table = s.table.map (Entry.retested s.bat c.proj s.nowSec) := by
  unfold State.retestStale
  split
  next =>
    rw [(Still.recomputeList (.refl _)).table, (Still.markDepartures (.refl _)).table]
    rfl
  next hany =>
    have hnone : ∀ e ∈ s.table, e.goesStale s.bat c.proj s.nowSec = false := by simpa using hany
    exact ((List.map_congr_left fun e he => if_neg (Bool.eq_false_iff.mp (hnone e he))).trans s.table.map_id).symm

/-- Settles O10: the re-test changes the timeliness of the entries over age, and what follows is within what the table reaches. -/
theorem stalenessRetest : Obligations.StalenessRetest := by
  intro s c hcfg
  have hexec : exec .stalenessRetest s = .next (s.retestStale c) := by
    change execStalenessRetest s = _
    rw [execStalenessRetest, hcfg]
  refine ⟨_, hexec, .retestStale c (.refl s), ?_⟩
  rw [s.retestStale_table c]
  exact List.map_congr_left fun e _ => e.retested_eq s.bat c.proj s.nowSec

/-! ### The lapse of a quote (R71) -/

theorem State.lapses_iff (slot : Nat) (q : Quote) (hrec : s.issue.records.getD slot .empty = .live q) :
    s.lapses slot = true ↔ s.path.sale.getD slot .clear = .clear ∧ q.expiry ≤ s.clk.upSec := by
  unfold State.lapses IssueUnit.record State.saleIdle
  rw [hrec]
  simp
  exact fun _ => Iff.rfl

/-- A voided quote of an idle slot: its record, the reason word and EXPIRED (R71, R73). -/
theorem State.voidSlot_idle (c : Settings) (slot : Nat) (q : Quote) (why : VoidReason) (hcfg : s.cfg = some c)
    (hrec : s.issue.records.getD slot .empty = .live q) (hidle : s.path.sale.getD slot .clear = .clear) :
    s.voidSlot slot why = { s with issue := { s.issue with
      records := s.issue.records.set slot (.voided q why), accs := s.issue.accs ++ expiredWrites c.win slot why } } := by
  unfold State.voidSlot IssueUnit.record
  rw [hcfg, hrec]
  have hsale : (s.setRecord slot (.voided q why)).saleIdle slot = true := by
    change (s.path.sale.getD slot .clear == .clear) = true
    rw [hidle]
    rfl
  dsimp only
  rw [if_pos hsale, ← hcfg]
  rfl

/-- Settles O11: the lapse voids just a live quote of an idle slot that has expired. -/
theorem quoteLapse : Obligations.QuoteLapse := by
  intro s c slot q hcfg hrec
  have hlapses := s.lapses_iff slot.val q hrec
  refine ⟨fun hdue => ?_, fun hnot => ?_⟩
  · change execQuoteLapse slot s = _
    rw [execQuoteLapse, if_pos (hlapses.mpr hdue), s.voidSlot_idle c slot.val q .none hcfg hrec hdue.1]
    rfl
  · change execQuoteLapse slot s = _
    have hstands : ¬ s.lapses slot.val = true := by
      rw [hlapses]
      rintro ⟨hidle, hexpired⟩
      exact hnot.elim (absurd hidle) (by omega)
    rw [execQuoteLapse, if_neg hstands]

/-! ### The idle deadline (R137) -/

theorem exec_idleDeadline_early (d : Nat) (hd : s.act.deadline = some d) (hearly : s.clk.upSec < d) :
    exec .idleDeadline s = .next s := by
  change execIdleDeadline s = _
  rw [execIdleDeadline, hd, s.reached_some, if_neg (by simpa using hearly)]

theorem exec_idleDeadline_reached (d : Nat) (hd : s.act.deadline = some d) (hreached : d ≤ s.clk.upSec) :
    exec .idleDeadline s = .next s.idleStep := by
  change execIdleDeadline s = _
  rw [execIdleDeadline, hd, s.reached_some, if_pos (by simpa using hreached)]

/-- A strip whose scroll is stopped stands at its start (R125). -/
theorem TextScreen.stopScroll_spec (t : TextScreen) :
    t.stopScroll.scrollAt = none ∧ (32 < t.strip.length → t.stopScroll.offset = 0) ∧ t.stopScroll.marks = t.marks ∧
    t.stopScroll.strip = t.strip := by
  unfold TextScreen.stopScroll
  split
  next => exact ⟨rfl, fun _ => rfl, rfl, rfl⟩
  next hstands =>
    refine ⟨rfl, fun hlong => ?_, rfl, rfl⟩
    refine Classical.byContradiction fun hoffset => ?_
    exact hstands (by simpa [scrolls, hlong] using hoffset)

/-- The change to DORMANT stops the scrolls and numbers the rounds from 0 (R87, R125, R140). -/
theorem State.setDormant (hmode : s.act.mode ≠ .dormant) :
    s.setMode .dormant = { s with
      act := { s.act with mode := .dormant }
      ann := { s.ann with volume := match s.cfg with | some c => c.ann.volDormant | none => 16 }
      panel := { s.panel with roundNo := 0 }
      board := { s.board with a := s.board.a.stopScroll, b := s.board.b.stopScroll } } := by
  have hvolume : volumeOf s.cfg .dormant = match s.cfg with | some c => c.ann.volDormant | none => 16 := by
    cases s.cfg <;> rfl
  unfold State.setMode
  rw [if_neg hmode, ← hvolume]
  rfl

/-- Settles O12: the step down, mode by mode. -/
theorem idleDeadline : Obligations.IdleDeadline := by
  intro s d hd
  refine ⟨exec_idleDeadline_early s d hd, fun hreached => ?_⟩
  rw [exec_idleDeadline_reached s d hd hreached]
  refine ⟨fun hmode => ?active, fun hmode hfloor => ?held, fun hmode hfloor => ?down, fun hmode => ?dormant⟩
  case active =>
    unfold State.idleStep
    rw [hmode]
    dsimp only
    rw [s.setQuiet_of_active hmode]
    rfl
  case held =>
    unfold State.idleStep
    rw [hmode]
    dsimp only
    rw [if_pos hfloor]
    rfl
  case down =>
    obtain ⟨haAt, haOffset, haMarks, haStrip⟩ := s.board.a.stopScroll_spec
    obtain ⟨hbAt, hbOffset, hbMarks, hbStrip⟩ := s.board.b.stopScroll_spec
    refine ⟨s.board.a.stopScroll, s.board.b.stopScroll, ?_, haAt, hbAt, haOffset, hbOffset, haMarks, haStrip, hbMarks, hbStrip⟩
    unfold State.idleStep
    rw [hmode]
    dsimp only
    rw [if_neg (by simp [hfloor]), s.setDormant (by rw [hmode]; exact nofun)]
    rfl
  case dormant =>
    unfold State.idleStep
    rw [hmode]
    rfl

/-! ### Notices (R121) -/

/-- A notice that stands is taken away, and row 4 is marked (R121). -/
theorem State.setLineNotice_none (n : Notice) (h : s.board.lineNotice = some n) :
    s.setLineNotice none = { s with board := s.noticesMarked { s.board with lineNotice := none } } := by
  unfold State.setLineNotice
  rw [if_neg (by rw [h]; exact nofun), State.markNotices_eq]
  rfl

theorem State.setOwnNotice_none (n : Notice) (h : s.board.ownNotice = some n) :
    s.setOwnNotice none = { s with board := s.noticesMarked { s.board with ownNotice := none } } := by
  unfold State.setOwnNotice
  rw [if_neg (by rw [h]; exact nofun), State.markNotices_eq]
  rfl

/-- Settles O14. -/
theorem noticeExpiry : Obligations.NoticeExpiry := by
  intro s n
  refine ⟨fun h => ⟨fun hover => ?_, fun hearly => ?_⟩, fun h => ⟨fun hover => ?_, fun hearly => ?_⟩⟩
  · change execNoticeExpiry .line s = _
    have hdue : noticeOver s.nowSec s.board.lineNotice = true := by rw [h]; exact decide_eq_true hover
    rw [execNoticeExpiry, ← s.setLineNotice_none n h, if_pos hdue]
  · change execNoticeExpiry .line s = _
    have hdue : ¬ noticeOver s.nowSec s.board.lineNotice = true := by
      rw [h]
      exact fun hdue => absurd (of_decide_eq_true hdue) (Nat.not_le.mpr hearly)
    rw [execNoticeExpiry, if_neg hdue]
  · change execNoticeExpiry .own s = _
    have hdue : noticeOver s.nowSec s.board.ownNotice = true := by rw [h]; exact decide_eq_true hover
    rw [execNoticeExpiry, ← s.setOwnNotice_none n h, if_pos hdue]
  · change execNoticeExpiry .own s = _
    have hdue : ¬ noticeOver s.nowSec s.board.ownNotice = true := by
      rw [h]
      exact fun hdue => absurd (of_decide_eq_true hdue) (Nat.not_le.mpr hearly)
    rw [execNoticeExpiry, if_neg hdue]

/-! ### The loss deadline (R81, R159) -/

/-- The place of a journal entry's word (R203). -/
theorem Geometry.entryWord_eq (g : Geometry) (i k : Nat) : g.entryWord i k = g.base + 16 + 14 * (i % g.size) + k := rfl

theorem State.revertSent_none (hg : s.bat.geometry = none) : s.revertSent = s := by
  unfold State.revertSent
  rw [hg]

/-- The entries from the confirm index up to the send index are to be rewritten UNSENT (R81). -/
theorem State.revertSent_some (g : Geometry) (hg : s.bat.geometry = some g) :
    s.revertSent = { s with
      bat := { s.bat with send := s.bat.confirm }
      issue := { s.issue with accs := s.issue.accs ++
        (List.range ((s.bat.send + 2 * g.size - s.bat.confirm) % (2 * g.size))).map fun k =>
          ⟨g.base + 16 + 14 * ((s.bat.confirm + k) % (2 * g.size) % g.size) + 13, Code.unsent, .plain⟩ } } := by
  unfold State.revertSent
  split
  next g' hg' =>
    cases hg.symm.trans hg'
    unfold State.writeStates Geometry.indices
    rw [List.map_map]
    rfl
  next hnone => cases hg.symm.trans hnone

/-- Settles O15: the link's fields at LOST, and the revert of the entries sent. -/
theorem lossDeadline : Obligations.LossDeadline := by
  intro s d hd
  refine ⟨fun hearly => ?early, fun hreached => ?reached⟩
  case early =>
    change execLossDeadline s = _
    rw [execLossDeadline, hd, s.reached_some, if_neg (by simpa using hearly)]
  case reached =>
    change execLossDeadline s = _
    rw [execLossDeadline, hd, s.reached_some, if_pos (by simpa using hreached)]
    unfold State.linkLost
    cases hg : s.bat.geometry with
    | none =>
      rw [State.revertSent_none ((s.modLink _).raise .link) hg]
      dsimp only [Option.isSome_none]
      rw [List.append_nil]
      rfl
    | some g =>
      rw [State.revertSent_some ((s.modLink _).raise .link) g hg]
      rfl

/-! ### Flashing rows (R118) -/

theorem State.rowFlashes_congr (x y : TextScreen) (row : Nat) (h : y.entries = x.entries) : s.rowFlashes y row = s.rowFlashes x row := by
  unfold State.rowFlashes
  rw [h]

/-- One row of a screen recoloured, when its entry flashes. -/
def State.flashRow (s : State) (k : Colours) (t : TextScreen) (row : Nat) : TextScreen :=
  if s.rowFlashes t row then t.setRow row fun cells => cells.map (·.recolour (flashFg s.nowSec (k.row row).1 k.alert)) else t

/-- A cell after each cell of a row of the cache has been changed by itself. -/
theorem TextScreen.getElem?_setRow_map (t : TextScreen) (row : Nat) (f : Cell → Cell) (i : Nat) :
    (t.setRow row (List.map f)).cells[i]? = if i / 32 = row then (t.cells[i]?).map f else t.cells[i]? := by
  have htake : t.setRow row (List.map f) = t.setRow row fun l => (l.take 32).map f := by
    unfold TextScreen.setRow
    simp only [List.take_take, Nat.min_self]
  rw [htake, t.getElem?_setRow row _ (by intro l; simp [Nat.min_comm])]
  split
  next hrow =>
    have hplace : 32 * row + i % 32 = i := hrow ▸ Nat.div_add_mod i 32
    simp only [List.take_take, Nat.min_self, List.getElem?_map, List.getElem?_take, Nat.mod_lt i (show 32 > 0 by omega), if_true,
      List.getElem?_drop, hplace]
  next => rfl

/-- The recoloured row has its cells recoloured, and nothing else of the screen changes. -/
theorem State.flashRow_spec (k : Colours) (t : TextScreen) (row : Nat) :
    s.flashRow k t row = { t with cells := (s.flashRow k t row).cells } ∧
    ∀ i, (s.flashRow k t row).cells[i]? = (t.cells[i]?).map fun cell =>
      if i / 32 = row ∧ s.rowFlashes t row = true then cell.recolour (flashFg s.nowSec (k.row row).1 k.alert) else cell := by
  unfold State.flashRow
  split
  next hflash =>
    refine ⟨rfl, fun i => ?_⟩
    rw [t.getElem?_setRow_map]
    by_cases hrow : i / 32 = row <;> simp [hrow, hflash]
  next hflash =>
    refine ⟨rfl, fun i => ?_⟩
    simp [hflash]

/-- The three departure rows are recoloured one after another, each by the entry recorded at its last build. -/
theorem State.flashScreen_spec (k : Colours) (t : TextScreen) :
    s.flashScreen k t = { t with cells := (s.flashScreen k t).cells } ∧
    ∀ i, (s.flashScreen k t).cells[i]? = (t.cells[i]?).map fun cell =>
      if 1 ≤ i / 32 ∧ i / 32 ≤ 3 ∧ s.rowFlashes t (i / 32) = true then
        cell.recolour (flashFg s.nowSec (k.row (i / 32)).1 k.alert) else cell := by
  obtain ⟨h1, c1⟩ := s.flashRow_spec k t 1
  obtain ⟨h2, c2⟩ := s.flashRow_spec k (s.flashRow k t 1) 2
  obtain ⟨h3, c3⟩ := s.flashRow_spec k (s.flashRow k (s.flashRow k t 1) 2) 3
  have hfold : s.flashScreen k t = s.flashRow k (s.flashRow k (s.flashRow k t 1) 2) 3 := rfl
  have e1 : (s.flashRow k t 1).entries = t.entries := by rw [h1]
  have e2 : (s.flashRow k (s.flashRow k t 1) 2).entries = t.entries := by rw [h2]; exact e1
  rw [hfold]
  refine ⟨by rw [h3, h2, h1], fun i => ?_⟩
  rw [c3, c2, c1, s.rowFlashes_congr t _ 2 e1, s.rowFlashes_congr t _ 3 e2]
  cases t.cells[i]? with
  | none => rfl
  | some cell =>
    simp only [Option.map_some, Option.some.injEq]
    have hrow : i / 32 = 0 ∨ i / 32 = 1 ∨ i / 32 = 2 ∨ i / 32 = 3 ∨ 4 ≤ i / 32 := by omega
    rcases hrow with h | h | h | h | h
    · simp [h]
    · simp [h]
    · simp [h]
    · simp [h]
    · rw [if_neg (by omega), if_neg (by omega), if_neg (by omega), if_neg (by omega)]

/-- Settles O13. -/
theorem dueFlash : Obligations.DueFlash := by
  intro s c hcfg
  obtain ⟨ha, hcellsA⟩ := s.flashScreen_spec c.scr.colA s.board.a
  obtain ⟨hb, hcellsB⟩ := s.flashScreen_spec c.scr.colB s.board.b
  have hexec : exec .dueFlash s = .next
      (s.modBoard fun b => { b with a := s.flashScreen c.scr.colA b.a, b := s.flashScreen c.scr.colB b.b }) := by
    change execDueFlash s = _
    rw [execDueFlash, hcfg]
  refine ⟨_, _, ?_, hcellsA, hcellsB⟩
  rw [hexec, ← ha, ← hb]
  rfl

/-! ### Stuck channels (R93) -/

theorem State.chan_of_getElem? (ch : Nat) (x : Channel) (h : s.panel.chans[ch]? = some x) : s.chan ch = x := by
  rw [State.chan, List.getD_eq_getElem?_getD, h]
  rfl

theorem State.setChan_chans (ch : Nat) (x : Channel) : (s.setChan ch x).panel.chans = s.panel.chans.set ch x := rfl

/-- An ABSENCE brings the selection nothing (R102 to R106). -/
theorem State.selEvent_absence : s.selEvent .absence = s := by
  unfold State.selEvent
  split
  · rfl
  · split <;> rfl

theorem State.stuck_iff (p : PanelParams) (ch : Nat) (x : Channel) (t : Nat) (hx : s.panel.chans[ch]? = some x) (hactive : x.state = .active)
    (honset : x.onset = some t) : s.stuck p ch = true ↔ p.stuck ≠ 255 ∧ t + 1024 * p.stuck < s.clk.upSec * 1024 + s.clk.upSub := by
  unfold State.stuck
  dsimp only
  rw [s.chan_of_getElem? ch x hx, hactive, honset]
  simp
  exact fun _ => Iff.rfl

/-- A reseed puts one channel in place: reseeded, or sent to calibration (R92). -/
theorem State.reseedChan_eq (p : PanelParams) (ch : Nat) :
    s.reseedChan p ch = s.setChan ch
      (if inBand p.target ((s.chan ch).filtered.tdiv 16) then (s.chan ch).reseeded else (s.chan ch).reseeded.calibrating) := rfl

/-- The end of WET changes the panel's channels 1 to 6 only (R95). -/
theorem State.wetEnd_chans (p : PanelParams) (k : Nat) (hk : k = 0 ∨ 7 ≤ k) :
    (s.wetEnd p).panel.chans[k]? = s.panel.chans[k]? := by
  have hfold : ∀ (l : List Nat) (t : State), (∀ ch ∈ l, ch ≠ k) →
      (l.foldl (fun s ch => if (s.chan ch).state = .idle then s.reseedChan p ch else s) t).panel.chans[k]? = t.panel.chans[k]? := by
    intro l
    induction l with
    | nil => exact fun _ _ => rfl
    | cons ch rest ih =>
      intro t hne
      rw [List.foldl_cons, ih _ fun x hx => hne x (List.mem_cons_of_mem _ hx)]
      split
      · rw [State.reseedChan_eq, State.setChan_chans, List.getElem?_set_ne (hne ch List.mem_cons_self)]
      · rfl
  unfold State.wetEnd
  refine hfold [1, 2, 3, 4, 5, 6] s fun ch hch => ?_
  simp only [List.mem_cons, List.not_mem_nil, or_false] at hch
  omega

/-- A release puts the channel in place out of ACTIVE; the rain reference's goes on to channels 1 to 6 (R92, R93, R95). -/
theorem State.releaseChan_chans (p : PanelParams) (ch k : Nat) (hk : ch ≠ 7 ∨ k = 7) :
    (s.releaseChan p ch).panel.chans[k]? = (s.panel.chans.set ch (s.chan ch).released)[k]? := by
  unfold State.releaseChan
  dsimp only
  split
  next => rw [State.selEvent_absence, State.setChan_chans]
  split
  next h7 =>
    rw [State.wetEnd_chans _ _ _ (by omega), State.setChan_chans]
  split
  · rfl
  · rfl

theorem State.syncLeave_panel (entered : Bool) : (s.syncLeave entered).panel = s.panel := by
  unfold State.syncLeave
  repeat' split
  all_goals rfl

theorem State.syncLeave_rep (entered : Bool) : (s.syncLeave entered).rep = s.rep := by
  unfold State.syncLeave
  repeat' split
  all_goals rfl

theorem State.setChan_rep (ch : Nat) (x : Channel) : (s.setChan ch x).rep = s.rep := rfl

theorem State.wetEnd_rep (p : PanelParams) : (s.wetEnd p).rep = s.rep := by
  have hfold : ∀ (l : List Nat) (t : State),
      (l.foldl (fun s ch => if (s.chan ch).state = .idle then s.reseedChan p ch else s) t).rep = t.rep := by
    intro l
    induction l with
    | nil => exact fun _ => rfl
    | cons ch rest ih =>
      intro t
      rw [List.foldl_cons, ih]
      split <;> rfl
  exact hfold _ s

theorem State.releaseChan_rep (p : PanelParams) (ch : Nat) : (s.releaseChan p ch).rep = s.rep := by
  unfold State.releaseChan
  dsimp only
  split
  next => rw [State.selEvent_absence, State.setChan_rep]
  split
  next => rw [State.wetEnd_rep, State.setChan_rep]
  split
  · rfl
  · rfl

/-- Settles O16: the release and the reseed of one channel, and the rain reference's effect on the others. -/
theorem stuckTimeout : Obligations.StuckTimeout := by
  intro s c ch x t hcfg hx hactive honset
  have hstuck := s.stuck_iff c.panel ch.val x t hx hactive honset
  refine ⟨fun hover => ?released, fun hnot => ?stands⟩
  case stands =>
    change execStuckTimeout ch s = _
    rw [execStuckTimeout, hcfg]
    dsimp only
    rw [if_neg]
    rw [hstuck]
    omega
  case released =>
    have hexec : exec (.stuckTimeout ch) s = .next (s.releaseStuck c ch.val) := by
      change execStuckTimeout ch s = _
      rw [execStuckTimeout, hcfg]
      dsimp only
      rw [if_pos (hstuck.mpr hover)]
    have hlt : ch.val < s.panel.chans.length := (List.getElem?_eq_some_iff.mp hx).1
    have hchans : (s.releaseStuck c ch.val).panel.chans = ((s.releaseChan c.panel ch.val).reseedChan c.panel ch.val).panel.chans := by
      rw [State.releaseStuck, State.syncLeave_panel]
      rfl
    refine ⟨_, hexec, .releaseStuck c ch.val (.refl s), ?_, ?_, fun h7 k hk => ?_⟩
    · rw [State.releaseStuck, State.syncLeave_rep, State.panelFault_eq, State.reseedChan_eq, State.setChan_rep, State.releaseChan_rep]
    · have hreleased : (s.releaseChan c.panel ch.val).panel.chans[ch.val]? = some x.released := by
        rw [s.releaseChan_chans c.panel ch.val ch.val (by omega), List.getElem?_set_self hlt, s.chan_of_getElem? ch.val x hx]
      have hlt' : ch.val < (s.releaseChan c.panel ch.val).panel.chans.length := (List.getElem?_eq_some_iff.mp hreleased).1
      rw [hchans, State.reseedChan_eq, State.setChan_chans, List.getElem?_set_self hlt', State.chan_of_getElem? _ _ _ hreleased]
      have hin : inBand c.panel.target (x.released.filtered.tdiv 16) =
        decide ((x.filtered.tdiv 16 - c.panel.target).natAbs ≤ c.panel.target / 8) := rfl
      rw [hin]
      by_cases hband : (x.filtered.tdiv 16 - c.panel.target).natAbs ≤ c.panel.target / 8
      · rw [if_pos hband, if_pos (decide_eq_true hband)]
        rfl
      · rw [if_neg hband, if_neg (fun h => hband (of_decide_eq_true h))]
        rfl
    · rw [hchans, State.reseedChan_eq, State.setChan_chans, List.getElem?_set_ne (Ne.symm hk),
        s.releaseChan_chans c.panel ch.val k (.inl h7), List.getElem?_set_ne (Ne.symm hk)]

/-! ### The selection's deadlines (R106, R107) -/

/-- A second mark of row 4 changes nothing more. -/
theorem TextScreen.marked_four (t : TextScreen) : (t.marked [1, 2, 3, 4]).marked [4] = t.marked [1, 2, 3, 4] := by
  simp [TextScreen.marked, List.set_set]

/-- A return to IDLE marks rows 1 to 4 of screen A, and is no activity event (R101). -/
theorem State.setSel_toIdle (new : Selection) (hidle : new.state = .idle) (hleave : new.leave = none) (hold : s.sel.state ≠ .idle) :
    s.setSel new = { s with sel := new, board := s.selectionMarked } := by
  have hsync : (s.modSel fun _ => new).syncLeave (s.sel.state != new.state) = s.modSel fun _ => new := by
    rcases Option.eq_none_or_eq_some s.cfg with hcfg | ⟨c, hcfg⟩
    · unfold State.syncLeave
      rw [State.modSel_cfg, hcfg]
    · have hcfg' : (s.modSel fun _ => new).cfg = some c := hcfg
      have hstate : ¬ (s.modSel fun _ => new).sel.state.leavable := by
        change ¬ new.state.leavable
        rw [hidle]
        simp [SelState.leavable]
      rw [State.syncLeave_none (s.sel.state != new.state) hcfg' (.inr hstate)]
      change s.modSel (fun _ => { new with leave := none }) = _
      rw [← hleave]
  have hshow : s.sel.sameShow new = false := by
    unfold Selection.sameShow
    rw [hidle]
    simp [hold]
  unfold State.setSel
  dsimp only
  rw [hsync, hshow, if_neg Bool.false_ne_true, if_pos hidle]
  rcases Option.eq_none_or_eq_some s.cfg with hcfg | ⟨c, hcfg⟩
  · have hnone : ∀ rows, (s.modSel fun _ => new).markRows .a rows = s.modSel fun _ => new := fun rows =>
      State.markRows_none _ _ rows hcfg
    have hboard : s.selectionMarked = s.board := if_neg (by rw [hcfg]; exact Bool.false_ne_true)
    rw [hnone, hboard, State.fareEvent, hnone, ite_self]
    rfl
  · have hsome : ∀ (u : State) rows, u.cfg = some c → u.markRows .a rows = u.modBoard fun b => { b with a := b.a.marked rows } :=
      fun u rows hu => State.markRows_some u .a rows c hu
    have hboard : s.selectionMarked = { s.board with a := s.board.a.marked [1, 2, 3, 4] } := if_pos (by rw [hcfg]; rfl)
    rw [hsome (s.modSel _) _ hcfg, hboard, State.fareEvent, hsome ((s.modSel _).modBoard _) _ hcfg]
    split
    · rfl
    · unfold State.modBoard State.modSel
      dsimp only
      rw [TextScreen.marked_four]

theorem exec_leaveDeadline (d : Nat) (hd : s.sel.leave = some d) :
    exec .leaveDeadline s = .next (if d ≤ s.clk.upSec then s.selLeave else s) := by
  change execLeaveDeadline s = _
  rw [execLeaveDeadline, hd, s.reached_some]
  simp only [decide_eq_true_eq]

theorem exec_handedDeadline (d : Nat) (hd : s.sel.handed = some d) :
    exec .handedDeadline s = .next (if s.sel.state = .handed ∧ d ≤ s.clk.upSec then s.selTimeout else s) := by
  change execHandedDeadline s = _
  rw [execHandedDeadline, hd, s.reached_some]
  simp only [decide_eq_true_eq]

/-- Settles O17: both deadlines take the machine to IDLE, with the input event first. -/
theorem selectionDeadlines : Obligations.SelectionDeadlines := by
  refine ⟨fun s d hd => ⟨fun hearly => ?early, fun hreached hstate => ?left⟩,
    fun s d hd => ⟨fun hnot => ?stands, fun hreached hstate => ?timeout⟩⟩
  case early => rw [exec_leaveDeadline s d hd, if_neg (by omega)]
  case left =>
    have hidle : ∀ u : State, u.sel.state ≠ .idle → u.selIdle = { u with
        sel := { state := .idle, cursor := none, product := .single, page := 0, leave := none, handed := none }
        board := u.selectionMarked } := fun u hu => u.setSel_toIdle _ rfl rfl hu
    rw [exec_leaveDeadline s d hd, if_pos hreached]
    unfold State.selLeave
    rcases hstate with h | h | h
    · rw [h, if_pos rfl]
      dsimp only
      rw [hidle s (by rw [h]; exact nofun)]
    · rw [h, if_neg nofun]
      dsimp only
      rw [hidle _ (by rw [State.pushInput_eq]; change s.sel.state ≠ _; rw [h]; exact nofun), State.pushInput_eq]
      rfl
    · rw [h, if_neg nofun]
      dsimp only
      rw [hidle _ (by rw [State.pushInput_eq]; change s.sel.state ≠ _; rw [h]; exact nofun), State.pushInput_eq]
      rfl
  case stands =>
    rw [exec_handedDeadline s d hd, if_neg]
    rintro ⟨hhanded, hreached⟩
    exact hnot.elim (by omega) (absurd hhanded)
  case timeout =>
    rw [exec_handedDeadline s d hd, if_pos ⟨hstate, hreached⟩, State.selTimeout, State.setSel_toIdle _ _ rfl rfl, State.pushInput_eq]
    · rfl
    · rw [State.pushInput_eq]
      change s.sel.state ≠ _
      rw [hstate]
      exact nofun

/-! ### The scroll deadline (R125) -/

theorem scrollDue_some (t : TextScreen) (d now : Nat) (h : t.scrollAt = some d) : scrollDue t now = decide (d ≤ now) := by
  rw [scrollDue, h]

/-- A new offset forms every cell of row 4 anew and leaves the others (R125). -/
theorem TextScreen.scrollTo_cells (t : TextScreen) (o : Nat) :
    (∀ i, i < 128 → (t.scrollTo o).cells[i]? = t.cells[i]?) ∧
    ∀ i, i < 32 → (t.scrollTo o).cells[128 + i]? = (t.cells[128 + i]?).map fun cell => cell.retext (stripCell t.strip o i) := by
  have hcells : (t.scrollTo o).cells = t.cells.take 128 ++ (t.cells.drop 128).zipWith Cell.retext (stripRow t.strip o) := rfl
  rw [hcells]
  by_cases hlong : 128 ≤ t.cells.length
  · have hlen : (t.cells.take 128).length = 128 := by simp [hlong]
    refine ⟨fun i hi => ?_, fun i hi => ?_⟩
    · rw [List.getElem?_append_left (by omega), List.getElem?_take, if_pos hi]
    · rw [List.getElem?_append_right (by omega), hlen, Nat.add_sub_cancel_left, List.getElem?_zipWith, List.getElem?_drop]
      have hrow : (stripRow t.strip o)[i]? = some (stripCell t.strip o i) := by simp [stripRow, hi]
      rw [hrow]
      cases t.cells[128 + i]? <;> rfl
  · have hdrop : t.cells.drop 128 = [] := List.drop_eq_nil_of_le (by omega)
    have htake : t.cells.take 128 = t.cells := List.take_of_length_le (by omega)
    rw [hdrop, htake, List.zipWith_nil_left, List.append_nil]
    refine ⟨fun _ _ => rfl, fun i _ => ?_⟩
    rw [List.getElem?_eq_none (by omega)]
    rfl

/-- Settles O18. -/
theorem scrollDeadline : Obligations.ScrollDeadline := by
  intro s c scr d hcfg hd
  have hexec : exec (.scrollDeadline scr) s = .next
      (if d ≤ s.clk.upSec * 1024 + s.clk.upSub then
        s.modBoard fun b => b.modText scr (·.advance c.scr.scrollStep s.nowSub c.scr.scrollPeriod)
      else s) := by
    change execScrollDeadline scr s = _
    rw [execScrollDeadline, hcfg]
    dsimp only
    rw [scrollDue_some _ d _ hd]
    simp only [decide_eq_true_eq]
    rfl
  refine ⟨fun hearly => by rw [hexec, if_neg (by omega)], fun hreached => ?_⟩
  obtain ⟨hothers, hrow⟩ := (s.board.text scr).scrollTo_cells
    (((s.board.text scr).offset + c.scr.scrollStep) % stripLength (s.board.text scr).strip)
  refine ⟨(s.board.text scr).advance c.scr.scrollStep s.nowSub c.scr.scrollPeriod, _, rfl, ?_, rfl, hothers, hrow⟩
  rw [hexec, if_pos hreached]
  cases scr <;> rfl

end Sys2Proof.Machine
end

section
/-! PROOFS. The crystal cycle (R27, R29, R30, R143): what the counters become, and what falls due. -/

namespace Sys2Proof.Machine

variable (s : State)

/-! ### The commands of a crystal cycle, each with its condition -/

theorem mem_ite_singleton {α : Type} (b : Prop) [Decidable b] (x y : α) : x ∈ (if b then [y] else []) ↔ b ∧ x = y := by
  split <;> simp_all

theorem mem_ite_nil {α : Type} (b : Prop) [Decidable b] (x : α) (l : List α) : x ∈ (if b then l else []) ↔ b ∧ x ∈ l := by
  split <;> simp_all

theorem State.mem_dueAt (k : HaltClock) (n : Announcer) (i : Instr) :
    i ∈ s.dueAt k n ↔
      (k.wraps = true ∧ i = .haltSecond) ∨ (k.upTick = true ∧ i ∈ s.dueSecond) ∨ (k.subTick = true ∧ i ∈ s.dueSub) ∨
      ((n.wraps && s.playing) = true ∧ i = .samplePeriod) := by
  unfold State.dueAt
  simp only [List.mem_append, mem_ite_nil, List.mem_singleton, or_assoc]

/-- The stuck timeouts due at an uptime second: none before the first acceptance (R93). -/
def State.stuckNow (s : State) (ch : Fin 8) : Prop := ∃ c, s.cfg = some c ∧ s.stuck c.panel ch.val = true

theorem State.mem_dueSecond (i : Instr) :
    i ∈ s.dueSecond ↔
      (s.cfg.isSome = true ∧ (i = .stalenessRetest ∨ i = .dueFlash)) ∨
      (∃ slot : Fin 4, s.lapses slot.val = true ∧ i = .quoteLapse slot) ∨
      (s.reached s.act.deadline = true ∧ i = .idleDeadline) ∨
      (noticeOver s.nowSec s.board.lineNotice = true ∧ i = .noticeExpiry .line) ∨
      (noticeOver s.nowSec s.board.ownNotice = true ∧ i = .noticeExpiry .own) ∨
      (s.reached s.link.lossAt = true ∧ i = .lossDeadline) ∨
      (∃ ch : Fin 8, s.stuckNow ch ∧ i = .stuckTimeout ch) ∨
      (s.reached s.sel.leave = true ∧ i = .leaveDeadline) ∨ (s.reached s.sel.handed = true ∧ i = .handedDeadline) := by
  have hstuck : (i ∈ match s.cfg with
      | some c => ((List.finRange 8).filter fun ch : Fin 8 => s.stuck c.panel ch.val).map Instr.stuckTimeout
      | none => []) ↔ ∃ ch : Fin 8, s.stuckNow ch ∧ i = .stuckTimeout ch := by
    unfold State.stuckNow
    cases s.cfg with
    | none => simp
    | some c => simp only [List.mem_map, List.mem_filter, List.mem_finRange, true_and, Option.some.injEq, exists_eq_left', eq_comm]
  have hlapse : (i ∈ ((List.finRange 4).filter fun slot : Fin 4 => s.lapses slot.val).map Instr.quoteLapse) ↔
      ∃ slot : Fin 4, s.lapses slot.val = true ∧ i = .quoteLapse slot := by
    simp only [List.mem_map, List.mem_filter, List.mem_finRange, true_and, eq_comm]
  have htwo : i ∈ [Instr.stalenessRetest, Instr.dueFlash] ↔ i = .stalenessRetest ∨ i = .dueFlash := by simp
  unfold State.dueSecond
  simp only [List.mem_append, mem_ite_nil, List.mem_singleton, or_assoc]
  rw [hlapse, htwo]
  simp only [← or_assoc]
  rw [← hstuck] <;> simp only [or_assoc] <;> rfl

theorem State.mem_dueSub (i : Instr) :
    i ∈ s.dueSub ↔
      (∃ scr, scrollDue (s.board.text scr) s.nowSub = true ∧ i = .scrollDeadline scr) ∨
      (s.sendDue = true ∧ i = .replySend) ∨ (s.gapDue = true ∧ i = .frameGapExpiry 0) := by
  have hscroll : i ∈ ([Screen.a, Screen.b].filter fun scr => scrollDue (s.board.text scr) s.nowSub).map Instr.scrollDeadline ↔
      ∃ scr, scrollDue (s.board.text scr) s.nowSub = true ∧ i = .scrollDeadline scr := by
    simp only [List.mem_map, List.mem_filter]
    constructor
    · rintro ⟨scr, ⟨-, hdue⟩, rfl⟩
      exact ⟨scr, hdue, rfl⟩
    · rintro ⟨scr, hdue, rfl⟩
      exact ⟨scr, ⟨by cases scr <;> simp, hdue⟩, rfl⟩
  unfold State.dueSub
  simp only [List.mem_append, mem_ite_nil, List.mem_singleton, or_assoc]
  rw [hscroll]

/-! ### When each command falls due -/

section
variable (k : HaltClock) (n : Announcer)

theorem State.haltSecond_due : Instr.haltSecond ∈ s.dueAt k n ↔ k.wraps = true := by
  simp [State.mem_dueAt, State.mem_dueSecond, State.mem_dueSub]

theorem State.samplePeriod_due : Instr.samplePeriod ∈ s.dueAt k n ↔ n.wraps = true ∧ s.playing = true := by
  simp [State.mem_dueAt, State.mem_dueSecond, State.mem_dueSub]

theorem State.stalenessRetest_due : Instr.stalenessRetest ∈ s.dueAt k n ↔ k.upTick = true ∧ s.cfg.isSome = true := by
  simp [State.mem_dueAt, State.mem_dueSecond, State.mem_dueSub]

theorem State.dueFlash_due : Instr.dueFlash ∈ s.dueAt k n ↔ k.upTick = true ∧ s.cfg.isSome = true := by
  simp [State.mem_dueAt, State.mem_dueSecond, State.mem_dueSub]

theorem State.quoteLapse_due (slot : Fin 4) : Instr.quoteLapse slot ∈ s.dueAt k n ↔ k.upTick = true ∧ s.lapses slot.val = true := by
  simp [State.mem_dueAt, State.mem_dueSecond, State.mem_dueSub]

theorem State.idleDeadline_due : Instr.idleDeadline ∈ s.dueAt k n ↔ k.upTick = true ∧ s.reached s.act.deadline = true := by
  simp [State.mem_dueAt, State.mem_dueSecond, State.mem_dueSub]

theorem State.lossDeadline_due : Instr.lossDeadline ∈ s.dueAt k n ↔ k.upTick = true ∧ s.reached s.link.lossAt = true := by
  simp [State.mem_dueAt, State.mem_dueSecond, State.mem_dueSub]

theorem State.stuckTimeout_due (ch : Fin 8) : Instr.stuckTimeout ch ∈ s.dueAt k n ↔ k.upTick = true ∧ s.stuckNow ch := by
  simp [State.mem_dueAt, State.mem_dueSecond, State.mem_dueSub]

theorem State.leaveDeadline_due : Instr.leaveDeadline ∈ s.dueAt k n ↔ k.upTick = true ∧ s.reached s.sel.leave = true := by
  simp [State.mem_dueAt, State.mem_dueSecond, State.mem_dueSub]

theorem State.handedDeadline_due : Instr.handedDeadline ∈ s.dueAt k n ↔ k.upTick = true ∧ s.reached s.sel.handed = true := by
  simp [State.mem_dueAt, State.mem_dueSecond, State.mem_dueSub]

theorem State.scrollDeadline_due (scr : Screen) : Instr.scrollDeadline scr ∈ s.dueAt k n ↔ k.subTick = true ∧ scrollDue (s.board.text scr) s.nowSub = true := by
  simp [State.mem_dueAt, State.mem_dueSecond, State.mem_dueSub]

theorem State.replySend_due : Instr.replySend ∈ s.dueAt k n ↔ k.subTick = true ∧ s.sendDue = true := by
  simp [State.mem_dueAt, State.mem_dueSecond, State.mem_dueSub]

theorem State.lineNotice_due :
    Instr.noticeExpiry .line ∈ s.dueAt k n ↔ k.upTick = true ∧ noticeOver s.nowSec s.board.lineNotice = true := by
  simp [State.mem_dueAt, State.mem_dueSecond, State.mem_dueSub]

theorem State.ownNotice_due :
    Instr.noticeExpiry .own ∈ s.dueAt k n ↔ k.upTick = true ∧ noticeOver s.nowSec s.board.ownNotice = true := by
  simp [State.mem_dueAt, State.mem_dueSecond, State.mem_dueSub]

theorem State.gapExpiry_due : Instr.frameGapExpiry 0 ∈ s.dueAt k n ↔ k.subTick = true ∧ s.gapDue = true := by
  simp [State.mem_dueAt, State.mem_dueSecond, State.mem_dueSub]

end

/-! ### The conditions in the words of the statements -/

theorem HaltClock.wraps_iff (k : HaltClock) : k.wraps = true ↔ k.hold = 0 ∧ k.prescaler = 32767 := by simp [HaltClock.wraps]
theorem HaltClock.subTick_iff (k : HaltClock) : k.subTick = true ↔ k.upCyc = 31 := by simp [HaltClock.subTick]
theorem HaltClock.upTick_iff (k : HaltClock) : k.upTick = true ↔ k.upCyc = 31 ∧ k.upSub = 1023 := by simp [HaltClock.upTick]

theorem State.reached_iff (d : Option Nat) : s.reached d = true ↔ ∃ u, d = some u ∧ u ≤ s.clk.upSec := by
  cases d with
  | none => simp [s.reached_none]
  | some d => simp [s.reached_some]

theorem noticeOver_iff (now : Nat) (n : Option Notice) : noticeOver now n = true ↔ ∃ u, n.map Notice.expiry = some u ∧ u ≤ now := by
  cases n <;> simp [noticeOver]

theorem State.lapses_iff_live (slot : Nat) :
    s.lapses slot = true ↔
      ∃ x, s.issue.records.getD slot .empty = .live x ∧ s.path.sale.getD slot .clear = .clear ∧ x.expiry ≤ s.clk.upSec := by
  cases hrec : s.issue.records.getD slot .empty with
  | live q => simpa using s.lapses_iff slot q hrec
  | voided _ _ | empty =>
    unfold State.lapses IssueUnit.record
    rw [hrec]
    simp

theorem State.stuckNow_iff (ch : Fin 8) :
    s.stuckNow ch ↔
      ∃ c x u, s.cfg = some c ∧ s.panel.chans[ch.val]? = some x ∧ x.state = .active ∧ c.panel.stuck ≠ 255 ∧ x.onset = some u ∧
        u + 1024 * c.panel.stuck < s.clk.upSec * 1024 + s.clk.upSub := by
  constructor
  · rintro ⟨c, hcfg, hstuck⟩
    cases hx : s.panel.chans[ch.val]? with
    | none =>
      have hinitial : s.chan ch.val = Channel.initial := by rw [State.chan, List.getD_eq_getElem?_getD, hx]; rfl
      rw [State.stuck, hinitial] at hstuck
      simp [Channel.initial] at hstuck
    | some x =>
      have hchan := s.chan_of_getElem? ch.val x hx
      unfold State.stuck at hstuck
      rw [hchan] at hstuck
      cases honset : x.onset with
      | none => simp [honset] at hstuck
      | some u =>
        have hactive : x.state = .active := by
          simp only [Bool.and_eq_true, beq_iff_eq] at hstuck
          exact hstuck.1.1
        obtain ⟨hne, hover⟩ := (s.stuck_iff c.panel ch.val x u hx hactive honset).mp (by rw [State.stuck, hchan]; exact hstuck)
        exact ⟨c, x, u, hcfg, rfl, hactive, hne, honset, hover⟩
  · rintro ⟨c, x, u, hcfg, hx, hactive, hne, honset, hover⟩
    exact ⟨c, hcfg, (s.stuck_iff c.panel ch.val x u hx hactive honset).mpr ⟨hne, hover⟩⟩

theorem State.playing_iff : s.playing = true ↔ ∃ a, s.ann.current = some a ∧ a.playing = true := by
  unfold State.playing
  cases s.ann.current <;> simp

theorem scrollDue_iff (t : TextScreen) (now : Nat) : scrollDue t now = true ↔ ∃ u, t.scrollAt = some u ∧ u ≤ now := by
  unfold scrollDue
  cases t.scrollAt <;> simp

theorem Reply.turned_iff (r : Reply) (now : Nat) : r.turned now = true ↔ 1024 * r.turnaround ≤ 1000 * (now - r.since) := by
  rw [Reply.turned, decide_eq_true_eq]
  omega

theorem State.sendDue_iff :
    s.sendDue = true ↔ s.power.reset = false ∧ ∃ r bytes, s.link.pending = some r ∧ r.build = .built bytes ∧
      1024 * r.turnaround ≤ 1000 * (s.clk.upSec * 1024 + s.clk.upSub - r.since) := by
  unfold State.sendDue
  cases s.link.pending with
  | none => simp
  | some r =>
    cases s.power.reset with
    | true => simp
    | false =>
      cases hbuild : r.build with
      | built bytes =>
        simp only [hbuild, Reply.turned_iff, Option.some.injEq, true_and]
        constructor
        · exact fun h => ⟨r, bytes, rfl, hbuild, h⟩
        · rintro ⟨_, _, rfl, -, h⟩
          exact h
      | _ => simp [hbuild]

/-- A frame is in reception in HEADER and BODY, since its last stop bit (R156). -/
theorem Receiver.since_iff (r : Receiver) (u : Nat) : r.since = some u ↔ ∃ got, r = .header got u ∨ r = .body got u := by
  cases r <;> simp [Receiver.since]

theorem State.gapOver_iff (c : Settings) (more : Nat) :
    s.gapOver c more = true ↔ ∃ u, s.link.receiver.since = some u ∧
      1024 * c.link.gap < 1000 * (s.clk.upSec * 1024 + s.clk.upSub - u + more) := by
  unfold State.gapOver
  cases s.link.receiver.since with
  | none => simp
  | some u =>
    have hexceeds : exceeds (s.nowSub - u + more) c.link.gap = true ↔ c.link.gap * 1024 < (s.nowSub - u + more) * 1000 := by
      rw [exceeds, decide_eq_true_eq]
    have hnow : s.nowSub = s.clk.upSec * 1024 + s.clk.upSub := rfl
    rw [hnow] at hexceeds
    simp only [Option.some.injEq, exists_eq_left', hnow, hexceeds]
    omega

theorem State.receiving_iff :
    s.receiving = true ↔ s.link.receiver ≠ .disabled ∧ s.link.pending = none ∧ s.link.sending = none := by
  simp [State.receiving, and_assoc]

theorem State.gapDue_iff :
    s.gapDue = true ↔ s.link.pending = none ∧ s.link.sending = none ∧
      ∃ c got u, s.cfg = some c ∧ (s.link.receiver = .header got u ∨ s.link.receiver = .body got u) ∧
        1024 * c.link.gap < 1000 * (s.clk.upSec * 1024 + s.clk.upSub - u) := by
  unfold State.gapDue
  cases s.cfg with
  | none => simp
  | some c =>
    rw [Bool.and_eq_true, s.receiving_iff, s.gapOver_iff]
    constructor
    · rintro ⟨⟨-, hpending, hsending⟩, u, hsince, hover⟩
      obtain ⟨got, hr⟩ := (s.link.receiver.since_iff u).mp hsince
      exact ⟨hpending, hsending, c, got, u, rfl, hr, hover⟩
    · rintro ⟨hpending, hsending, c', got, u, hc', hr, hover⟩
      cases hc'
      refine ⟨⟨?_, hpending, hsending⟩, u, (s.link.receiver.since_iff u).mpr ⟨got, hr⟩, hover⟩
      rcases hr with h | h <;> rw [h] <;> exact nofun

/-! ### The counters -/

/-- The counters one crystal cycle on, in the words of the statement (R27, R29). -/
theorem HaltClock.count_eq (k : HaltClock) (past : Nat) :
    k.countPrescaler.countUptime past = { k with
      hold := k.hold - 1
      prescaler := if 0 < k.hold ∨ k.prescaler = 32767 then k.prescaler else k.prescaler + 1
      upCyc := if k.upCyc < 31 then k.upCyc + 1 else 0
      upSub := if k.upCyc < 31 then k.upSub else if k.upSub < 1023 then k.upSub + 1 else 0
      upSec := if k.upCyc < 31 ∨ k.upSub < 1023 then k.upSec else if k.upSec < 4294967295 then k.upSec + 1 else past } := by
  have hprescaler : k.countPrescaler = { k with
      hold := k.hold - 1, prescaler := if 0 < k.hold ∨ k.prescaler = 32767 then k.prescaler else k.prescaler + 1 } := by
    unfold HaltClock.countPrescaler
    split
    next hhold => simp [hhold]
    next hhold =>
      have hzero : k.hold = 0 := by omega
      split
      next hwrap =>
        cases k
        simp_all
      next hwrap => 
        cases k
        simp_all
  rw [hprescaler]
  unfold HaltClock.countUptime
  dsimp only
  split
  next hcyc => simp [hcyc]
  next hcyc =>
    split
    next hsub => simp [hcyc, hsub]
    next hsub => simp [hcyc, hsub]

/-- The state of a crystal cycle with its counters advanced. -/
def State.counted (s : State) : State :=
  (s.modClk fun k => k.countPrescaler.countUptime (Config.freeUptime s.free % 4294967296)).modAnn Announcer.pace

/-- A crystal cycle with main power: the counters, and the queue of what falls due in a free order (log 3). -/
theorem State.mainCycle_eq (hpending : s.pending = []) :
    ∃ q n, s.mainCycle = { s with
        pending := q, free := n, clk := s.counted.clk.noteOrder s.clk.upSec q
        ann := { s.ann with pacing := (s.ann.pacing + 125) % 512 } } ∧
      ∀ i, i ∈ q ↔ i ∈ s.counted.dueAt s.clk s.ann := by
  have hqueued : ∀ t : State, t = s.counted ∨ t = s.counted.drawn →
      ∃ q n, (t.enqueueDue (t.dueAt s.clk s.ann)).modClk (·.noteOrder s.clk.upSec (t.enqueueDue (t.dueAt s.clk s.ann)).pending) =
        { s with
          pending := q, free := n, clk := s.counted.clk.noteOrder s.clk.upSec q
          ann := { s.ann with pacing := (s.ann.pacing + 125) % 512 } } ∧
        ∀ i, i ∈ q ↔ i ∈ s.counted.dueAt s.clk s.ann := by
    rintro t (rfl | rfl)
    · exact ⟨s.pending ++ shuffle s.free (s.counted.dueAt s.clk s.ann), _, rfl,
        fun i => by rw [hpending, List.nil_append, mem_shuffle]⟩
    · exact ⟨s.pending ++ shuffle (s.free + 1) (s.counted.dueAt s.clk s.ann), _, rfl,
        fun i => by rw [hpending, List.nil_append, mem_shuffle]⟩
  unfold State.mainCycle
  dsimp only
  split
  · exact hqueued _ (.inr rfl)
  · exact hqueued _ (.inl rfl)

/-- The halt second's place among the commands is noted (R47; log 3). -/
theorem HaltClock.noteOrder_spec (k : HaltClock) (sec : Nat) (q : List Instr) :
    k.noteOrder sec q = { k with early := (k.noteOrder sec q).early } ∧
    ((k.noteOrder sec q).early = some sec ∨ (k.noteOrder sec q).early = none) ∧
    ((k.noteOrder sec q).early = some sec ↔ ∃ x y, q = x ++ .haltSecond :: y ∧ Instr.stalenessRetest ∈ y) := by
  rw [← haltFirst_iff]
  unfold HaltClock.noteOrder
  cases haltFirst q <;> simp

theorem shuffle_singleton {α : Type} (n : Nat) (x : α) : shuffle n [x] = [x] := List.perm_singleton.mp (shuffle_perm n [x])

/-- Settles O2: each command of the cycle is queued on its own condition, and no other puts it in the queue. -/
theorem emptyQueueTicksTheCrystal : Obligations.EmptyQueueTicksTheCrystal := by
  intro s hpending
  have hstep : step s = .next s.crystalCycle := by rw [step, hpending]
  refine ⟨fun hon => ?main, fun hoff => ?backup⟩
  case backup =>
    rw [hstep, State.crystalCycle, hoff, if_neg Bool.false_ne_true, State.backupCycle]
    split
    · rfl
    · unfold State.enqueueDue
      rw [hpending, shuffle_singleton]
      rfl
  case main =>
    obtain ⟨q, n, hcycle, hmem⟩ := s.mainCycle_eq hpending
    obtain ⟨horder, hearly, hfirst⟩ := HaltClock.noteOrder_spec s.counted.clk s.clk.upSec q
    have hclk : s.counted.clk = _ := HaltClock.count_eq s.clk (Config.freeUptime s.free % 4294967296)
    have hsec : (s.counted.clk.noteOrder s.clk.upSec q).upSec = s.counted.clk.upSec := rfl
    have hsub : (s.counted.clk.noteOrder s.clk.upSec q).upSub = s.counted.clk.upSub := rfl
    refine ⟨q, n, Config.freeUptime s.free % 4294967296, s.counted.clk.noteOrder s.clk.upSec q, Nat.mod_lt _ (by decide), ?_, ?_, hearly,
      hfirst, ?_⟩
    · rw [hstep, State.crystalCycle, hon, if_pos rfl, hcycle]
    · refine horder.trans ?_
      rw [hclk]
    · rw [hsec, hsub]
      have hsecond := s.clk.upTick_iff
      have htick := s.clk.subTick_iff
      refine ⟨?_, ?_, ⟨?_, ?_, fun slot => ?_, ?_, ?_, ?_, ?_, fun ch => ?_, ?_, ?_⟩, fun scr => ?_, ?_, ?_⟩
      · rw [hmem, State.haltSecond_due, HaltClock.wraps_iff]
      · rw [hmem, State.samplePeriod_due, State.playing_iff]
        exact and_congr_left fun _ => by rw [Announcer.wraps, decide_eq_true_eq]
      · rw [hmem, State.stalenessRetest_due, hsecond]
        rfl
      · rw [hmem, State.dueFlash_due, hsecond]
        rfl
      · rw [hmem, State.quoteLapse_due, hsecond, State.lapses_iff_live]
        rfl
      · rw [hmem, State.idleDeadline_due, hsecond, State.reached_iff]
        rfl
      · rw [hmem, State.lineNotice_due, hsecond, noticeOver_iff]
        rfl
      · rw [hmem, State.ownNotice_due, hsecond, noticeOver_iff]
        rfl
      · rw [hmem, State.lossDeadline_due, hsecond, State.reached_iff]
        rfl
      · rw [hmem, State.stuckTimeout_due, hsecond, State.stuckNow_iff]
        rfl
      · rw [hmem, State.leaveDeadline_due, hsecond, State.reached_iff]
        rfl
      · rw [hmem, State.handedDeadline_due, hsecond, State.reached_iff]
        rfl
      · rw [hmem, State.scrollDeadline_due, htick, scrollDue_iff]
        rfl
      · rw [hmem, State.replySend_due, htick, State.sendDue_iff]
        rfl
      · rw [hmem, State.gapExpiry_due, htick, State.gapDue_iff]
        rfl

end Sys2Proof.Machine
end

section
/-! PROOFS. The table after a halt second: rollover, evaluation and retirement (R22, R23, R24, R41, R46, R50). -/

namespace Sys2Proof.Machine

variable (s : State)

/-! ### Retirement (R22, R23) -/

theorem State.removeAll_mem (l : List Entry) (e : Entry) :
    e ∈ (s.removeAll l).table ↔ e ∈ s.table ∧ ∀ x ∈ l, e.who ≠ x.who := by
  rw [State.removeAll_table, mem_foldl_withoutEntry]

/-- The entry is retired, given up or past its limit (R22, R23). -/
def Entry.leaves (e : Entry) (b : Battery) (p : ProjParams) : Prop :=
  e.retires b p = true ∨ e.abandoned b p = true ∨ e.pastLimit b = true

theorem Entry.leaves_iff (e : Entry) (b : Battery) (p : ProjParams) :
    e.leaves b p ↔
      ((e.phase = .departed ∨ e.phase = .cancelled) ∧ (e.exp : Int) + p.retention ≤ e.now b) ∨
      ((e.phase = .waiting ∨ e.phase = .due) ∧ e.timeliness = .stale ∧ (e.sched : Int) + p.abandon ≤ e.now b) ∨
      (e.relation b = .previous ∧ 21600 ≤ b.now) := by
  unfold Entry.leaves Entry.retires Entry.abandoned Entry.pastLimit
  simp only [Bool.and_eq_true, Bool.or_eq_true, beq_iff_eq, decide_eq_true_eq, and_assoc]

/-- What the retirement test leaves: the entries of an identity that none of those it removes has (R22, R23). -/
theorem State.retire_mem (c : Settings) (e : Entry) :
    e ∈ (s.retire c).table ↔ e ∈ s.table ∧ ∀ x ∈ s.table, x.leaves s.bat c.proj → e.who ≠ x.who := by
  unfold State.retire
  dsimp only
  rw [State.countLost_table, State.removeAll_mem, State.removeAll_mem, and_assoc]
  refine and_congr_right fun _ => ?_
  simp only [List.mem_filter, Bool.and_eq_true, Bool.or_eq_true, Bool.not_eq_true', Entry.leaves]
  constructor
  · rintro ⟨hended, hlost⟩ x hx hleaves
    cases hretires : x.retires s.bat c.proj with
    | true => exact hended x ⟨hx, hretires⟩
    | false => exact hlost x ⟨hx, hretires, hleaves.resolve_left (by simp [hretires])⟩
  · exact fun h => ⟨fun x hx => h x hx.1 (.inl hx.2), fun x hx => h x hx.1 (.inr hx.2.2)⟩

/-- With no identity twice the test leaves exactly the entries that it does not remove. -/
theorem State.retire_mem_of_distinct (c : Settings) (hdistinct : Distinct s.table) (e : Entry) :
    e ∈ (s.retire c).table ↔ e ∈ s.table ∧ ¬ e.leaves s.bat c.proj := by
  rw [State.retire_mem]
  refine and_congr_right fun he => ⟨fun h hleaves => h e he hleaves rfl, fun hstays x hx hleaves hwho => ?_⟩
  rw [hdistinct.eq_of_who he hx hwho] at hstays
  exact hstays hleaves

/-! ### The evaluation of every entry (R41) -/

/-- An entry as an evaluation with no update before it leaves it (R41). -/
def Entry.reviewed (b : Battery) (p : ProjParams) (now : Nat) (e : Entry) : Entry := e.evaluated b p now e .plain false

theorem Entry.reviewed_who (b : Battery) (p : ProjParams) (now : Nat) (e : Entry) : (e.reviewed b p now).who = e.who :=
  e.evaluated_who b p now e .plain false

theorem Entry.reviewed_exp (b : Battery) (p : ProjParams) (now : Nat) (e : Entry) : (e.reviewed b p now).exp = e.exp := rfl

theorem State.entry?_of_mem (hdistinct : Distinct s.table) (e : Entry) (he : e ∈ s.table) : s.entry? e.who = some e := by
  cases hfound : s.entry? e.who with
  | none => exact absurd rfl (entry?_none s e.who hfound e he)
  | some x =>
    obtain ⟨hx, hwho⟩ := entry?_some s e.who x hfound
    rw [hdistinct.eq_of_who hx he hwho]

/-- One entry put in place in a table of distinct identities. -/
theorem map_replacedBy (pre post : List Entry) (e new : Entry) (hdistinct : Distinct (pre ++ e :: post)) :
    (pre ++ e :: post).map (e.replacedBy new) = pre ++ new :: post := by
  have hself : e.replacedBy new e = new := if_pos ⟨rfl, rfl⟩
  have hother : ∀ x, x.who ≠ e.who → e.replacedBy new x = x := by
    intro x hx
    refine if_neg fun hsame => hx ?_
    rw [Entry.who, Entry.who, hsame.1, hsame.2]
  unfold Distinct at hdistinct
  rw [List.map_append, List.map_cons, List.nodup_append, List.nodup_cons] at hdistinct
  obtain ⟨-, ⟨hpost, -⟩, hpre⟩ := hdistinct
  rw [List.map_append, List.map_cons, hself]
  congr 1
  · refine (List.map_congr_left fun x hx => hother x ?_).trans pre.map_id
    exact hpre _ (List.mem_map_of_mem hx) _ List.mem_cons_self
  · congr 1
    refine (List.map_congr_left fun x hx => hother x fun hsame => hpost ?_).trans post.map_id
    exact hsame ▸ List.mem_map_of_mem hx

/-- The evaluation of one entry after another, in a table of distinct identities. -/
theorem State.evalRest_table (c : Settings) (b : Battery) (now : Nat) (rest pre : List Entry) (t : State) (hbat : t.bat = b)
    (hnow : t.nowSec = now) (htable : t.table = pre.map (Entry.reviewed b c.proj now) ++ rest) (hdistinct : Distinct (pre ++ rest)) :
    (rest.foldl (fun s e => match s.entry? e.who with
      | some cur => s.evalEntry c cur cur .plain false
      | none => s) t).table = (pre ++ rest).map (Entry.reviewed b c.proj now) := by
  induction rest generalizing pre t with
  | nil => rw [List.foldl_nil, htable, List.append_nil, List.append_nil]
  | cons e rest ih =>
    have hdistinct' : Distinct t.table := by
      rw [htable]
      unfold Distinct at hdistinct ⊢
      rw [List.map_append, List.map_map, List.map_congr_left (f := Entry.who ∘ Entry.reviewed b c.proj now) (g := Entry.who)
        fun x _ => x.reviewed_who b c.proj now]
      rwa [List.map_append] at hdistinct
    have hentry : t.entry? e.who = some e := t.entry?_of_mem hdistinct' e (by rw [htable]; simp)
    have hinner : Inner t (t.evalEntry c e e .plain false) := .evalEntry c e e .plain false (.refl t)
    have hnext : (t.evalEntry c e e .plain false).table = (pre ++ [e]).map (Entry.reviewed b c.proj now) ++ rest := by
      rw [t.evalEntry_table]
      change replaceEntry t.bat t.table e (e.reviewed t.bat c.proj t.nowSec) = _
      rw [replaceEntry_same _ _ e (e.reviewed t.bat c.proj t.nowSec) rfl, hbat, hnow, htable, map_replacedBy _ _ _ _ (htable ▸ hdistinct')]
      simp
    rw [List.foldl_cons, hentry]
    dsimp only
    rw [ih (pre ++ [e]) _ (hinner.bat.trans hbat) ?_ hnext (by simpa using hdistinct)]
    · simp
    · rw [State.nowSec, hinner.clk]
      exact hnow

theorem State.evalAll_table (c : Settings) (hdistinct : Distinct s.table) :
    (s.evalAll c).table = s.table.map (Entry.reviewed s.bat c.proj s.nowSec) :=
  State.evalRest_table c s.bat s.nowSec s.table [] s rfl rfl rfl hdistinct

/-! ### The rollover (R24) -/

/-- The rollover leaves exactly the entries that are not two days off, with no identity twice. -/
theorem State.rollTable_table (hs : s.TableSound) :
    s.rollTable.TableSound ∧ ∀ e, e ∈ s.rollTable.table ↔ e ∈ s.table ∧ e.relation s.bat ≠ .unheld := by
  refine ⟨((Kept.refl s).loose.rollTable).sound hs, fun e => ?_⟩
  have htable : ∃ b, s.rollTable.table =
      sortBy (listedBefore b) (s.removeAll (s.table.filter fun e => e.relation s.bat == .unheld)).table := by
    unfold State.rollTable
    dsimp only
    rw [(Still.markDepartures (.refl _)).table, State.syncDue_table]
    exact ⟨_, congrArg (sortBy _) (State.countLost_table _ _)⟩
  obtain ⟨b, htable⟩ := htable
  rw [htable, (sortBy_perm _ _).mem_iff, State.removeAll_mem]
  refine and_congr_right fun he => ⟨fun h hunheld => h e ?_ rfl, fun hheld x hx hwho => hheld ?_⟩
  · exact List.mem_filter.mpr ⟨he, by simpa using hunheld⟩
  · obtain ⟨hx, hunheld⟩ := List.mem_filter.mp hx
    rw [Distinct.eq_of_who hs.2 he hx hwho]
    simpa using hunheld

/-! ### The halt second -/

/-- The mark of a step that cancels nothing (R53). -/
theorem dueMark_of_not_cancels (old new : Phase) (mark : Bool) (h : new = .cancelled → old = .cancelled) :
    dueMark old new mark = if new = .due ∧ old ≠ .due then true else if new = .waiting ∧ old = .due then false else mark := by
  unfold dueMark
  rw [if_neg (c := new = .cancelled ∧ old ≠ .cancelled) fun hcancels => hcancels.2 (h hcancels.1)]

/-- A reviewed entry, in the words of the statement (R46, R50, R51, R54). -/
theorem Entry.reviewed_eq (b : Battery) (p : ProjParams) (now : Nat) (e : Entry) :
    e.reviewed b p now =
      (let tl : Timeliness :=
        match e.report with
        | none => .noReport
        | some r => if b.clock = .set ∧ p.stale < now - r.arrival then .stale else if p.late ≤ e.hm then .late else .onTime
      let ph : Phase :=
        if e.phase = .departed ∨ e.phase = .cancelled then e.phase
        else if b.clock = .unset then .waiting
        else if tl ≠ .stale ∧ (e.exp : Int) + p.grace ≤ e.now b then .departed
        else if (e.exp : Int) - p.window ≤ e.now b then .due else e.phase
      { e with
        timeliness := tl, phase := ph
        dueAnn := if ph = .due ∧ e.phase ≠ .due then true else if ph = .waiting ∧ e.phase = .due then false else e.dueAnn }) := by
  have hclass : e.classify b p now =
      match e.report with
      | none => .noReport
      | some r => if b.clock = .set ∧ p.stale < now - r.arrival then .stale else if p.late ≤ e.hm then .late else .onTime := rfl
  unfold Entry.reviewed Entry.evaluated
  dsimp only
  rw [Bool.false_and, if_neg Bool.false_ne_true, ← hclass]
  generalize e.classify b p now = tl
  have hphase : ({ e with timeliness := tl } : Entry).phaseAfter b p .plain =
      if e.phase = .departed ∨ e.phase = .cancelled then e.phase
      else if b.clock = .unset then .waiting
      else if tl ≠ .stale ∧ (e.exp : Int) + p.grace ≤ e.now b then .departed
      else if (e.exp : Int) - p.window ≤ e.now b then .due else e.phase := by
    unfold Entry.phaseAfter
    have hlive (ph : Phase) (hdeparted : ph ≠ .departed) (hcancelled : ph ≠ .cancelled) :
        (if b.clock = .unset then .waiting
         else if EvalAfter.plain ≠ .reinstate ∧ tl ≠ .stale ∧ (e.exp : Int) + p.grace ≤ e.now b then .departed
         else if (e.exp : Int) - p.window ≤ e.now b then .due
         else if EvalAfter.plain = .report then .waiting else ph) =
          if ph = .departed ∨ ph = .cancelled then ph
          else if b.clock = .unset then .waiting
          else if tl ≠ .stale ∧ (e.exp : Int) + p.grace ≤ e.now b then .departed
          else if (e.exp : Int) - p.window ≤ e.now b then .due else ph := by
      refine Eq.trans ?_ (if_neg fun h => h.elim hdeparted hcancelled).symm
      exact ite_congr_iff Iff.rfl rfl (ite_congr_iff ⟨And.right, fun h => ⟨nofun, h⟩⟩ rfl (ite_congr_iff Iff.rfl rfl (if_neg nofun)))
    cases hp : e.phase with
    | departed => rfl
    | cancelled => rfl
    | waiting => exact hlive .waiting nofun nofun
    | due => exact hlive .due nofun nofun
  rw [hphase]
  generalize hph : (if e.phase = .departed ∨ e.phase = .cancelled then e.phase
      else if b.clock = .unset then .waiting
      else if tl ≠ .stale ∧ (e.exp : Int) + p.grace ≤ e.now b then .departed
      else if (e.exp : Int) - p.window ≤ e.now b then .due else e.phase) = ph
  rw [dueMark_of_not_cancels e.phase ph e.dueAnn]
  intro hcancelled
  subst hph
  split at hcancelled
  · exact hcancelled
  · split at hcancelled
    · exact nomatch hcancelled
    · split at hcancelled
      · exact nomatch hcancelled
      · split at hcancelled
        · exact nomatch hcancelled
        · exact hcancelled

/-- The rollover's table before the evaluations, when the halt second takes one (R24). -/
def State.RolledTable (v : State) : Prop :=
  ∃ u : State, u.bat = s.bat.advance ∧ u.table = s.table ∧ v.table = if s.bat.rolls then u.rollTable.table else s.table

/-- What a rollover leaves is the entries that are not two days off, and without one all stand. -/
theorem State.RolledTable.spec {s v : State} (h : s.RolledTable v) (hs : s.TableSound) :
    v.TableSound ∧ ∀ e, e ∈ v.table ↔ e ∈ s.table ∧ (s.bat.rolls = true → e.relation s.bat.advance ≠ .unheld) := by
  obtain ⟨u, hbat, htable, hv⟩ := h
  cases hrolls : s.bat.rolls with
  | true =>
    rw [hrolls, if_pos rfl] at hv
    obtain ⟨hsound, hmem⟩ := u.rollTable_table (by unfold State.TableSound at hs ⊢; rwa [htable])
    refine ⟨by unfold State.TableSound at hsound ⊢; rwa [hv], fun e => ?_⟩
    rw [hv, hmem, hbat, htable, forall_prop_of_true rfl]
  | false =>
    rw [hrolls, if_neg Bool.false_ne_true] at hv
    refine ⟨by unfold State.TableSound at hs ⊢; rwa [hv], fun e => ?_⟩
    rw [hv]
    exact ⟨fun he => ⟨he, nofun⟩, And.left⟩

/-- What a halt second brings to the evaluations, and the table they and the retirement test leave (R24, R28, R41). -/
theorem State.haltTick_pass (c : Settings) (hcfg : s.cfg = some c) :
    ∃ w : State, w.bat = s.bat.advance ∧ w.nowSec = s.clk.upSec ∧ s.RolledTable w ∧
      s.haltTick.table = ((w.evalAll c).retire c).table := by
  unfold State.haltTick
  dsimp only
  rw [State.modClk_cfg, State.modBat_cfg, hcfg]
  dsimp only
  have hrolled : Inner ((s.modBat Battery.advance).modClk HaltClock.wrap) (if s.bat.rolls then
      ((s.modBat Battery.advance).modClk HaltClock.wrap).rollTable else (s.modBat Battery.advance).modClk HaltClock.wrap) := by
    split
    · exact .rollTable (.refl _)
    · exact .refl _
  have htable : s.RolledTable (if s.bat.rolls then ((s.modBat Battery.advance).modClk HaltClock.wrap).rollTable
      else (s.modBat Battery.advance).modClk HaltClock.wrap) :=
    ⟨(s.modBat Battery.advance).modClk HaltClock.wrap, rfl, rfl, by split <;> rfl⟩
  generalize (if s.bat.rolls then ((s.modBat Battery.advance).modClk HaltClock.wrap).rollTable
      else (s.modBat Battery.advance).modClk HaltClock.wrap) = v at hrolled htable ⊢
  have hmarked : Still v (if v.bat.civil % 60 = 0 then v.markBoth [0] else v) ∧
      Inner v (if v.bat.civil % 60 = 0 then v.markBoth [0] else v) := by
    split
    · exact ⟨.markBoth _ (.refl v), .markBoth _ (.refl v)⟩
    · exact ⟨.refl v, .refl v⟩
  generalize (if v.bat.civil % 60 = 0 then v.markBoth [0] else v) = w at hmarked ⊢
  refine ⟨w, hmarked.2.bat.trans hrolled.bat, ?_, ?_, ?_⟩
  · rw [State.nowSec, hmarked.2.clk, hrolled.clk]
    change s.clk.wrap.upSec = _
    rw [HaltClock.wrap_eq]
  · unfold State.RolledTable at htable ⊢
    rwa [hmarked.1.table]
  · have hpass : (w.evalPass c).table = ((w.evalAll c).retire c).table := (Still.recomputeList (.refl _)).table
    split
    · rw [(Still.markDepartures (.refl _)).table, hpass]
    · exact hpass

/-- The same for a halt second that is drawn ahead of its uptime second (R29). -/
theorem State.takeHalt_pass (c : Settings) (hcfg : s.cfg = some c) :
    ∃ w : State, w.bat = s.bat.advance ∧ w.nowSec = s.clk.early.getD s.clk.upSec ∧ s.RolledTable w ∧
      s.takeHalt.table = ((w.evalAll c).retire c).table := by
  unfold State.takeHalt
  split
  next hearly =>
    rw [hearly]
    exact s.haltTick_pass c hcfg
  next sec hearly =>
    rw [hearly]
    exact State.haltTick_pass (s.modClk (·.backTo sec)) c hcfg

/-- The day number changes exactly at a rollover (R28). -/
theorem Battery.advance_day_ne_iff (b : Battery) : b.advance.day ≠ b.day ↔ b.rolls = true := by
  cases hrolls : b.rolls with
  | false => simp [b.advance_day hrolls]
  | true =>
    have hday : b.advance.day = b.day + 1 := if_pos (by simpa [Battery.rolls] using hrolls)
    rw [hday]
    simp

/-- Settles O9: the evaluations after the rollover, then the retirement test. -/
theorem haltSecondRetires : Obligations.HaltSecondRetires := by
  intro s t c hcfg hexec hon removed uptime evaluated
  have htaken : t = s.takeHalt := by
    rw [exec_haltSecond s hon] at hexec
    exact (Host.Outcome.next.inj hexec).symm
  have hbat : t.bat = s.bat.advance := htaken ▸ s.takeHalt_inner.bat
  obtain ⟨w, hwbat, hnow, hrolled, htable⟩ := s.takeHalt_pass c hcfg
  rw [← htaken] at htable
  have hremoved : ∀ e : Entry, removed e ↔ e.leaves (w.evalAll c).bat c.proj := by
    intro e
    rw [e.leaves_iff, (Inner.evalAll c (.refl w)).bat, hwbat, ← hbat]
  have hevaluated : ∀ e : Entry, evaluated e = e.reviewed w.bat c.proj w.nowSec := by
    intro e
    rw [e.reviewed_eq, hwbat, ← hbat, hnow]
    have hclock : t.bat.clock = s.bat.clock := by rw [hbat]; rfl
    rw [hclock] <;> rfl
  refine ⟨fun e he hleaves => ?_, fun hsound x => ?_⟩
  · rw [htable, State.retire_mem] at he
    exact he.2 e he.1 ((hremoved e).mp hleaves) rfl
  · obtain ⟨hwsound, hmem⟩ := hrolled.spec hsound
    have hdistinct : Distinct (w.evalAll c).table := ((Kept.refl w).evalAll c).loose.sound hwsound |>.2
    rw [htable, State.retire_mem_of_distinct _ c hdistinct, w.evalAll_table c hwsound.2, List.mem_map, hbat, s.bat.advance_day_ne_iff,
      ← hremoved]
    constructor
    · rintro ⟨⟨e, he, rfl⟩, hstays⟩
      obtain ⟨hes, hheld⟩ := (hmem e).mp he
      exact ⟨e, hes, (hevaluated e).symm, hstays, hheld⟩
    · rintro ⟨e, hes, rfl, hstays, hheld⟩
      exact ⟨⟨e, (hmem e).mpr ⟨hes, hheld⟩, (hevaluated e).symm⟩, hstays⟩

end Sys2Proof.Machine
end

section
/-! PROOFS. Good frames: reception, link state, history, and the replies under build (R155 to R162, R167, R168). -/

namespace Sys2Proof.Machine

variable (s : State) (c : Settings)

/-! ### A frame reaches the link (R155 to R161) -/

theorem State.linkUp_eq : s.linkUp c = s.heard c := by
  unfold State.linkUp State.heard
  dsimp only
  split
  · rfl
  · rfl

/-- A frame of length in range, in HUNT with nothing to send, is taken as it is. -/
theorem State.onFrame_hears (hcfg : s.cfg = some c) (hhears : s.hears) (kind : Byte) (seq : Fin 8) (halt : Settings → Byte)
    (payload : List Word) (hlen : payload.length ≤ 60) (f : Settings → State → State) :
    s.onFrame kind seq halt payload f = f c s := by
  obtain ⟨hhunt, hpending, hsending⟩ := hhears
  have hreceiving : s.receiving = true := s.receiving_iff.mpr ⟨by rw [hhunt]; exact nofun, hpending, hsending⟩
  have hgap : s.endGap c 0 = s := by rw [State.endGap, State.gapOver, hhunt]; rfl
  have hend : s.endFrame = s := by rw [State.endFrame, hhunt]; rfl
  have hgoes : ∀ bytes, s.link.receiver.goesOnTo bytes = true := fun bytes => by rw [hhunt]; rfl
  unfold State.onFrame
  rw [hcfg]
  dsimp only
  rw [if_pos hreceiving, hgap, if_pos (hgoes _), if_pos hlen, hend]

theorem State.takeAddressed_new (kind : Byte) (seq : Fin 8) (payload : List Word) (apply : State → State)
    (hnew : s.link.history ≠ some (c.frameMark kind seq payload)) :
    s.takeAddressed c kind seq.val payload apply = apply (s.awaiting c kind seq payload (.built [])) := by
  unfold State.takeAddressed
  dsimp only
  rw [s.linkUp_eq c]
  exact if_neg hnew

theorem State.takeAddressed_again (kind : Byte) (seq : Fin 8) (payload : List Word) (apply : State → State)
    (hagain : s.link.history = some (c.frameMark kind seq payload)) :
    s.takeAddressed c kind seq.val payload apply = (s.heard c).takeDuplicate c seq.val := by
  unfold State.takeAddressed
  dsimp only
  rw [s.linkUp_eq c]
  exact if_pos hagain

/-- What an addressed frame applies and answers, beyond the rules for every good frame (R163 to R171). -/
def frameEffect (c : Settings) : Instr → State → State
  | .update _ payload => fun s => s.takeUpdate payload
  | .clock _ _ payload => fun s => (s.applyClock c payload).answerUnless (clockPayload payload).isNone
  | .notice _ _ payload => fun s => (s.applyNotice payload).answerUnless (noticePayload payload).isNone
  | .journalConfirm _ payload => fun s =>
    match payload with
    | [hi, lo] => (s.confirmSerial (pairVal hi lo)).replyJournal
    | _ => s.replyAck Code.ackBadFrame []
  | .statusRequest _ _ => State.replyStatus
  | .forward _ payload => fun s => s.takeForward payload
  | _ => State.replyJournal

/-- Every addressed frame goes through the same rules, and differs in its effect alone (R159 to R161). -/
theorem exec_addressedFrame (i : Instr) (kind : Byte) (seq : Fin 8) (payload : List Word)
    (hi : addressedFrame i = some (kind, seq, payload)) :
    exec i s = .next (s.onFrame kind seq (haltOf .addressed) payload fun c s =>
      s.takeAddressed c kind seq.val payload (frameEffect c i)) := by
  unfold addressedFrame at hi
  split at hi
  case h_8 k q p =>
    split at hi
    · exact absurd hi nofun
    next hunknown =>
      obtain ⟨rfl, rfl, rfl⟩ := Prod.mk.injEq .. ▸ Prod.mk.injEq .. ▸ Option.some.inj hi
      change execUnknownKindFrame k q p s = _
      unfold execUnknownKindFrame
      rw [if_neg hunknown]
      rfl
  case h_9 => exact absurd hi nofun
  all_goals
    obtain ⟨rfl, rfl, rfl⟩ := Prod.mk.injEq .. ▸ Prod.mk.injEq .. ▸ Option.some.inj hi
    rfl

/-- An addressed frame that repeats none is applied with its reply waiting. -/
theorem exec_addressedFrame_new (hcfg : s.cfg = some c) (hhears : s.hears) (i : Instr) (kind : Byte) (seq : Fin 8)
    (payload : List Word) (hi : addressedFrame i = some (kind, seq, payload)) (hlen : payload.length ≤ 60)
    (hnew : s.link.history ≠ some (c.frameMark kind seq payload)) :
    exec i s = .next (frameEffect c i (s.awaiting c kind seq payload (.built []))) := by
  rw [exec_addressedFrame s i kind seq payload hi, s.onFrame_hears c hcfg hhears _ _ _ _ hlen,
    s.takeAddressed_new c kind seq payload _ hnew]

/-- Settles O50. -/
theorem duplicateFrame : Obligations.DuplicateFrame := by
  intro s c i kind seq payload hcfg hhears hi hlen hagain
  have hexec : exec i s = .next ((s.heard c).takeDuplicate c seq.val) := by
    rw [exec_addressedFrame s i kind seq payload hi, s.onFrame_hears c hcfg hhears _ _ _ _ hlen,
      s.takeAddressed_again c kind seq payload _ hagain]
  have hlast : (s.heard c).link.lastReply = s.link.lastReply := rfl
  rw [hexec]
  unfold State.takeDuplicate
  rw [hlast]
  refine ⟨fun bytes hbytes => ?_, fun hnone => ?_⟩
  · rw [hbytes]
    rfl
  · rw [hnone]
    rfl

/-! ### Replies (R158, R160, R161) -/

theorem State.reply_eq (r : Reply) (hr : s.link.pending = some r) (kind : Byte) (payload : List Word) :
    s.reply kind payload =
      { s with link := { s.link with
          pending := some { r with build := .built (r.bytes kind payload) }
          lastReply := if s.link.history = none then s.link.lastReply else some (r.bytes kind payload) } } := by
  have hbuilt : s.setBuild (.built (r.bytes kind payload)) =
      { s with link := { s.link with pending := some { r with build := .built (r.bytes kind payload) } } } := by
    unfold State.setBuild State.modLink
    dsimp only
    rw [hr]
    rfl
  have hlast : (if s.link.history.isSome then some (r.bytes kind payload) else s.link.lastReply) =
      if s.link.history = none then s.link.lastReply else some (r.bytes kind payload) := by
    cases s.link.history <;> rfl
  unfold State.reply
  rw [hr]
  dsimp only
  rw [hbuilt, ← hlast]
  rfl

/-- A new frame is in the history, and the reply to its sequence number waits (R158, R162). -/
def State.Awaits (t : State) (seq : Fin 8) : Prop :=
  t.link.history ≠ none ∧ ∃ r, t.link.pending = some r ∧ r.seq = seq.val ∧ r.haltId = c.link.haltId

theorem State.awaits_awaiting (kind : Byte) (seq : Fin 8) (payload : List Word) (b : ReplyBuild) :
    State.Awaits c (s.awaiting c kind seq payload b) seq :=
  ⟨nofun, _, rfl, rfl, rfl⟩

/-- A reply to a frame in the history is kept as the last reply. -/
theorem State.reply_awaits (seq : Fin 8) (h : State.Awaits c s seq) (kind : Byte) (payload : List Word) :
    s.reply kind payload = s.replied c seq kind payload := by
  obtain ⟨hhistory, r, hr, hseq, hhalt⟩ := h
  have hbytes : r.bytes kind payload = c.replyBytes seq kind payload := by
    rw [Reply.bytes, hseq, hhalt]
    rfl
  rw [s.reply_eq r hr, if_neg hhistory, hbytes]
  unfold State.replied
  rw [hr]
  rfl

theorem State.replyAck_awaits (seq : Fin 8) (h : State.Awaits c s seq) (status : Word) :
    s.replyAck status [] = s.replied c seq 0x81 [status] := s.reply_awaits c seq h 0x81 [status]

theorem State.setBuild_awaiting (kind : Byte) (seq : Fin 8) (payload : List Word) (b b' : ReplyBuild) :
    (s.awaiting c kind seq payload b).setBuild b' = s.awaiting c kind seq payload b' := rfl

/-! ### JOURNAL_CONFIRM (R168) -/

theorem State.confirmSerial_some (g : Geometry) (hg : s.bat.geometry = some g) (serial : Nat) :
    s.confirmSerial serial =
      if s.bat.confirmCount g serial = 0 then s
      else
        let b : Battery := { s.bat with confirm := (s.bat.confirm + s.bat.confirmCount g serial) % (2 * g.size) }
        { s with
          bat := b
          issue := { s.issue with
            accs := s.issue.accs ++ (g.indices s.bat.confirm (s.bat.confirmCount g serial)).map (fun i =>
              ⟨g.entryWord i 13, Code.confirmed, .plain⟩) ++ b.mirror.zipIdx.map fun p => ⟨g.base + p.2, p.1, .plain⟩ } } := by
  unfold State.confirmSerial
  rw [hg]
  dsimp only
  split
  · rfl
  · exact State.writeMirror_some _ g hg

theorem frameEffect_confirm_malformed (seq : Fin 8) : ∀ payload : List Word, payload.length ≠ 2 →
    frameEffect c (.journalConfirm seq payload) s = s.replyAck Code.ackBadFrame []
  | [], _ => rfl
  | [_], _ => rfl
  | [_, _], h => absurd rfl h
  | _ :: _ :: _ :: _, _ => rfl

/-- Settles O54. -/
theorem journalConfirm : Obligations.JournalConfirm := by
  intro s c seq payload hcfg hhears hlen hnew
  have hexec := exec_addressedFrame_new s c hcfg hhears (.journalConfirm seq payload) 0x05 seq payload rfl hlen hnew
  have hawaits := s.awaits_awaiting c 0x05 seq payload (.built [])
  refine ⟨fun hwords => ?_, fun g hi lo hpayload hg => ?_⟩
  · rw [hexec, ← State.replyAck_awaits _ c seq hawaits]
    exact congrArg Host.Outcome.next (frameEffect_confirm_malformed _ c seq payload hwords)
  · rw [hexec, hpayload]
    have hunconfirmed : s.bat.unconfirmed = (s.bat.write + 2 * g.size - s.bat.confirm) % (2 * g.size) := by
      unfold Battery.unconfirmed
      rw [hg]
    change Host.Outcome.next (State.replyJournal (State.confirmSerial _ _)) = _
    rw [State.confirmSerial_some (s.awaiting c 0x05 seq [hi, lo] (.built [])) g hg]
    dsimp only
    rw [← hunconfirmed]
    simp only [Geometry.indices, List.map_map]
    rfl

/-! ### POLL, a frame of an unknown kind, and STATUS_REQUEST (R157, R166, R167) -/

/-- Without a journal, or with everything sent and no push asked for, IDLE is answered (R167, R169). -/
theorem State.replyJournal_idle
    (h : s.bat.geometry = none ∨ s.bat.send = s.bat.write ∧ s.link.push = false) : s.replyJournal = s.reply 0x84 [] := by
  unfold State.replyJournal
  split
  next => rfl
  next g hg =>
    rcases h with hnone | ⟨hsent, hpush⟩
    · exact absurd (hnone.symm.trans hg) nofun
    · dsimp only
      rw [if_neg (not_not_intro hsent), State.replyPush, hpush]
      rfl

theorem State.goOnJournal_nil (todo : List Nat) :
    s.goOnJournal todo [] = if todo = [] then s.reply 0x83 [0] else s.setBuild (.journal todo []) := by
  cases todo <;> rfl

theorem Geometry.indices_eq_nil (g : Geometry) (i n : Nat) : g.indices i n = [] ↔ n = 0 := by
  simp [Geometry.indices]

/-- Unsent records are handed for sending (R81, R167). -/
theorem State.replyJournal_unsent (g : Geometry) (hg : s.bat.geometry = some g) (hunsent : s.bat.send ≠ s.bat.write)
    (hspan : 0 < g.span s.bat.send s.bat.write) :
    s.replyJournal = (s.takeForSending g).2.setBuild (.journal (s.takeForSending g).1 []) := by
  unfold State.replyJournal
  rw [hg]
  dsimp only
  rw [if_pos hunsent, State.goOnJournal_nil, if_neg]
  intro hnil
  have hzero := (g.indices_eq_nil _ _).mp hnil
  omega

/-- With everything sent the push hands the oldest unconfirmed records again (R169). -/
theorem State.replyJournal_push (g : Geometry) (hg : s.bat.geometry = some g) (hsent : s.bat.send = s.bat.write)
    (hpush : s.link.push = true) :
    let n := min 4 (g.span s.bat.confirm s.bat.send)
    let t : State := { s with link := { s.link with push := false } }
    s.replyJournal = if n = 0 then t.reply 0x84 [] else t.setBuild (.journal (g.indices s.bat.confirm n) []) := by
  intro n t
  have hnil := g.indices_eq_nil s.bat.confirm n
  unfold State.replyJournal
  rw [hg]
  dsimp only
  rw [if_neg (not_not_intro hsent), State.replyPush, if_pos hpush]
  dsimp only
  rw [State.goOnJournal_nil]
  by_cases hzero : n = 0
  · rw [if_pos (List.isEmpty_iff.mpr (hnil.mpr hzero)), if_pos hzero]
    rfl
  · have hsome := mt hnil.mp hzero
    rw [if_neg (mt List.isEmpty_iff.mp hsome), if_neg hsome, if_neg hzero]
    rfl

/-- POLL and the frames of an unknown kind are answered from the journal. -/
theorem frameEffect_poll (i : Instr) (kind : Byte) (seq : Fin 8) (payload : List Word)
    (hi : addressedFrame i = some (kind, seq, payload)) (hkind : kind = 0x01 ∨ isInboundKind kind = false) :
    frameEffect c i = State.replyJournal := by
  unfold addressedFrame at hi
  split at hi
  case h_1 => rfl
  case h_8 => rfl
  case h_9 => exact absurd hi nofun
  all_goals
    obtain ⟨rfl, -⟩ := Prod.mk.injEq .. ▸ Option.some.inj hi
    exact absurd hkind (by decide)

theorem frameEffect_status (i : Instr) (seq : Fin 8) (payload : List Word)
    (hi : addressedFrame i = some (0x06, seq, payload)) : frameEffect c i = State.replyStatus := by
  unfold addressedFrame at hi
  split at hi
  case h_6 => rfl
  case h_8 =>
    split at hi
    · exact absurd hi nofun
    next hunknown =>
      obtain ⟨rfl, -⟩ := Prod.mk.injEq .. ▸ Option.some.inj hi
      exact absurd hunknown (by decide)
  case h_9 => exact absurd hi nofun
  all_goals
    obtain ⟨hkind, -⟩ := Prod.mk.inj (Option.some.inj hi)
    exact absurd hkind (by decide)

/-! ### The words of a JOURNAL reply (R167) -/

/-- A part cycle of the requester whose turn it is, with no host cycle at hand. -/
theorem exec_partCycle_turn (r : Requester) (x : Access) (h : s.takesCycle r x) :
    exec (.partCycle none) s = .next (((s.landed x).served r (s.fetched x)).setHold 0).settleLoad := by
  obtain ⟨hmain, hreset, hwaiting, hturn⟩ := h
  change Host.Outcome.next (if s.power.main then s.partCycle else s) = _
  rw [if_pos hmain, s.partCycle_turn r x hreset hwaiting hturn,
    s.serve_eq r x hturn.1 ((s.landed_served_host r x (s.fetched x)).1.trans hwaiting)]

/-- A part cycle in which the link reads a word. -/
theorem exec_partCycle_link (hcfg : s.cfg = some c) (a : Nat) (h : s.takesCycle .link (.read a)) :
    exec (.partCycle none) s = .next ((s.linkServed c (s.peek a)).setHold 0).settleLoad := by
  have hserved : s.served .link (s.peek a) = s.linkServed c (s.peek a) := by
    unfold State.served
    rw [hcfg]
  rw [exec_partCycle_turn s .link (.read a) h, ← hserved]
  rfl

theorem State.linkWants_journal (g : Geometry) (hg : s.bat.geometry = some g) (r : Reply) (hr : s.link.pending = some r)
    (todo : List Nat) (got : List Word) (hbuild : r.build = .journal todo got) :
    s.linkWants = some (.read (g.entryWord (todo.getD (got.length / 13) 0) (got.length % 13))) := by
  unfold State.linkWants
  rw [hr, hg, Option.map_some, hbuild]

theorem State.linkServed_journal (r : Reply) (hr : s.link.pending = some r) (todo : List Nat) (got : List Word)
    (hbuild : r.build = .journal todo got) (w : Word) : s.linkServed c w = s.goOnJournal todo (got ++ [w]) := by
  unfold State.linkServed
  rw [hr, Option.map_some, hbuild]

theorem State.setBuild_some (r : Reply) (hr : s.link.pending = some r) (b : ReplyBuild) :
    s.setBuild b = { s with link := { s.link with pending := some { r with build := b } } } := by
  unfold State.setBuild State.modLink
  dsimp only
  rw [hr]
  rfl

/-- Settles O51. -/
theorem pollAndStatus : Obligations.PollAndStatus := by
  refine ⟨fun s c g r todo got x hcfg htakes hg hr hbuild => ?_,
    fun s c i kind seq payload hcfg hhears hi hlen hnew => ⟨fun hkind => ?_, fun hkind => ?_⟩⟩
  · intro a words
    have hx : x = .read a := Option.some.inj (htakes.2.2.2.1.symm.trans (s.linkWants_journal g hg r hr todo got hbuild))
    subst hx
    have hexec := exec_partCycle_link s c hcfg a htakes
    rw [s.linkServed_journal c r hr todo got hbuild] at hexec
    refine ⟨rfl, fun hmore => ?_, fun hlast => ?_⟩
    · rw [hexec, State.goOnJournal, if_neg hmore, s.setBuild_some r hr]
      rfl
    · rw [hexec, State.goOnJournal, if_pos hlast, s.reply_eq r hr]
      rfl
  · have hexec := exec_addressedFrame_new s c hcfg hhears i kind seq payload hi hlen hnew
    have hawaits := s.awaits_awaiting c kind seq payload (.built [])
    rw [frameEffect_poll c i kind seq payload hi hkind] at hexec
    refine ⟨fun hidle => ?_, fun g hg hspan hunsent => ?_, fun g hg hsent hpush => ?_⟩
    · rw [hexec, State.replyJournal_idle (s.awaiting c kind seq payload (.built [])) hidle, State.reply_awaits _ c seq hawaits]
    · rw [hexec, State.replyJournal_unsent (s.awaiting c kind seq payload (.built [])) g hg hunsent hspan]
      simp only [State.takeForSending, State.writeStates, Geometry.indices, List.map_map]
      rfl
    · rw [hexec, State.replyJournal_push (s.awaiting c kind seq payload (.built [])) g hg hsent hpush]
      have hspan : g.span s.bat.confirm s.bat.send = (s.bat.send + 2 * g.size - s.bat.confirm) % (2 * g.size) := rfl
      intro n is t u
      by_cases hzero : n = 0
      · have ht : t = s.awaiting c kind seq payload (.built []) := congrArg (s.awaiting c kind seq payload) (if_pos hzero)
        have hu : State.Awaits c u seq := ⟨nofun, _, rfl, rfl, rfl⟩
        rw [if_pos hzero, ← State.reply_awaits u c seq hu]
        change Host.Outcome.next (if n = 0 then _ else _) = _
        rw [if_pos hzero, show u = { t with link := { t.link with push := false } } from rfl, ht]
      · have ht : t = s.awaiting c kind seq payload (.journal is []) := congrArg (s.awaiting c kind seq payload) (if_neg hzero)
        rw [if_neg hzero, show u = { t with link := { t.link with push := false } } from rfl, ht]
        exact congrArg Host.Outcome.next (if_neg hzero)
  · rw [exec_addressedFrame_new s c hcfg hhears i kind seq payload hi hlen hnew]
    subst hkind
    rw [frameEffect_status c i seq payload hi]
    exact congrArg Host.Outcome.next (State.reply_awaits _ c seq (s.awaits_awaiting c 0x06 seq payload (.built [])) 0x82 _)

end Sys2Proof.Machine
end

section
/-! PROOFS. UPDATE and FORWARD frames (R163, R170, R171). -/

namespace Sys2Proof.Machine

variable (s : State) (c : Settings)

/-! ### UPDATE (R163) -/

theorem imagesOf_length (n : Nat) (ws : List Word) : (imagesOf n ws).length = n := by
  induction n generalizing ws with
  | zero => rfl
  | succ n ih => rw [imagesOf, List.length_cons, ih]

theorem getElem?_imagesOf (n : Nat) (ws : List Word) (k : Nat) (hk : k < n) :
    (imagesOf n ws)[k]? = some ((ws.drop (9 * k)).take 9) := by
  induction n generalizing ws k with
  | zero => omega
  | succ n ih =>
    cases k with
    | zero => rfl
    | succ k =>
      rw [imagesOf, List.getElem?_cons_succ, ih _ _ (by omega), List.drop_drop]
      congr 3
      omega

theorem State.goOnUpdate_some (outs : List Nat) (im : List Word) (rest : List (List Word)) (h : imageKind im ≠ none) :
    s.goOnUpdate outs (im :: rest) = s.setBuild (.updating (im :: rest) outs) := by
  obtain ⟨k, hk⟩ := Option.ne_none_iff_exists'.mp h
  rw [State.goOnUpdate, hk]

/-! ### FORWARD: the chain entry (R170, R171) -/

/-- What a chain entry and its buffer must lie apart from: the active descriptor and every window (R171). -/
def Settings.areas (c : Settings) : List Region := (0x400, c.len) :: c.win.regions

/-- A region is apart from every area. -/
def Settings.clear (c : Settings) (a n : Nat) : Prop := ∀ w ∈ c.areas, a + n ≤ w.1 ∨ w.1 + w.2 ≤ a

theorem areas_all_apart_iff (a n : Nat) : c.areas.all (regionsApart (a, n)) = true ↔ c.clear a n := by
  simp [List.all_eq_true, regionsApart, Settings.clear]

theorem chainOk_iff (pos : Nat) (payload entry : List Word) :
    chainOk c pos payload entry = true ↔
      entry.getD 0 0 = 0 ∧ payload.length ≤ (entry.getD 1 0).toNat ∧ c.clear pos 8 ∧
      (payload ≠ [] →
        pairAddr (entry.getD 2 0) (entry.getD 3 0) + payload.length ≤ 1048576 ∧
        c.clear (pairAddr (entry.getD 2 0) (entry.getD 3 0)) payload.length) := by
  unfold chainOk
  dsimp only
  change (_ && _ && c.areas.all _ && (_ || (_ && c.areas.all _))) = true ↔ _
  simp only [Bool.and_eq_true, Bool.or_eq_true, areas_all_apart_iff, beq_iff_eq, regionFits, decide_eq_true_eq, List.isEmpty_iff,
    and_assoc, ← Classical.or_iff_not_imp_left, ne_eq]
  exact Iff.rfl

/-! ### FORWARD: the link's accesses (R171) -/

theorem State.linkWants_chainRead (r : Reply) (hr : s.link.pending = some r) (pos : Nat) (payload got : List Word)
    (hbuild : r.build = .chainRead pos payload got) : s.linkWants = some (.read (pos + got.length)) := by
  unfold State.linkWants
  rw [hr, Option.map_some, hbuild]

theorem State.linkServed_chainRead (r : Reply) (hr : s.link.pending = some r) (pos : Nat) (payload got : List Word)
    (hbuild : r.build = .chainRead pos payload got) (w : Word) :
    s.linkServed c w =
      if got.length < 5 then s.setBuild (.chainRead pos payload (got ++ [w])) else s.decideForward c pos payload (got ++ [w]) := by
  unfold State.linkServed
  rw [hr, Option.map_some, hbuild]

theorem State.linkWants_chainWrite (r : Reply) (hr : s.link.pending = some r) (a : Acc) (rest : List Acc)
    (hbuild : r.build = .chainWrite (a :: rest)) : s.linkWants = some (.write a.addr a.val) := by
  unfold State.linkWants
  rw [hr, Option.map_some, hbuild]
  rfl

theorem State.linkServed_full (r : Reply) (hr : s.link.pending = some r) (a : Acc) (rest : List Acc)
    (hbuild : r.build = .chainWrite (a :: rest)) (w : Word) (next : Nat) (hfull : a.land = .chainFull next) :
    s.linkServed c w = s.forwardDone next := by
  unfold State.linkServed
  rw [hr, Option.map_some, hbuild]
  dsimp only
  rw [hfull]

theorem State.linkServed_plain (r : Reply) (hr : s.link.pending = some r) (a : Acc) (rest : List Acc)
    (hbuild : r.build = .chainWrite (a :: rest)) (w : Word) (hplain : ∀ next, a.land ≠ .chainFull next) :
    s.linkServed c w = s.setBuild (.chainWrite rest) := by
  unfold State.linkServed
  rw [hr, Option.map_some, hbuild]
  dsimp only
  split
  next next hfull => exact absurd hfull (hplain next)
  next => rfl

theorem State.forwardDone_eq (r : Reply) (hr : s.link.pending = some r) (next : Nat) :
    s.forwardDone next =
      { s with
        link := { s.link with
          chainPos := some next
          pending := some { r with build := .built (r.bytes 0x81 [Code.ackOk]) }
          lastReply := if s.link.history = none then s.link.lastReply else some (r.bytes 0x81 [Code.ackOk]) }
        rep := s.rep.raised .forward } :=
  State.reply_eq ((s.modLink fun k => { k with chainPos := some next }).raise .forward) r hr 0x81 [Code.ackOk]

/-- A part cycle in which the link writes a word. -/
theorem exec_partCycle_link_write (hcfg : s.cfg = some c) (a : Nat) (v : Word) (h : s.takesCycle .link (.write a v)) :
    exec (.partCycle none) s = .next (((s.poke a v).linkServed c 0).setHold 0).settleLoad := by
  have hserved : (s.poke a v).served .link 0 = (s.poke a v).linkServed c 0 := by
    unfold State.served
    rw [show (s.poke a v).cfg = some c from hcfg]
  rw [exec_partCycle_turn s .link (.write a v) h, ← hserved]
  rfl

theorem State.takeForward_far (payload : List Word)
    (h : s.link.chainPos = none ∨ ∃ pos, s.link.chainPos = some pos ∧ 1048575 < pos + 7) :
    s.takeForward payload = s.replyAck Code.ackNoBuffer [] := by
  unfold State.takeForward
  rcases h with hnone | ⟨pos, hpos, hfar⟩
  · rw [hnone]
  · rw [hpos]
    exact if_neg (mt of_decide_eq_true (Nat.not_le.mpr hfar))

theorem State.takeForward_near (payload : List Word) (pos : Nat) (hpos : s.link.chainPos = some pos) (hnear : pos + 7 ≤ 1048575) :
    s.takeForward payload = s.setBuild (.chainRead pos payload []) := by
  unfold State.takeForward
  rw [hpos]
  exact if_pos (decide_eq_true hnear)

/-- Settles O52. -/
theorem updateAndForwardFrames : Obligations.UpdateAndForwardFrames := by
  refine ⟨fun s c r x hcfg htakes hr => ?_, fun s c seq payload hcfg hhears hlen => ⟨fun hnew => ?_, fun hnew => ?_⟩⟩
  · intro goes acked
    have hwants : s.linkWants = some x := htakes.2.2.2.1
    refine ⟨fun pos payload got hbuild => ?_, fun w rest hbuild => ?_⟩
    · intro words addr apart open_
      have hx : x = .read (pos + got.length) := Option.some.inj (hwants.symm.trans (s.linkWants_chainRead r hr pos payload got hbuild))
      subst hx
      have hexec := exec_partCycle_link s c hcfg _ htakes
      rw [s.linkServed_chainRead c r hr pos payload got hbuild] at hexec
      have hopen : chainOk c pos payload words = true ↔ open_ := chainOk_iff c pos payload words
      refine ⟨rfl, fun hmore => ?_, fun hlast hgood => ?_, fun hlast hbad => ?_⟩
      · rw [hexec, if_pos hmore, s.setBuild_some r hr]
        rfl
      · rw [hexec, if_neg (by omega), State.decideForward, if_pos (hopen.mpr hgood), s.setBuild_some r hr]
        rfl
      · rw [hexec, if_neg (by omega), State.decideForward, if_neg (mt hopen.mp hbad), State.replyAck, s.reply_eq r hr]
        rfl
    · intro m
      have hx : x = .write w.addr w.val := Option.some.inj (hwants.symm.trans (s.linkWants_chainWrite r hr w rest hbuild))
      subst hx
      have hexec := exec_partCycle_link_write s c hcfg _ _ htakes
      refine ⟨rfl, fun next hfull => ?_, fun hplain => ?_⟩
      · rw [hexec, State.linkServed_full (s.poke w.addr w.val) c r hr w rest hbuild 0 next hfull,
          State.forwardDone_eq (s.poke w.addr w.val) r hr]
        rfl
      · rw [hexec, State.linkServed_plain (s.poke w.addr w.val) c r hr w rest hbuild 0 hplain,
          State.setBuild_some (s.poke w.addr w.val) r hr]
        rfl
  · have hexec := exec_addressedFrame_new s c hcfg hhears (.update seq payload) 0x02 seq payload rfl hlen hnew
    have hawaits := s.awaits_awaiting c 0x02 seq payload (.built [])
    intro n
    refine ⟨fun hbad => ?_, fun hone hfour hlength hkind => ?_⟩
    · rw [hexec, ← State.replyAck_awaits _ c seq hawaits]
      exact congrArg Host.Outcome.next (if_neg (by omega))
    · obtain ⟨k, hk⟩ : ∃ k, n = k + 1 := ⟨n - 1, by omega⟩
      have htail : payload.tail = payload.drop 1 := List.drop_one.symm
      have himages : imagesOf n payload.tail = (payload.drop 1).take 9 :: imagesOf k ((payload.drop 1).drop 9) := by
        rw [hk, htail, imagesOf]
      refine ⟨imagesOf k ((payload.drop 1).drop 9), (imagesOf_length k _).trans (by omega), fun j hj => ?_, ?_⟩
      · rw [← himages, getElem?_imagesOf n _ j hj, htail, List.drop_drop]
      · have hbuild := State.goOnUpdate_some (s.awaiting c 0x02 seq payload (.built [])) [] _ (imagesOf k ((payload.drop 1).drop 9)) hkind
        rw [hexec]
        exact congrArg Host.Outcome.next ((if_pos ⟨hone, hfour, hlength⟩).trans ((congrArg (State.goOnUpdate _ []) himages).trans hbuild))
  · have hexec := exec_addressedFrame_new s c hcfg hhears (.forward seq payload) 0x07 seq payload rfl hlen hnew
    refine ⟨fun pos hpos hnear => ?_, fun hfar => ?_⟩
    · rw [hexec, ← s.setBuild_awaiting c 0x07 seq payload (.built [])]
      exact congrArg Host.Outcome.next (State.takeForward_near _ payload pos hpos hnear)
    · rw [hexec, ← State.replyAck_awaits _ c seq (s.awaits_awaiting c 0x07 seq payload (.built []))]
      exact congrArg Host.Outcome.next (State.takeForward_far _ payload hfar)

end Sys2Proof.Machine
end

section
/-! PROOFS. Reception: characters, gaps, frame errors and foreign frames (R155 to R157). -/

namespace Sys2Proof.Machine

variable (s : State) (c : Settings)

/-! ### Characters (R156) -/

/-- Without a START the receiver stays in HUNT. -/
theorem takeAll_hunt (now : Nat) : ∀ chars : List Byte, (0xC5 : Byte) ∉ chars → Receiver.hunt.takeAll now chars = some (.hunt, 0)
  | [], _ => rfl
  | b :: bs, h => by
    obtain ⟨hb, hbs⟩ := not_or.mp (mt List.mem_cons.mpr h)
    have htake : Receiver.hunt.take b now = .goes .hunt := congrArg CharStep.goes (if_neg (Ne.symm hb))
    rw [Receiver.takeAll, htake]
    exact takeAll_hunt now bs hbs

/-- The characters of a header are collected. -/
theorem takeAll_header (now : Nat) : ∀ got pre : List Byte, pre.length + got.length < 4 →
    (Receiver.header pre now).takeAll now got = some (.header (pre ++ got) now, 0)
  | [], pre, _ => by rw [List.append_nil]; rfl
  | b :: bs, pre, h => by
    rw [List.length_cons] at h
    have htake : (Receiver.header pre now).take b now = .goes (.header (pre ++ [b]) now) := if_pos (by omega)
    rw [Receiver.takeAll, htake]
    dsimp only
    rw [takeAll_header now bs (pre ++ [b]) (by rw [List.length_append, List.length_singleton]; omega), List.append_assoc,
      List.singleton_append]

/-- The bytes collected keep their LENGTH, once it is among them. -/
theorem lengthOf_append (pre bs : List Byte) (h : 4 ≤ pre.length) : lengthOf (pre ++ bs) = lengthOf pre := by
  unfold lengthOf
  rw [List.getD_eq_getElem?_getD, List.getD_eq_getElem?_getD, List.getElem?_append_left (by omega)]

/-- The characters of a body are collected while more are to come. -/
theorem takeAll_body (now : Nat) : ∀ got pre : List Byte, 4 ≤ pre.length → pre.length + got.length < 6 + 2 * lengthOf pre →
    (Receiver.body pre now).takeAll now got = some (.body (pre ++ got) now, 0)
  | [], pre, _, _ => by rw [List.append_nil]; rfl
  | b :: bs, pre, hheader, h => by
    rw [List.length_cons] at h
    have htake : (Receiver.body pre now).take b now = .goes (.body (pre ++ [b]) now) := if_pos (by omega)
    rw [Receiver.takeAll, htake]
    dsimp only
    rw [takeAll_body now bs (pre ++ [b]) (by rw [List.length_append]; omega)
        (by rw [lengthOf_append pre [b] hheader, List.length_append, List.length_singleton]; omega), List.append_assoc,
      List.singleton_append]

/-- The last character of a body whose check bytes differ is an error. -/
theorem takeAll_body_bad (now : Nat) : ∀ got pre : List Byte, 4 ≤ pre.length → got ≠ [] →
    pre.length + got.length = 6 + 2 * lengthOf pre → checkHolds (pre ++ got) = false →
    (Receiver.body pre now).takeAll now got = some (.hunt, 1)
  | [], _, _, h, _, _ => absurd rfl h
  | [b], pre, _, _, hlen, hbad => by
    rw [List.length_singleton] at hlen
    have htake : (Receiver.body pre now).take b now = .error := by
      unfold Receiver.take
      dsimp only
      rw [if_neg (by omega), hbad]
      rfl
    rw [Receiver.takeAll, htake]
    rfl
  | b :: d :: bs, pre, hheader, _, hlen, hbad => by
    rw [List.length_cons, List.length_cons] at hlen
    have htake : (Receiver.body pre now).take b now = .goes (.body (pre ++ [b]) now) := if_pos (by omega)
    rw [Receiver.takeAll, htake]
    dsimp only
    exact takeAll_body_bad now (d :: bs) (pre ++ [b]) (by rw [List.length_append]; omega) (List.cons_ne_nil d bs)
      (by rw [lengthOf_append pre [b] hheader, List.length_append, List.length_singleton, List.length_cons]; omega)
      (by rw [List.append_assoc]; exact hbad)

/-- The first four characters after a START, up to the last of the header. -/
theorem takeAll_start (now : Nat) (kind seq halt len : Byte) (rest : List Byte) :
    Receiver.hunt.takeAll now (0xC5 :: kind :: seq :: halt :: len :: rest) =
      if 7 < seq.toNat ∨ 60 < len.toNat then (Receiver.hunt.takeAll now rest).map fun p => (p.1, p.2 + 1)
      else (Receiver.body [kind, seq, halt, len] now).takeAll now rest := by
  have hfour : Receiver.hunt.takeAll now (0xC5 :: kind :: seq :: halt :: len :: rest) =
      (Receiver.header [kind, seq, halt] now).takeAll now (len :: rest) := rfl
  have htake : (Receiver.header [kind, seq, halt] now).take len now =
      if 7 < seq.toNat ∨ 60 < len.toNat then .error else .goes (.body [kind, seq, halt, len] now) := rfl
  rw [hfour, Receiver.takeAll, htake]
  by_cases h : 7 < seq.toNat ∨ 60 < len.toNat
  · rw [if_pos h, if_pos h]
  · rw [if_neg h, if_neg h]

/-! ### FRAME_ERROR and FRAME_GAP_EXPIRY (R156) -/

theorem State.setReceiver_self (r : Receiver) (h : s.link.receiver = r) : s.setReceiver r = s := by
  subst h
  rfl

theorem State.endGap_hunt (hhunt : s.link.receiver = .hunt) (more : Nat) : s.endGap c more = s := by
  rw [State.endGap, State.gapOver, hhunt]
  rfl

/-- What characters leave of a receiver in HUNT, when no low stop bit meets a frame. -/
theorem State.hearChars_hunt (hhunt : s.link.receiver = .hunt) (chars : List Byte) (bad : Bool) (r : Receiver) (n : Nat)
    (htake : Receiver.hunt.takeAll s.nowSub chars = some (r, n)) (hgood : (bad && r.inFrame) = false) :
    s.hearChars c ⟨chars, bad⟩ = if n = 0 then s.setReceiver r else (s.setReceiver r).count .frameError n := by
  unfold State.hearChars
  dsimp only
  rw [s.endGap_hunt c hhunt 0, hhunt, htake]
  dsimp only
  rw [hgood]
  rfl

theorem exec_frameError (hcfg : s.cfg = some c) (hreceiving : s.receiving = true) (cause : FrameFault) :
    exec (.frameError cause) s = .next (s.hearChars c cause) := by
  change execFrameError cause s = _
  unfold execFrameError
  rw [hcfg]
  dsimp only
  rw [if_pos hreceiving]

theorem exec_frameGapExpiry (hcfg : s.cfg = some c) (hreceiving : s.receiving = true) (gap : Nat) :
    exec (.frameGapExpiry gap) s = .next (s.endGap c gap) := by
  change execFrameGapExpiry gap s = _
  unfold execFrameGapExpiry
  rw [hcfg]
  dsimp only
  rw [if_pos hreceiving]

theorem State.receiving_of_hears (h : s.hears) : s.receiving = true :=
  s.receiving_iff.mpr ⟨by rw [h.1]; exact nofun, h.2.1, h.2.2⟩

/-- A frame whose characters break off, or whose gap is over, is counted and given up. -/
theorem State.breakFrame_of_hunt (hhunt : s.link.receiver = .hunt) (r : Receiver) :
    (s.setReceiver r).breakFrame = { s with rep := s.rep.counted .frameError 1 } := by
  have hback : (s.setReceiver r).setReceiver .hunt = s := s.setReceiver_self .hunt hhunt
  rw [State.breakFrame, hback]
  rfl

/-- A low stop bit in a frame ends it as an error. -/
theorem State.hearChars_bad (hhunt : s.link.receiver = .hunt) (r : Receiver) (hr : r.inFrame = true) :
    (s.setReceiver r).hearChars c ⟨[], true⟩ = { s with rep := s.rep.counted .frameError 1 } := by
  unfold State.hearChars
  dsimp only
  rw [Receiver.takeAll]
  dsimp only
  rw [State.setReceiver_self _ _ rfl, if_pos rfl]
  unfold State.endGap
  split
  next =>
    rw [s.breakFrame_of_hunt hhunt r]
    dsimp only
    rw [hhunt]
    rfl
  next =>
    rw [show (s.setReceiver r).link.receiver = r from rfl, hr]
    exact s.breakFrame_of_hunt hhunt r

theorem State.endGap_inFrame (hhunt : s.link.receiver = .hunt) (r : Receiver) (since : Nat) (hsince : r.since = some since) (gap : Nat) :
    (s.setReceiver r).endGap c gap =
      if 1024 * c.link.gap < 1000 * (s.clk.upSec * 1024 + s.clk.upSub - since + gap) then { s with rep := s.rep.counted .frameError 1 }
      else s.setReceiver r := by
  have hover := (s.setReceiver r).gapOver_iff c gap
  have hexists : (∃ u, (s.setReceiver r).link.receiver.since = some u ∧
      1024 * c.link.gap < 1000 * ((s.setReceiver r).clk.upSec * 1024 + (s.setReceiver r).clk.upSub - u + gap)) ↔
      1024 * c.link.gap < 1000 * (s.clk.upSec * 1024 + s.clk.upSub - since + gap) := by
    change (∃ u, r.since = some u ∧ _) ↔ _
    rw [hsince]
    simp
    rfl
  rw [hexists] at hover
  unfold State.endGap
  by_cases h : 1024 * c.link.gap < 1000 * (s.clk.upSec * 1024 + s.clk.upSub - since + gap)
  · rw [if_pos (hover.mpr h), if_pos h, s.breakFrame_of_hunt hhunt r]
  · rw [if_neg (mt hover.mp h), if_neg h]

/-- A frame command whose first bytes are in reception completes that frame. -/
theorem State.onFrame_inFrame (hhears : s.hears) (hcfg : s.cfg = some c) (r : Receiver) (got : List Byte) (since : Nat)
    (hr : r = .header got since ∨ r = .body got since)
    (hgap : 1000 * (s.clk.upSec * 1024 + s.clk.upSub - since) ≤ 1024 * c.link.gap) (kind : Byte) (seq : Fin 8)
    (halt : Settings → Byte) (payload : List Word)
    (hprefix : 0xC5 :: got <+: Frame.bytes { kind := kind, seq := seq.val, halt := halt c, payload := payload })
    (f : Settings → State → State) :
    (s.setReceiver r).onFrame kind seq halt payload f = s.onFrame kind seq halt payload f := by
  obtain ⟨hhunt, hpending, hsending⟩ := hhears
  have hgot : got <+: (Frame.bytes { kind := kind, seq := seq.val, halt := halt c, payload := payload }).tail :=
    (List.cons_prefix_cons.mp hprefix).2
  have hsince : r.since = some since := by rcases hr with rfl | rfl <;> rfl
  have hgoes : r.goesOnTo (Frame.bytes { kind := kind, seq := seq.val, halt := halt c, payload := payload }).tail = true := by
    rcases hr with rfl | rfl <;> exact List.isPrefixOf_iff_prefix.mpr hgot
  have hreceiving : (s.setReceiver r).receiving = true :=
    (State.receiving_iff _).mpr ⟨by rcases hr with rfl | rfl <;> exact nofun, hpending, hsending⟩
  have hend : (s.setReceiver r).endFrame = s := by
    have hinframe : (s.setReceiver r).link.receiver.inFrame = true := by rcases hr with rfl | rfl <;> rfl
    rw [State.endFrame, if_pos hinframe]
    exact s.setReceiver_self .hunt hhunt
  have hend' : s.endFrame = s := by rw [State.endFrame, hhunt]; rfl
  have hgoes' : ∀ bytes, s.link.receiver.goesOnTo bytes = true := fun bytes => by rw [hhunt]; rfl
  have hgapless : (s.setReceiver r).endGap c 0 = s.setReceiver r := by
    rw [s.endGap_inFrame c hhunt r since hsince 0, if_neg (by omega)]
  unfold State.onFrame
  rw [show (s.setReceiver r).cfg = some c from hcfg, hcfg]
  dsimp only
  rw [if_pos hreceiving, if_pos (s.receiving_of_hears ⟨hhunt, hpending, hsending⟩), hgapless, s.endGap_hunt c hhunt 0, if_pos (hgoes' _), hend, hend']
  exact if_pos hgoes

/-! ### FOREIGN_FRAME (R157) -/

theorem isForeign_iff (haltId : Nat) (kind halt : Byte) :
    isForeign haltId kind halt = true ↔
      isReplyKind kind = false ∧ halt.toNat ≠ haltId ∧ ¬ (halt = 255 ∧ (kind = 0x03 ∨ kind = 0x04)) := by
  simp [isForeign, and_assoc, Decidable.imp_iff_not_or]

theorem exec_foreignFrame (hcfg : s.cfg = some c) (hhears : s.hears) (kind halt : Byte) (seq : Fin 8) (payload : List Word)
    (hlen : payload.length ≤ 60) :
    exec (.foreignFrame kind halt seq payload) s =
      .next (if isForeign c.link.haltId kind halt then { s with rep := s.rep.counted .foreignFrame 1 } else s) := by
  change execForeignFrame kind halt seq payload s = _
  rw [execForeignFrame, s.onFrame_hears c hcfg hhears _ _ _ _ hlen]
  rfl

/-- Settles O49. -/
theorem frameErrorsAndForeignFrames : Obligations.FrameErrorsAndForeignFrames := by
  intro s c hcfg hhears now inPhase counted
  have hhunt := hhears.1
  have hreceiving := s.receiving_of_hears hhears
  have hself : s.setReceiver .hunt = s := s.setReceiver_self .hunt hhunt
  have hchars : ∀ chars r, Receiver.hunt.takeAll s.nowSub chars = some (r, 0) →
      exec (.frameError ⟨chars, false⟩) s = .next (inPhase r) := fun chars r htake => by
    rw [exec_frameError s c hcfg hreceiving, s.hearChars_hunt c hhunt chars false r 0 htake rfl]
    rfl
  have herror : ∀ chars, Receiver.hunt.takeAll s.nowSub chars = some (.hunt, 1) →
      exec (.frameError ⟨chars, false⟩) s = .next counted := fun chars htake => by
    rw [exec_frameError s c hcfg hreceiving, s.hearChars_hunt c hhunt chars false .hunt 1 htake rfl, hself]
    rfl
  refine ⟨⟨fun chars bad hstart => ?_, fun gap => ?_, fun got hlen => ?_⟩,
    fun kind seq halt len rest => ⟨fun hrange => ?_, fun hseq hlen => ⟨fun hmore => ?_, fun hlast hcheck => ?_⟩⟩,
    fun got since r hr => ?_, fun kind halt seq payload hlen => ⟨fun hhalt hkind hbroadcast => ?_, fun hkind => ?_⟩⟩
  · rw [exec_frameError s c hcfg hreceiving,
      s.hearChars_hunt c hhunt chars bad .hunt 0 (takeAll_hunt _ chars hstart) (Bool.and_false bad), if_pos rfl, hself]
  · rw [exec_frameGapExpiry s c hcfg hreceiving, s.endGap_hunt c hhunt gap]
  · exact hchars _ _ (takeAll_header s.nowSub got [] (by simpa using hlen))
  · exact herror _ ((takeAll_start s.nowSub kind seq halt len []).trans (if_pos hrange))
  · refine hchars _ _ ((takeAll_start s.nowSub kind seq halt len rest).trans ((if_neg (by omega)).trans ?_))
    exact takeAll_body _ rest [kind, seq, halt, len] (Nat.le_refl 4) (by change 4 + rest.length < 6 + 2 * len.toNat; omega)
  · refine herror _ ((takeAll_start s.nowSub kind seq halt len rest).trans ((if_neg (by omega)).trans ?_))
    refine takeAll_body_bad _ rest [kind, seq, halt, len] (Nat.le_refl 4) ?_ (by change 4 + rest.length = 6 + 2 * len.toNat; omega) ?_
    · rintro rfl
      simp at hlast
    · refine beq_false_of_ne ?_
      change wordBytes [crcBytes ((kind :: seq :: halt :: len :: rest).take (4 + 2 * len.toNat))] ≠
        (kind :: seq :: halt :: len :: rest).drop (4 + 2 * len.toNat)
      rw [Nat.add_comm 4]
      exact hcheck
  · have hsince : r.since = some since := by rcases hr with rfl | rfl <;> rfl
    have hinframe : r.inFrame = true := by rw [Receiver.inFrame, hsince]; rfl
    have hreceiving' : (inPhase r).receiving = true :=
      (State.receiving_iff _).mpr ⟨by rcases hr with rfl | rfl <;> exact nofun, hhears.2.1, hhears.2.2⟩
    have hgap := s.endGap_inFrame c hhunt r since hsince
    refine ⟨?_, fun gap => ⟨fun hover => ?_, fun hin => ?_⟩, fun i kind seq payload hi hin hprefix => ?_⟩
    · rw [exec_frameError (inPhase r) c hcfg hreceiving']
      exact congrArg Host.Outcome.next (s.hearChars_bad c hhunt r hinframe)
    · rw [exec_frameGapExpiry (inPhase r) c hcfg hreceiving']
      exact congrArg Host.Outcome.next ((hgap gap).trans (if_pos hover))
    · rw [exec_frameGapExpiry (inPhase r) c hcfg hreceiving']
      exact congrArg Host.Outcome.next ((hgap gap).trans (if_neg (Nat.not_lt.mpr hin)))
    · rw [exec_addressedFrame _ i kind seq payload hi, exec_addressedFrame s i kind seq payload hi]
      exact congrArg Host.Outcome.next (s.onFrame_inFrame c hhears hcfg r got since hr hin kind seq _ payload hprefix _)
  · rw [exec_foreignFrame s c hcfg hhears kind halt seq payload hlen,
      if_pos ((isForeign_iff c.link.haltId kind halt).mpr ⟨hkind, hhalt, hbroadcast⟩)]
  · rw [exec_foreignFrame s c hcfg hhears kind halt seq payload hlen,
      if_neg fun h => Bool.noConfusion (hkind.symm.trans ((isForeign_iff c.link.haltId kind halt).mp h).1)]

end Sys2Proof.Machine
end

section
/-! PROOFS. Commands of the report block: CALIBRATE, RESEED, SELECTION_DONE and JOURNAL_PUSH; REPLY_SEND and REPLY_END
(R88, R92, R95, R106, R162, R169). -/

namespace Sys2Proof.Machine

variable (s : State)

/-! ### REPLY_SEND and REPLY_END (R162) -/

/-- Settles O55: a reply is sent when it is due, and at no other time. -/
theorem replySendAndEnd : Obligations.ReplySendAndEnd := by
  intro s
  have hexec : exec .replySend s = .next (match s.link.pending, s.power.reset with
      | some r, false =>
        match r.build with
        | .built bytes => if r.turned s.nowSub then s.modLink fun k => { k with pending := none, sending := some bytes } else s
        | .updating _ _ => s
        | .journal _ _ => s
        | .chainRead _ _ _ => s
        | .chainWrite _ => s
      | _, _ => s) := rfl
  refine ⟨fun r bytes hr hbuild hreset => ?_, fun hidle => ?_, rfl⟩
  · have hturned : r.turned s.nowSub = true ↔ 1024 * r.turnaround ≤ 1000 * (s.clk.upSec * 1024 + s.clk.upSub - r.since) :=
      r.turned_iff s.nowSub
    rw [hexec, hr, hreset]
    dsimp only
    rw [hbuild]
    refine ⟨fun hover => congrArg Host.Outcome.next (if_pos (hturned.mpr hover)), fun hearly => ?_⟩
    exact congrArg Host.Outcome.next (if_neg fun h => absurd (hturned.mp h) (Nat.not_le.mpr hearly))
  · rw [hexec]
    rcases hidle with hnone | hreset
    · rw [hnone]
    · rw [hreset]
      cases s.link.pending <;> rfl

/-! ### The fetched command (R190) -/

theorem State.commandArgs_ready (k : CommandCode) (args : List Word) (h : s.rep.command = .ready k args) :
    s.commandArgs k = some args := by
  unfold State.commandArgs
  rw [h]
  exact if_pos rfl

/-! ### SELECTION_DONE (R106) -/

theorem State.markRows_rep (scr : Screen) (rows : List Nat) : (s.markRows scr rows).rep = s.rep := by
  unfold State.markRows
  split <;> rfl

theorem State.activityEvent_rep : s.activityEvent.rep = s.rep := by
  unfold State.activityEvent
  split
  · rw [State.setMode_eq]
    rfl
  · rfl

/-- A change of the selection brings the report unit nothing (R101). -/
theorem State.setSel_rep (new : Selection) : (s.setSel new).rep = s.rep := by
  unfold State.setSel
  dsimp only
  have hsync : ((s.modSel fun _ => new).syncLeave (s.sel.state != new.state)).rep = s.rep := State.syncLeave_rep _ _
  repeat' split
  all_goals simp only [State.activityEvent_rep, State.fareEvent, State.markRows_rep, hsync]

theorem State.near_of_presence (h : s.presence = true) : s.near := by
  refine Classical.byContradiction fun hfar => ?_
  have haway := s.away_iff.mpr hfar
  unfold State.away at haway
  rw [h] at haway
  exact Bool.noConfusion haway

/-- SELECTION_DONE leaves no leave deadline: BROWSE is entered with a passenger near only. -/
theorem State.selDone_sel (c : Settings) (hcfg : s.cfg = some c) :
    s.selDone.sel =
      { s.sel with state := if s.presence = true then .browse else .idle, page := 0, handed := none, leave := none } := by
  unfold State.selDone
  rw [(State.setSel_sel _).1]
  generalize hnew : ({ s.sel with state := if s.presence = true then .browse else .idle, page := 0, handed := none } : Selection) = new
  have hcfg' : (s.modSel fun _ => new).cfg = some c := hcfg
  rw [State.syncLeave_none _ hcfg' ?_]
  · rw [← hnew]
    rfl
  subst hnew
  by_cases hpresence : s.presence = true
  · exact .inl (s.near_of_presence hpresence)
  · refine .inr ?_
    change ¬ SelState.leavable (if s.presence = true then .browse else .idle)
    rw [if_neg hpresence]
    simp [SelState.leavable]

/-- Settles O48. -/
theorem selectionDoneAndJournalPush : Obligations.SelectionDoneAndJournalPush := by
  intro s c args hcfg
  refine ⟨fun hready => ?_, fun hready => ?_⟩
  · have hexec : exec .selectionDone s =
        .next (if s.sel.state = .handed then s.selDone.commandDone c 0 else s.commandRefused c Code.notHanded) := by
      change execSelectionDone s = _
      unfold execSelectionDone
      rw [hcfg, s.commandArgs_ready _ args hready]
    refine ⟨fun helse => ?_, fun hhanded => ⟨s.selDone.commandDone c 0, ?_, .commandDone c 0 (.selDone (.refl s)), ?_, ?_⟩⟩
    · rw [hexec, if_neg helse]
      rfl
    · rw [hexec, if_pos hhanded]
    · rw [State.commandDone_eq]
      exact congrArg (·.answered c Code.done 0) (s.setSel_rep _)
    · exact s.selDone_sel c hcfg
  · have hexec : exec .journalPush s =
        .next (if s.bat.unconfirmed = 0 then s.commandRefused c Code.noRecords
          else (s.modLink fun k => { k with push := true }).commandDone c 0) := by
      change execJournalPush s = _
      unfold execJournalPush
      rw [hcfg, s.commandArgs_ready _ args hready]
    refine ⟨fun hnone => ?_, fun hsome => ?_⟩
    · rw [hexec, if_pos hnone]
      rfl
    · rw [hexec, if_neg (Nat.ne_of_gt hsome)]
      rfl

end Sys2Proof.Machine
end

section
/-! PROOFS. CALIBRATE and RESEED (R88, R92, R95). -/

namespace Sys2Proof.Machine

variable (s : State) (p : PanelParams)

/-! ### The channels after one release, calibration or reseed -/

theorem State.chans_set_getElem? (ch k : Nat) (x : Channel) (hne : ch ≠ k) : (s.setChan ch x).panel.chans[k]? = s.panel.chans[k]? := by
  rw [State.setChan_chans, List.getElem?_set_ne hne]

theorem State.chans_set_self (ch : Nat) (x y : Channel) (hy : s.panel.chans[ch]? = some y) :
    (s.setChan ch x).panel.chans[ch]? = some x := by
  rw [State.setChan_chans, List.getElem?_set_self (List.getElem?_eq_some_iff.mp hy).1]

/-- The end of WET reseeds IDLE channels alone (R95). -/
theorem State.wetEnd_keeps (k : Nat) (x : Channel) (hx : s.panel.chans[k]? = some x) (hidle : x.state ≠ .idle) :
    (s.wetEnd p).panel.chans[k]? = some x := by
  have hfold : ∀ (l : List Nat) (t : State), t.panel.chans[k]? = some x →
      (l.foldl (fun s ch => if (s.chan ch).state = .idle then s.reseedChan p ch else s) t).panel.chans[k]? = some x := by
    intro l
    induction l with
    | nil => exact fun _ ht => ht
    | cons ch rest ih =>
      intro t ht
      rw [List.foldl_cons]
      refine ih _ ?_
      split
      next hch =>
        have hne : ch ≠ k := by
          rintro rfl
          exact hidle (t.chan_of_getElem? ch x ht ▸ hch)
        rw [State.reseedChan_eq, State.chans_set_getElem? _ _ _ _ hne, ht]
      next => exact ht
  unfold State.wetEnd
  exact hfold _ s hx

/-- A channel stands when another is released, unless that ends WET and it is IDLE (R95). -/
theorem State.releaseChan_other (ch k : Nat) (hne : ch ≠ k) (x : Channel) (hx : s.panel.chans[k]? = some x)
    (hwet : ch ≠ 7 ∨ x.state ≠ .idle) : (s.releaseChan p ch).panel.chans[k]? = some x := by
  by_cases h7 : ch = 7
  · have hset : (s.setChan ch (s.chan ch).released).panel.chans[k]? = some x := (s.chans_set_getElem? ch k _ hne).trans hx
    have hrelease : s.releaseChan p ch = (s.setChan ch (s.chan ch).released).wetEnd p := by
      subst h7
      rfl
    rw [hrelease]
    exact State.wetEnd_keeps _ p k x hset (hwet.resolve_left (not_not_intro h7))
  · rw [s.releaseChan_chans p ch k (.inl h7), List.getElem?_set_ne hne, hx]

theorem State.releaseChan_self (ch : Nat) (x : Channel) (hx : s.panel.chans[ch]? = some x) :
    (s.releaseChan p ch).panel.chans[ch]? = some x.released := by
  rw [s.releaseChan_chans p ch ch (by omega), List.getElem?_set_self (List.getElem?_eq_some_iff.mp hx).1, s.chan_of_getElem? ch x hx]

/-! ### CALIBRATE (R88) -/

theorem State.startCal_self (ch : Nat) (x : Channel) (hx : s.panel.chans[ch]? = some x) :
    (s.startCal p ch).panel.chans[ch]? = some x.calibrating := by
  unfold State.startCal
  dsimp only
  rw [s.chan_of_getElem? ch x hx]
  split
  · have hreleased := s.releaseChan_self p ch x hx
    rw [State.chans_set_self _ ch _ _ hreleased, State.chan_of_getElem? _ ch _ hreleased]
    rfl
  · rw [State.chans_set_self _ ch _ _ hx, s.chan_of_getElem? ch x hx]

theorem State.startCal_other (ch k : Nat) (hne : ch ≠ k) (x : Channel) (hx : s.panel.chans[k]? = some x)
    (hwet : ch ≠ 7 ∨ x.state ≠ .idle ∨ (s.chan 7).state ≠ .active) : (s.startCal p ch).panel.chans[k]? = some x := by
  unfold State.startCal
  dsimp only
  rw [State.chans_set_getElem? _ _ _ _ hne]
  split
  next hactive =>
    refine s.releaseChan_other p ch k hne x hx ?_
    by_cases h7 : ch = 7
    · subst h7
      exact .inr ((hwet.resolve_left (not_not_intro rfl)).resolve_right (not_not_intro hactive))
    · exact .inl h7
  next => exact hx

/-- A channel that is not IDLE, and named no more, stands through the calibrations to come. -/
theorem State.startCals_keeps (l : List Nat) (k : Nat) (x : Channel) (hk : k ∉ l) (hidle : x.state ≠ .idle)
    (hx : s.panel.chans[k]? = some x) : (l.foldl (fun s ch => s.startCal p ch) s).panel.chans[k]? = some x := by
  induction l generalizing s with
  | nil => exact hx
  | cons ch rest ih =>
    obtain ⟨hne, hrest⟩ := not_or.mp (mt List.mem_cons.mpr hk)
    exact ih (s.startCal p ch) hrest (s.startCal_other p ch k (Ne.symm hne) x hx (.inr (.inl hidle)))

/-- Taken in ascending order every channel named starts its calibration with the baseline it had (log 83). -/
theorem State.startCals_named (l : List Nat) (hsorted : l.Pairwise (· < ·)) (hlt : ∀ ch ∈ l, ch < 8) (k : Nat) (hk : k ∈ l)
    (x : Channel) (hx : s.panel.chans[k]? = some x) :
    (l.foldl (fun s ch => s.startCal p ch) s).panel.chans[k]? = some x.calibrating := by
  induction l generalizing s with
  | nil => exact absurd hk List.not_mem_nil
  | cons ch rest ih =>
    obtain ⟨hfirst, hsorted'⟩ := List.pairwise_cons.mp hsorted
    rw [List.foldl_cons]
    rcases List.mem_cons.mp hk with rfl | hlater
    · exact State.startCals_keeps _ p rest k _ (fun hmem => Nat.lt_irrefl k (hfirst k hmem)) nofun (s.startCal_self p k x hx)
    · have hless := hfirst k hlater
      have hk8 := hlt k hk
      exact ih (s.startCal p ch) hsorted' (fun c hc => hlt c (List.mem_cons_of_mem _ hc)) hlater
        (s.startCal_other p ch k (by omega) x hx (.inl (by omega)))

/-- The rain reference is not in WET. -/
theorem State.wet_false_iff : s.wet = false ↔ (s.chan 7).state ≠ .active := by
  unfold State.wet State.chan
  rw [List.getD_eq_getElem?_getD]
  cases s.panel.chans[7]? with
  | none => simp [Channel.initial]
  | some x => simp

/-- Without WET a calibration leaves the other channels as they are. -/
theorem State.startCal_dry (ch k : Nat) (hne : ch ≠ k) (hdry : (s.chan 7).state ≠ .active) :
    (s.startCal p ch).panel.chans[k]? = s.panel.chans[k]? := by
  unfold State.startCal
  dsimp only
  rw [State.chans_set_getElem? _ _ _ _ hne]
  split
  next hactive =>
    have h7 : ch ≠ 7 := by
      rintro rfl
      exact hdry hactive
    rw [s.releaseChan_chans p ch k (.inl h7), List.getElem?_set_ne hne]
  next => rfl

theorem State.chan_congr (t : State) (ch : Nat) (h : t.panel.chans[ch]? = s.panel.chans[ch]?) : t.chan ch = s.chan ch := by
  rw [State.chan, State.chan, List.getD_eq_getElem?_getD, List.getD_eq_getElem?_getD, h]

/-- No calibration brings WET. -/
theorem State.startCal_keeps_dry (ch : Nat) (hdry : (s.chan 7).state ≠ .active) : ((s.startCal p ch).chan 7).state ≠ .active := by
  by_cases h7 : ch = 7
  · subst h7
    unfold State.startCal
    dsimp only
    rw [if_neg hdry, State.chan, State.setChan_chans, List.getD_eq_getElem?_getD, List.getElem?_set]
    split
    · split <;> simp [Channel.calibrating, Channel.initial]
    · contradiction
  · rw [s.chan_congr _ 7 (s.startCal_dry p ch 7 h7 hdry)]
    exact hdry

/-- Without WET every channel that is not named stands. -/
theorem State.startCals_other (l : List Nat) (k : Nat) (hk : k ∉ l) (hdry : (s.chan 7).state ≠ .active) :
    (l.foldl (fun s ch => s.startCal p ch) s).panel.chans[k]? = s.panel.chans[k]? := by
  induction l generalizing s with
  | nil => rfl
  | cons ch rest ih =>
    obtain ⟨hne, hrest⟩ := not_or.mp (mt List.mem_cons.mpr hk)
    rw [List.foldl_cons, ih _ hrest (s.startCal_keeps_dry p ch hdry), s.startCal_dry p ch k (Ne.symm hne) hdry]

theorem mem_maskChans (m ch : Nat) : ch ∈ maskChans m ↔ ch < 8 ∧ m.testBit ch = true := by
  rw [maskChans, List.mem_filter, List.mem_range]

theorem maskChans_sorted (m : Nat) : (maskChans m).Pairwise (· < ·) := List.pairwise_lt_range.filter _

theorem maskOk_iff (m : Nat) : maskOk m = true ↔ 0 < m ∧ m ≤ 255 := by
  rw [maskOk, Bool.and_eq_true, decide_eq_true_eq, decide_eq_true_eq]
  omega

/-! ### RESEED (R92) -/

/-- What a RESEED that names it makes of a channel in use (R92). -/
def Channel.reseed (x : Channel) (target : Nat) : Channel :=
  let y := if x.state = .active then x.released else x
  if inBand target (y.filtered.tdiv 16) then y.reseeded else y.reseeded.calibrating

theorem Channel.reseed_of_not_active (x : Channel) (target : Nat) (h : x.state ≠ .active) :
    x.reseed target = if inBand target (x.filtered.tdiv 16) then x.reseeded else x.reseeded.calibrating := by
  unfold Channel.reseed
  rw [if_neg h]

theorem Channel.reseed_of_active (x : Channel) (target : Nat) (h : x.state = .active) :
    x.reseed target = if inBand target (x.filtered.tdiv 16) then x.released.reseeded else x.released.reseeded.calibrating := by
  unfold Channel.reseed
  rw [if_pos h]
  rfl

/-- RESEED's step for one channel. -/
def State.reseedStep (s : State) (p : PanelParams) (ch : Nat) : State :=
  match (s.chan ch).state with
  | .idle => s.reseedChan p ch
  | .active => (s.releaseChan p ch).reseedChan p ch
  | .uncalibrated => s
  | .calibrating => s
  | .failed => s

theorem State.reseedMask_eq (m : Nat) : s.reseedMask p m = (maskChans m).foldl (fun s ch => s.reseedStep p ch) s := rfl

theorem State.reseedStep_self (ch : Nat) (x : Channel) (hx : s.panel.chans[ch]? = some x) :
    (s.reseedStep p ch).panel.chans[ch]? =
      some (if x.state = .idle ∨ x.state = .active then x.reseed p.target else x) := by
  have hchan := s.chan_of_getElem? ch x hx
  have hreseed : ∀ (t : State) (y : Channel), t.panel.chans[ch]? = some y → (t.reseedChan p ch).panel.chans[ch]? =
      some (if inBand p.target (y.filtered.tdiv 16) then y.reseeded else y.reseeded.calibrating) := by
    intro t y hy
    rw [State.reseedChan_eq, State.chans_set_self t ch _ y hy, t.chan_of_getElem? ch y hy]
  unfold State.reseedStep
  rw [hchan]
  split
  next hstate =>
    rw [hreseed s x hx, if_pos (Or.inl hstate), x.reseed_of_not_active _ (by rw [hstate]; exact nofun)]
  next hstate =>
    rw [hreseed _ _ (s.releaseChan_self p ch x hx), if_pos (Or.inr hstate), x.reseed_of_active _ hstate]
    rfl
  all_goals
    rename_i hstate
    rw [hx, if_neg (by rw [hstate]; exact nofun)]

/-- Without WET a reseed leaves the other channels as they are. -/
theorem State.reseedStep_dry (ch k : Nat) (hne : ch ≠ k) (hdry : (s.chan 7).state ≠ .active) :
    (s.reseedStep p ch).panel.chans[k]? = s.panel.chans[k]? := by
  have hreseed : ∀ t : State, (t.reseedChan p ch).panel.chans[k]? = t.panel.chans[k]? := by
    intro t
    rw [State.reseedChan_eq, State.chans_set_getElem? _ _ _ _ hne]
  unfold State.reseedStep
  split
  next => exact hreseed s
  next hactive =>
    have h7 : ch ≠ 7 := by
      rintro rfl
      exact hdry hactive
    rw [hreseed, s.releaseChan_chans p ch k (.inl h7), List.getElem?_set_ne hne]
  all_goals rfl

/-- No reseed brings WET. -/
theorem State.reseedStep_keeps_dry (ch : Nat) (hdry : (s.chan 7).state ≠ .active) : ((s.reseedStep p ch).chan 7).state ≠ .active := by
  by_cases h7 : ch = 7
  · subst h7
    cases hx : s.panel.chans[7]? with
    | none =>
      have hshort : s.panel.chans.length ≤ 7 := List.getElem?_eq_none_iff.mp hx
      have hchan : s.chan 7 = Channel.initial := by rw [State.chan, List.getD_eq_getElem?_getD, hx]; rfl
      unfold State.reseedStep
      rw [hchan]
      exact hdry
    | some x =>
      have hchan := s.chan_of_getElem? 7 x hx
      rw [hchan] at hdry
      rw [State.chan_of_getElem? _ 7 _ (s.reseedStep_self p 7 x hx)]
      split
      next huse =>
        have hidle : x.state = .idle := huse.resolve_right hdry
        unfold Channel.reseed
        rw [if_neg hdry]
        dsimp only
        split
        · exact hdry
        · exact nofun
      next => exact hdry
  · rw [s.chan_congr _ 7 (s.reseedStep_dry p ch 7 h7 hdry)]
    exact hdry

/-- Without WET a RESEED takes each channel it names by itself. -/
theorem State.reseedSteps_chans (l : List Nat) (hnodup : l.Nodup) (hdry : (s.chan 7).state ≠ .active) (k : Nat) (x : Channel)
    (hx : s.panel.chans[k]? = some x) :
    (l.foldl (fun s ch => s.reseedStep p ch) s).panel.chans[k]? =
      some (if k ∈ l ∧ (x.state = .idle ∨ x.state = .active) then x.reseed p.target else x) := by
  have hkeeps : ∀ (l : List Nat) (t : State), k ∉ l → (t.chan 7).state ≠ .active →
      (l.foldl (fun s ch => s.reseedStep p ch) t).panel.chans[k]? = t.panel.chans[k]? := by
    intro l
    induction l with
    | nil => exact fun _ _ _ => rfl
    | cons ch rest ih =>
      intro t hk ht
      obtain ⟨hne, hrest⟩ := not_or.mp (mt List.mem_cons.mpr hk)
      rw [List.foldl_cons, ih _ hrest (t.reseedStep_keeps_dry p ch ht), t.reseedStep_dry p ch k (Ne.symm hne) ht]
  induction l generalizing s with
  | nil =>
    rw [if_neg fun h => List.not_mem_nil h.1]
    exact hx
  | cons ch rest ih =>
    obtain ⟨hfresh, hnodup'⟩ := List.nodup_cons.mp hnodup
    rw [List.foldl_cons]
    by_cases hch : ch = k
    · subst hch
      rw [hkeeps rest _ hfresh (s.reseedStep_keeps_dry p ch hdry), s.reseedStep_self p ch x hx]
      simp only [List.mem_cons_self, true_and]
    · rw [ih _ hnodup' (s.reseedStep_keeps_dry p ch hdry) ((s.reseedStep_dry p ch k hch hdry).trans hx)]
      simp only [List.mem_cons, Ne.symm hch, false_or]

/-! ### The commands -/

theorem State.startCal_rep (ch : Nat) : (s.startCal p ch).rep = s.rep := by
  unfold State.startCal
  dsimp only
  rw [State.setChan_rep]
  split
  · exact s.releaseChan_rep p ch
  · rfl

theorem State.reseedStep_rep (ch : Nat) : (s.reseedStep p ch).rep = s.rep := by
  unfold State.reseedStep
  split
  next => rfl
  next =>
    rw [State.reseedChan_eq, State.setChan_rep]
    exact s.releaseChan_rep p ch
  all_goals rfl

theorem State.foldl_rep (l : List Nat) (f : State → Nat → State) (hf : ∀ t ch, (f t ch).rep = t.rep) : (l.foldl f s).rep = s.rep := by
  induction l generalizing s with
  | nil => rfl
  | cons ch rest ih => rw [List.foldl_cons, ih, hf]

theorem exec_calibrate (c : Settings) (hcfg : s.cfg = some c) (args : List Word) (hready : s.rep.command = .ready .calibrate args) :
    exec .calibrate s =
      .next (if maskOk (args.getD 0 0).toNat then
          ((((maskChans (args.getD 0 0).toNat).foldl (fun s ch => s.startCal c.panel ch) (s.ownCommand .calibrate)).modPanel
            fun p => { p with calMask := some (args.getD 0 0).toNat }).syncLeave false)
        else s.commandRefused c Code.badField) := by
  change execCalibrate s = _
  unfold execCalibrate
  rw [hcfg, s.commandArgs_ready _ args hready]

theorem exec_reseed (c : Settings) (hcfg : s.cfg = some c) (args : List Word) (hready : s.rep.command = .ready .reseed args) :
    exec .reseed s =
      .next (if maskOk (args.getD 0 0).toNat then ((s.reseedMask c.panel (args.getD 0 0).toNat).syncLeave false).commandDone c 0
        else s.commandRefused c Code.badField) := by
  change execReseed s = _
  unfold execReseed
  rw [hcfg, s.commandArgs_ready _ args hready]

/-- What a RESEED makes of a channel in use, in the words of the statement. -/
theorem Channel.reseed_eq (x : Channel) (target : Nat) (huse : x.state = .idle ∨ x.state = .active) :
    x.reseed target =
      if (x.filtered.tdiv 16 - (target : Int)).natAbs ≤ target / 8 then
        { x with state := .idle, debounce := if x.state = .active then 0 else x.debounce, baseline := x.filtered, delta := 0 }
      else { x with state := .calibrating, gain := 0, calStep := 0, debounce := 0, baseline := x.filtered, delta := 0 } := by
  have hband : inBand target (x.filtered.tdiv 16) = decide ((x.filtered.tdiv 16 - (target : Int)).natAbs ≤ target / 8) := rfl
  obtain ⟨state, gain, filtered, baseline, delta, debounce, onset, calStep⟩ := x
  rcases huse with rfl | rfl
  · rw [Channel.reseed_of_not_active _ _ (show ChanState.idle ≠ .active by decide), hband]
    simp only [decide_eq_true_eq]
    rfl
  · rw [Channel.reseed_of_active _ _ rfl, hband]
    simp only [decide_eq_true_eq]
    rfl

/-- Settles O46. -/
theorem calibrateAndReseed : Obligations.CalibrateAndReseed := by
  intro s c args hcfg
  refine ⟨fun hready => ⟨fun hbad => ?_, fun hsome hrange => ?_⟩, fun hready => ⟨fun hbad => ?_, fun hsome hrange hdry => ?_⟩⟩
  · rw [exec_calibrate s c hcfg args hready, if_neg (by rw [maskOk_iff]; omega)]
    rfl
  · refine ⟨_, (exec_calibrate s c hcfg args hready).trans (congrArg _ (if_pos ((maskOk_iff _).mpr ⟨hsome, hrange⟩))), ?_, ?_, ?_, ?_, ?_⟩
    · exact .syncLeave _ (.modPanel _ (.foldl (fun _ _ h => .startCal _ _ h) (.ownCommand _ (.refl s))))
    · rw [State.syncLeave_rep]
      exact congrArg ReportUnit.command (State.foldl_rep (s.ownCommand .calibrate) (maskChans (args.getD 0 0).toNat) _
        fun t ch => t.startCal_rep c.panel ch)
    · rw [State.syncLeave_panel]
      rfl
    · intro ch x hlt hx hnamed
      rw [State.syncLeave_panel]
      exact State.startCals_named (s.ownCommand .calibrate) c.panel _ (maskChans_sorted _) (fun k hk => ((mem_maskChans _ k).mp hk).1) ch
        ((mem_maskChans _ ch).mpr ⟨hlt, hnamed⟩) x hx
    · intro ch hlt hdry hother
      rw [State.syncLeave_panel]
      refine State.startCals_other (s.ownCommand .calibrate) c.panel _ ch (fun hmem => ?_) (s.wet_false_iff.mp hdry)
      exact Bool.noConfusion (hother.symm.trans ((mem_maskChans _ ch).mp hmem).2)
  · rw [exec_reseed s c hcfg args hready, if_neg (by rw [maskOk_iff]; omega)]
    rfl
  · refine ⟨_, (exec_reseed s c hcfg args hready).trans (congrArg _ (if_pos ((maskOk_iff _).mpr ⟨hsome, hrange⟩))), ?_, ?_, ?_⟩
    · exact .commandDone c 0 (.syncLeave _ (.reseedMask _ _ (.refl s)))
    · rw [State.commandDone_eq]
      refine congrArg (fun r : ReportUnit => r.answered c Code.done 0) ?_
      rw [State.syncLeave_rep, State.reseedMask_eq, State.foldl_rep _ _ _ fun t ch => t.reseedStep_rep c.panel ch]
    · intro ch x hlt hx
      rw [State.commandDone_eq]
      change ((s.reseedMask c.panel (args.getD 0 0).toNat).syncLeave false).panel.chans[ch]? = _
      have hnodup : (maskChans (args.getD 0 0).toNat).Nodup := (maskChans_sorted _).imp Nat.ne_of_lt
      rw [State.syncLeave_panel, State.reseedMask_eq, s.reseedSteps_chans c.panel _ hnodup (s.wet_false_iff.mp hdry) ch x hx]
      by_cases hnamed : (args.getD 0 0).toNat.testBit ch = true ∧ (x.state = .idle ∨ x.state = .active)
      · rw [if_pos ⟨(mem_maskChans _ ch).mpr ⟨hlt, hnamed.1⟩, hnamed.2⟩, if_pos hnamed, x.reseed_eq c.panel.target hnamed.2]
      · rw [if_neg fun h => hnamed ⟨((mem_maskChans _ ch).mp h.1).2, h.2⟩, if_neg hnamed]

end Sys2Proof.Machine
end

section
/-! PROOFS. The host's cycles, by the word they address (R174 to R178, R181, R193). -/

namespace Sys2Proof.Machine

variable (s : State)

/-! ### A cycle alone (R178, R181) -/

/-- The state with one host cycle waiting. -/
def State.alone (h : HostCycle) : State := { s with path := { s.path with waiting := [h] } }

/-- The state with no host cycle waiting. -/
def State.hostDone : State := { s with path := { s.path with waiting := [], hold := 0 } }

theorem State.present_served (h : HostCycle) (hfree : s.portFree) (hcycle : s.noCycle h = false) :
    s.present h = ((s.alone h).takeCycle h).hostDone := s.present_free h hfree hcycle

theorem State.present_atOnce (h : HostCycle) (hmain : s.power.main = true) (hwaiting : s.path.waiting = [])
    (hcycle : s.noCycle h = true) : s.present h = (s.takeCycle h).hostDone := s.present_taken h hmain hwaiting hcycle

/-! ### Which block takes a write (R174, R175, R177) -/

/-- A write that the load area does not take up goes to the windows of the map. -/
theorem State.takeWrite_mapped (c : Settings) (hcfg : s.cfg = some c) (hreset : s.power.reset = false) (a : Nat) (v : Word) (l : Lanes)
    (hout : ¬ (0x400 ≤ a ∧ a < 0xC00)) : s.takeWrite a v l = s.writeMapped c a v l := by
  have hregion : inRegion a Config.loadWord 2048 = false := (inRegion_false_iff a 0x400 2048).mpr hout
  unfold State.takeWrite
  rw [if_neg (by rw [hreset]; exact Bool.false_ne_true), if_neg (by rw [hregion]; exact fun h => Bool.false_ne_true h.2),
    if_neg fun h => hout (by change a = 0x400 ∧ _ at h; omega), hcfg]

theorem State.drops_mapped (c : Settings) (hcfg : s.cfg = some c) (hreset : s.power.reset = false) (a : Nat) (v : Word) (l : Lanes)
    (hout : ¬ (0x400 ≤ a ∧ a < 0xC00)) :
    s.drops a v l =
      if inRegion a c.win.intake 256 then s.path.intake.getD ((a - c.win.intake) / 16) .clear != .clear
      else if inRegion a c.win.sale 64 then s.path.sale.getD ((a - c.win.sale) / 16) .clear != .clear
      else if inRegion a c.win.report 64 then
        (inRegion a (c.win.reportWord 4) 10 && s.path.command != .clear) || partWritten (a - c.win.report) ||
        (a == c.win.reportWord 31 && !s.indexOk (mergeLanes (BitVec.ofNat 16 s.rep.inRead) v l).toNat)
      else inRegion a c.win.journal (16 + 14 * c.win.jsize) := by
  have hregion : inRegion a Config.loadWord 2048 = false := (inRegion_false_iff a 0x400 2048).mpr hout
  unfold State.drops
  rw [hreset, hregion, hcfg]
  simp

/-- A word of the journal window lies outside the load area and the other watched windows. -/
theorem Settings.windowsFit.journal {c : Settings} (hfit : c.windowsFit) {a : Nat}
    (hin : inRegion a c.win.journal (16 + 14 * c.win.jsize) = true) :
    ¬ (0x400 ≤ a ∧ a < 0xC00) ∧ inRegion a c.win.intake 256 = false ∧ inRegion a c.win.sale 64 = false ∧
    inRegion a c.win.report 64 = false := by
  have hplaces := hfit.places
  have hload : c.win.journal + (16 + 14 * c.win.jsize) ≤ 1024 ∨ 3072 ≤ c.win.journal := by
    have hok : windowsOk c.win = true := hfit
    simp [windowsOk, Windows.regions, allApart, regionFits, regionsApart, loadRegion, Config.loadWord] at hok
    omega
  simp only [inRegion_iff, inRegion_false_iff] at hin ⊢
  omega

section
variable (c : Settings) (hcfg : s.cfg = some c) (hfit : c.windowsFit) (hreset : s.power.reset = false) (a : Nat) (v : Word) (l : Lanes)
include hcfg hfit hreset

theorem State.takeWrite_intake (hin : inRegion a c.win.intake 256 = true) : s.takeWrite a v l = s.writeIntake c.win a v l := by
  rw [s.takeWrite_mapped c hcfg hreset a v l (hfit.intake hin).1, State.writeMapped, if_pos hin]

theorem State.drops_intake (hin : inRegion a c.win.intake 256 = true) :
    s.drops a v l = (s.path.intake.getD ((a - c.win.intake) / 16) .clear != .clear) := by
  rw [s.drops_mapped c hcfg hreset a v l (hfit.intake hin).1, if_pos hin]

theorem State.takeWrite_sale (hin : inRegion a c.win.sale 64 = true) : s.takeWrite a v l = s.writeSale c.win a v l := by
  obtain ⟨hout, -, hintake, -⟩ := hfit.sale hin
  rw [s.takeWrite_mapped c hcfg hreset a v l hout, State.writeMapped, hintake, if_neg Bool.false_ne_true, if_pos hin]

theorem State.drops_sale (hin : inRegion a c.win.sale 64 = true) :
    s.drops a v l = (s.path.sale.getD ((a - c.win.sale) / 16) .clear != .clear) := by
  obtain ⟨hout, -, hintake, -⟩ := hfit.sale hin
  rw [s.drops_mapped c hcfg hreset a v l hout, hintake, if_neg Bool.false_ne_true, if_pos hin]

theorem State.takeWrite_report (hin : inRegion a c.win.report 64 = true) : s.takeWrite a v l = s.writeReport c a v l := by
  obtain ⟨hout, -, hintake, hsale, -⟩ := hfit.report hin
  rw [s.takeWrite_mapped c hcfg hreset a v l hout, State.writeMapped, hintake, hsale, if_neg Bool.false_ne_true,
    if_neg Bool.false_ne_true, if_pos hin]

theorem State.drops_report (hin : inRegion a c.win.report 64 = true) :
    s.drops a v l =
      ((inRegion a (c.win.reportWord 4) 10 && s.path.command != .clear) || partWritten (a - c.win.report) ||
      (a == c.win.reportWord 31 && !s.indexOk (mergeLanes (BitVec.ofNat 16 s.rep.inRead) v l).toNat)) := by
  obtain ⟨hout, -, hintake, hsale, -⟩ := hfit.report hin
  rw [s.drops_mapped c hcfg hreset a v l hout, hintake, hsale, if_neg Bool.false_ne_true, if_neg Bool.false_ne_true, if_pos hin]

theorem State.takeWrite_journal (hin : inRegion a c.win.journal (16 + 14 * c.win.jsize) = true) :
    s.takeWrite a v l = s.dropProtected := by
  obtain ⟨hout, hintake, hsale, hreport⟩ := hfit.journal hin
  rw [s.takeWrite_mapped c hcfg hreset a v l hout, State.writeMapped, hintake, hsale, hreport, if_neg Bool.false_ne_true,
    if_neg Bool.false_ne_true, if_neg Bool.false_ne_true, if_pos hin]

theorem State.drops_journal (hin : inRegion a c.win.journal (16 + 14 * c.win.jsize) = true) : s.drops a v l = true := by
  obtain ⟨hout, hintake, hsale, hreport⟩ := hfit.journal hin
  rw [s.drops_mapped c hcfg hreset a v l hout, hintake, hsale, hreport, if_neg Bool.false_ne_true, if_neg Bool.false_ne_true,
    if_neg Bool.false_ne_true, hin]

end

/-! ### A word of the report window (R175, R176, R178) -/

theorem State.map?_some (c : Settings) (hcfg : s.cfg = some c) (hreset : s.power.reset = false) : s.map? = some c.win := by
  rw [State.map?, hreset, hcfg]
  rfl

theorem inRegion_offset (base o len : Nat) (ho : o < len) : inRegion (base + o) base len = true := by
  rw [inRegion_iff]
  omega

/-- The word `o` of the report window refuses a write: it is the part's, its command is busy, or the index is out of place. -/
def State.refusesReport (o : Nat) (v : Word) (l : Lanes) : Prop :=
  (4 ≤ o ∧ o ≤ 13 ∧ s.path.command ≠ .clear) ∨ partWritten o = true ∨
  (o = 31 ∧ s.indexOk (mergeLanes (BitVec.ofNat 16 s.rep.inRead) v l).toNat = false)

section
variable (c : Settings) (hcfg : s.cfg = some c) (hfit : c.windowsFit) (hreset : s.power.reset = false) (o : Nat) (ho : o < 64) (v : Word)
  (l : Lanes)
include hcfg hfit hreset ho

theorem State.drops_report_iff : s.drops (c.win.report + o) v l = true ↔ s.refusesReport o v l := by
  have hcommand : inRegion (c.win.report + o) (c.win.reportWord 4) 10 = true ↔ 4 ≤ o ∧ o ≤ 13 := by
    rw [inRegion_iff, Windows.reportWord]
    omega
  have hindex : c.win.report + o = c.win.reportWord 31 ↔ o = 31 := by rw [Windows.reportWord]; omega
  rw [s.drops_report c hcfg hfit hreset _ v l (inRegion_offset _ o 64 ho), Nat.add_sub_cancel_left]
  simp only [Bool.or_eq_true, Bool.and_eq_true, beq_iff_eq, bne_iff_ne, Bool.not_eq_true', hcommand, hindex, State.refusesReport,
    or_assoc, and_assoc]

/-- A write to the report window that is not refused is served while the port is free. -/
theorem State.present_report (a : Addr) (ha : a.toNat = c.win.report + o) (hfree : s.portFree) (htakes : ¬ s.refusesReport o v l) :
    s.present (.write a v l) = ((s.alone (.write a v l)).writeReport c (c.win.report + o) v l).hostDone := by
  have hcycle : s.noCycle (.write a v l) = false := by
    rw [State.noCycle, ha, Bool.eq_false_iff, ne_eq, s.drops_report_iff c hcfg hfit hreset o ho v l]
    exact htakes
  rw [s.present_served _ hfree hcycle, State.takeCycle, ha,
    (s.alone (.write a v l)).takeWrite_report c hcfg hfit hreset _ v l (inRegion_offset _ o 64 ho)]

/-- One that is refused is dropped at once. -/
theorem State.present_report_refused (a : Addr) (ha : a.toNat = c.win.report + o) (hmain : s.power.main = true)
    (hwaiting : s.path.waiting = []) (hrefused : s.refusesReport o v l) :
    s.present (.write a v l) = (s.writeReport c (c.win.report + o) v l).hostDone := by
  have hcycle : s.noCycle (.write a v l) = true := by
    rw [State.noCycle, ha]
    exact (s.drops_report_iff c hcfg hfit hreset o ho v l).mpr hrefused
  rw [s.present_atOnce _ hmain hwaiting hcycle, State.takeCycle, ha,
    s.takeWrite_report c hcfg hfit hreset _ v l (inRegion_offset _ o 64 ho)]

end

theorem State.presentReport_eq (c : Settings) (hcfg : s.cfg = some c) (hreset : s.power.reset = false) (o : Nat) (v : Word) (l : Lanes) :
    s.presentReport o v l = s.present (.write (BitVec.ofNat 20 (c.win.report + o)) v l) := by
  rw [State.presentReport, s.map?_some c hcfg hreset]
  rfl

theorem Settings.windowsFit.report_toNat {c : Settings} (hfit : c.windowsFit) (o : Nat) (ho : o < 64) :
    (BitVec.ofNat 20 (c.win.report + o)).toNat = c.win.report + o := by
  have hplaces := hfit.places
  rw [BitVec.toNat_ofNat, Nat.mod_eq_of_lt (by omega)]

theorem State.writeReport_busy (c : Settings) (o : Nat) (v : Word) (l : Lanes) (hbusy : 4 ≤ o ∧ o ≤ 13 ∧ s.path.command ≠ .clear) :
    s.writeReport c (c.win.report + o) v l = s.dropBusy := by
  unfold State.writeReport
  dsimp only
  rw [Nat.add_sub_cancel_left, if_pos hbusy]

theorem State.writeReport_protected (c : Settings) (o : Nat) (v : Word) (l : Lanes)
    (hidle : ¬ (4 ≤ o ∧ o ≤ 13 ∧ s.path.command ≠ .clear)) (hpart : partWritten o = true) :
    s.writeReport c (c.win.report + o) v l = s.dropProtected := by
  unfold State.writeReport
  dsimp only
  rw [Nat.add_sub_cancel_left, if_neg hidle, if_pos hpart]

end Sys2Proof.Machine
end

section
/-! PROOFS. The observed words of the report window: mask, enable, clear word and read index (R176, R184, R185, R189); the clock
group (R39, R180). -/

namespace Sys2Proof.Machine

variable (s : State)

/-! ### Lanes (R176) -/

theorem hi_lo_append (x y : Word) : hiByte x ++ loByte y = (x &&& 0xFF00) ||| (y &&& 0x00FF) := by
  unfold hiByte loByte
  apply BitVec.eq_of_getLsbD_eq
  intro i hi
  rw [BitVec.getLsbD_append, BitVec.getLsbD_or, BitVec.getLsbD_and, BitVec.getLsbD_and, BitVec.getLsbD_extractLsb',
    BitVec.getLsbD_extractLsb']
  have hcases : i = 0 ∨ i = 1 ∨ i = 2 ∨ i = 3 ∨ i = 4 ∨ i = 5 ∨ i = 6 ∨ i = 7 ∨
      i = 8 ∨ i = 9 ∨ i = 10 ∨ i = 11 ∨ i = 12 ∨ i = 13 ∨ i = 14 ∨ i = 15 := by omega
  rcases hcases with rfl | rfl | rfl | rfl | rfl | rfl | rfl | rfl | rfl | rfl | rfl | rfl | rfl | rfl | rfl | rfl <;> simp

theorem mergeLanes_eq (own v : Word) (l : Lanes) :
    mergeLanes own v l = match l with
      | .both => v
      | .high => (v &&& 0xFF00) ||| (own &&& 0x00FF)
      | .low => (own &&& 0xFF00) ||| (v &&& 0x00FF) := by
  cases l
  · rfl
  · exact hi_lo_append v own
  · exact hi_lo_append own v

theorem mergeLanes_zero (v : Word) (l : Lanes) :
    mergeLanes 0 v l = match l with
      | .both => v
      | .high => v &&& 0xFF00
      | .low => v &&& 0x00FF := by
  rw [mergeLanes_eq]
  cases l <;> simp

/-- The byte of a write to the read index joins the byte the part has. -/
theorem mergeLanes_low_toNat (n : Nat) (w : Word) :
    (mergeLanes (BitVec.ofNat 16 n) w .low).toNat = n % 65536 / 256 * 256 + w.toNat % 256 := by
  change (hiByte (BitVec.ofNat 16 n) ++ loByte w).toNat = _
  unfold hiByte loByte
  rw [BitVec.toNat_append, BitVec.extractLsb'_toNat, BitVec.extractLsb'_toNat, BitVec.toNat_ofNat, ← Nat.shiftLeft_add_eq_or_of_lt,
    Nat.shiftLeft_eq, Nat.shiftRight_eq_div_pow]
  · omega
  · omega

/-! ### The clear word, the mask and the global enable (R184, R185) -/

section
variable (c : Settings) (hcfg : s.cfg = some c) (hfit : c.windowsFit) (hfree : s.portFree)
include hcfg hfit hfree

/-- A command that writes a word of the report window the part does not refuse. -/
theorem State.presentReport_taken (o : Nat) (ho : o < 64) (v : Word) (l : Lanes) (htakes : ¬ s.refusesReport o v l) :
    s.presentReport o v l =
      ((s.alone (.write (BitVec.ofNat 20 (c.win.report + o)) v l)).writeReport c (c.win.report + o) v l).hostDone := by
  rw [s.presentReport_eq c hcfg hfree.2.1, s.present_report c hcfg hfit hfree.2.1 o ho v l _ (hfit.report_toNat o ho) hfree htakes]

theorem State.presentReport_dropped (o : Nat) (ho : o < 64) (v : Word) (l : Lanes) (hrefused : s.refusesReport o v l) :
    s.presentReport o v l = (s.writeReport c (c.win.report + o) v l).hostDone := by
  rw [s.presentReport_eq c hcfg hfree.2.1,
    s.present_report_refused c hcfg hfit hfree.2.1 o ho v l _ (hfit.report_toNat o ho) hfree.1 hfree.2.2.1 hrefused]

end

/-- The words that the part neither owns nor holds for a command, nor tests, take every write. -/
theorem State.not_refusesReport (o : Nat) (v : Word) (l : Lanes) (ho : o = 1 ∨ o = 2 ∨ o = 3) : ¬ s.refusesReport o v l := by
  rintro (⟨hfour, -⟩ | hpart | ⟨hindex, -⟩)
  · omega
  · rcases ho with rfl | rfl | rfl <;> exact absurd hpart (by decide)
  · omega

theorem State.writeReport_mask (c : Settings) (v : Word) (l : Lanes) :
    s.writeReport c (c.win.report + 1) v l = (s.pokeLanes (c.win.report + 1) v l).writeMask v l := by
  unfold State.writeReport
  dsimp only
  rw [Nat.add_sub_cancel_left, if_neg (by omega), if_neg (by decide), if_pos rfl]

theorem State.writeReport_enable (c : Settings) (v : Word) (l : Lanes) :
    s.writeReport c (c.win.report + 2) v l = (s.pokeLanes (c.win.report + 2) v l).writeEnable v l := by
  unfold State.writeReport
  dsimp only
  rw [Nat.add_sub_cancel_left, if_neg (by omega), if_neg (by decide), if_neg (by decide), if_pos rfl]

theorem State.writeReport_clear (c : Settings) (v : Word) (l : Lanes) :
    s.writeReport c (c.win.report + 3) v l = (s.pokeLanes (c.win.report + 3) v l).writeClear v l := by
  unfold State.writeReport
  dsimp only
  rw [Nat.add_sub_cancel_left, if_neg (by omega), if_neg (by decide), if_neg (by decide), if_neg (by decide), if_pos rfl]

theorem State.writeReport_index (c : Settings) (v : Word) (l : Lanes) :
    s.writeReport c (c.win.report + 31) v l = s.writeIndex (c.win.report + 31) v l := by
  unfold State.writeReport
  dsimp only
  rw [Nat.add_sub_cancel_left, if_neg (by omega), if_neg (by decide), if_neg (by decide), if_neg (by decide), if_neg (by decide),
    if_pos rfl]

theorem exec_clearWord (c : Settings) (hcfg : s.cfg = some c) (hfit : c.windowsFit) (hfree : s.portFree) (v : Word) (l : Lanes) :
    exec (.clearWord v l) s = .next
      { s with
        mem := Memory.writeLanes s.mem (c.win.report + 3) v l
        path := { s.path with waiting := [], hold := 0 }
        rep := { s.rep with flags := s.rep.flags &&& ~~~ (mergeLanes 0 v l) } } := by
  change Host.Outcome.next (s.presentReport 3 v l) = _
  rw [s.presentReport_taken c hcfg hfit hfree 3 (by omega) v l (s.not_refusesReport 3 v l (.inr (.inr rfl))), State.writeReport_clear]
  rfl

/-- Settles O28. -/
theorem flagsAreRaisedAndCleared : Obligations.FlagsAreRaisedAndCleared := by
  refine ⟨fun s f => ⟨rfl, ?_⟩, fun s c v l hcfg hfit hfree => ?_, fun s c l hcfg hfit hfree => ⟨_, exec_clearWord s c hcfg hfit hfree 0 l, ?_⟩⟩
  · rw [State.raise_eq, State.raise_eq]
    unfold ReportUnit.raised
    dsimp only
    rw [BitVec.or_assoc, BitVec.or_self]
  · rw [exec_clearWord s c hcfg hfit hfree, mergeLanes_zero] <;> cases l <;> rfl
  · have hzero : mergeLanes 0 0 l = 0 := by cases l <;> rfl
    have hclear : s.rep.flags &&& ~~~ (0 : Word) = s.rep.flags := BitVec.and_allOnes
    rw [hzero]
    dsimp only
    rw [hclear]

theorem exec_mask (c : Settings) (hcfg : s.cfg = some c) (hfit : c.windowsFit) (hfree : s.portFree) (v : Word) (l : Lanes) :
    exec (.mask v l) s = .next
      { s with
        mem := Memory.writeLanes s.mem (c.win.report + 1) v l
        path := { s.path with waiting := [], hold := 0 }
        rep := { s.rep with mask := mergeLanes s.rep.mask v l } } := by
  change Host.Outcome.next (s.presentReport 1 v l) = _
  rw [s.presentReport_taken c hcfg hfit hfree 1 (by omega) v l (s.not_refusesReport 1 v l (.inl rfl)), State.writeReport_mask]
  rfl

theorem exec_globalEnable (c : Settings) (hcfg : s.cfg = some c) (hfit : c.windowsFit) (hfree : s.portFree) (v : Word) (l : Lanes) :
    exec (.globalEnable v l) s = .next
      { s with
        mem := Memory.writeLanes s.mem (c.win.report + 2) v l
        path := { s.path with waiting := [], hold := 0 }
        rep := { s.rep with enable := mergeLanes s.rep.enable v l } } := by
  change Host.Outcome.next (s.presentReport 2 v l) = _
  rw [s.presentReport_taken c hcfg hfit hfree 2 (by omega) v l (s.not_refusesReport 2 v l (.inr (.inl rfl))), State.writeReport_enable]
  rfl

/-! ### The input read index (R189) -/

theorem State.indexOk_iff (n : Nat) :
    s.indexOk n = true ↔ n ≤ 15 ∧ (n + 16 - s.rep.inRead) % 16 ≤ (s.rep.inWrite + 16 - s.rep.inRead) % 16 := by
  rw [State.indexOk, Bool.and_eq_true, decide_eq_true_eq, decide_eq_true_eq]
  rfl

/-- The merged value of a write of the read index decides whether it is taken. -/
theorem exec_inputReadIndex (c : Settings) (hcfg : s.cfg = some c) (hfit : c.windowsFit) (hfree : s.portFree) (v : Word) (l : Lanes)
    (n : Nat) (hn : (mergeLanes (BitVec.ofNat 16 s.rep.inRead) v l).toNat = n) :
    exec (.inputReadIndex v l) s = .next
      (if n ≤ 15 ∧ (n + 16 - s.rep.inRead) % 16 ≤ (s.rep.inWrite + 16 - s.rep.inRead) % 16 then
        { s with
          mem := Memory.writeLanes s.mem (c.win.report + 31) v l
          path := { s.path with waiting := [], hold := 0 }, rep := { s.rep with inRead := n } }
      else
        { s with
          path := { s.path with waiting := [], hold := 0 }, rep := (s.rep.counted .protectedWrite 1).raised .writeDropped }) := by
  have hrefuses : s.refusesReport 31 v l ↔ s.indexOk n = false := by
    unfold State.refusesReport
    rw [hn]
    simp [partWritten]
  change Host.Outcome.next (s.presentReport 31 v l) = _
  split
  next hok =>
    have hindex := (s.indexOk_iff n).mpr hok
    rw [s.presentReport_taken c hcfg hfit hfree 31 (by omega) v l (by rw [hrefuses, hindex]; exact nofun), State.writeReport_index]
    unfold State.writeIndex
    change Host.Outcome.next (State.hostDone (if s.indexOk (mergeLanes (BitVec.ofNat 16 s.rep.inRead) v l).toNat = true then _ else _)) = _
    rw [hn, if_pos hindex]
    subst hn
    rfl
  next hbad =>
    have hindex : s.indexOk n = false := Bool.eq_false_iff.mpr fun h => hbad ((s.indexOk_iff n).mp h)
    rw [s.presentReport_dropped c hcfg hfit hfree 31 (by omega) v l (hrefuses.mpr hindex), State.writeReport_index]
    unfold State.writeIndex
    dsimp only
    rw [hn, hindex]
    rfl

/-- Settles O29. -/
theorem maskEnableAndReadIndex : Obligations.MaskEnableAndReadIndex := by
  refine ⟨fun s c v l hcfg hfit hfree => ⟨?_, ?_⟩, fun s c v hcfg hfit hfree => ⟨fun hok => ?_, fun hbad => ?_, fun w n hn hrange hspan => ?_⟩,
    fun s => ?_, fun s v => rfl⟩
  · rw [exec_mask s c hcfg hfit hfree, mergeLanes_eq] <;> cases l <;> rfl
  · rw [exec_globalEnable s c hcfg hfit hfree, mergeLanes_eq] <;> cases l <;> rfl
  · rw [exec_inputReadIndex s c hcfg hfit hfree v .both v.toNat rfl, if_pos hok]
  · rw [exec_inputReadIndex s c hcfg hfit hfree v .both v.toNat rfl, if_neg hbad]
  · rw [exec_inputReadIndex s c hcfg hfit hfree w .low n ((mergeLanes_low_toNat _ w).trans hn.symm), if_pos ⟨hrange, hspan⟩]
  · unfold State.attention
    cases s.rep.shown <;> simp

/-! ### The clock group (R39, R180) -/

theorem exec_clockGroupRead (c : Settings) (hcfg : s.cfg = some c) (hfit : c.windowsFit) (hmain : s.power.main = true)
    (hreset : s.power.reset = false) (hwaiting : s.path.waiting = []) (k : Fin 3) :
    exec (.clockGroupRead k) s = .next (s.readClock k.val).hostDone := by
  have haddr := hfit.report_toNat (27 + k.val) (by omega)
  have hclock : s.clockWord? (BitVec.ofNat 20 (c.win.report + (27 + k.val))).toNat = some k.val := by
    unfold State.clockWord?
    rw [haddr, s.map?_some c hcfg hreset]
    dsimp only
    rw [if_pos (by rw [inRegion_iff, Windows.reportWord]; omega), Windows.reportWord]
    congr 1
    omega
  have hread : exec (.clockGroupRead k) s = .next (s.present (.read (BitVec.ofNat 20 (c.win.report + (27 + k.val))))) := by
    change execClockGroupRead k s = _
    unfold execClockGroupRead
    rw [s.map?_some c hcfg hreset]
    rfl
  rw [hread, s.present_atOnce _ hmain hwaiting (by rw [State.noCycle, hclock]; rfl), State.takeCycle, State.takeRead, hclock]

/-- Settles O30. -/
theorem clockGroupRead : Obligations.ClockGroupRead := by
  intro s c hcfg hfit hmain hreset hwaiting
  have hexec := exec_clockGroupRead s c hcfg hfit hmain hreset hwaiting
  have hreturns : ∀ w v, snapshotWord s.clk.snapshot w = v → (s.setReadData (snapshotWord s.clk.snapshot w)).hostDone =
      { s with path := { s.path with waiting := [], hold := 0, readData := v } } := by
    rintro w _ rfl
    rfl
  refine ⟨hexec 0, (hexec 1).trans (congrArg _ (hreturns 1 _ ?_)), (hexec 2).trans (congrArg _ (hreturns 2 _ ?_))⟩
  · cases s.clk.snapshot <;> rfl
  · cases s.clk.snapshot with
    | none => rfl
    | some n => exact congrArg (BitVec.ofNat 16) (by rw [Nat.mul_comm])

end Sys2Proof.Machine
end

section
/-! PROOFS. The posts: LOAD, SUBMIT, the sale requests and the commands (R7, R61, R73, R175, R190, R193, R197). -/

namespace Sys2Proof.Machine

variable (s : State)

/-! ### LOAD (R193) -/

/-- A write of the load area while it is not busy is not dropped, when the windows fit. -/
theorem State.drops_load (hfit : ∀ c, s.cfg = some c → c.windowsFit) (hclear : s.path.load = .clear) (v : Word) (l : Lanes) :
    s.drops 0x400 v l = false := by
  unfold State.drops
  rw [hclear]
  rcases Option.eq_none_or_eq_some s.cfg with hcfg | ⟨c, hcfg⟩
  · rw [hcfg]
    cases s.power.reset <;> rfl
  · have hload : 0x400 ≤ 0x400 ∧ 0x400 < 0xC00 := by omega
    have hintake : inRegion 0x400 c.win.intake 256 = false := Bool.eq_false_iff.mpr fun h => ((hfit c hcfg).intake h).1 hload
    have hsale : inRegion 0x400 c.win.sale 64 = false := Bool.eq_false_iff.mpr fun h => ((hfit c hcfg).sale h).1 hload
    have hreport : inRegion 0x400 c.win.report 64 = false := Bool.eq_false_iff.mpr fun h => ((hfit c hcfg).report h).1 hload
    have hjournal : inRegion 0x400 c.win.journal (16 + 14 * c.win.jsize) = false :=
      Bool.eq_false_iff.mpr fun h => ((hfit c hcfg).journal h).1 hload
    rw [hcfg]
    dsimp only
    rw [hintake, hsale, hreport, hjournal]
    cases s.power.reset <;> rfl

/-- A write into the busy load area is dropped at once. -/
theorem State.present_loadBusy (hmain : s.power.main = true) (hreset : s.power.reset = false) (hwaiting : s.path.waiting = [])
    (hbusy : s.path.load ≠ .clear) (a : Addr) (v : Word) (l : Lanes) (hin : inRegion a.toNat 0x400 2048 = true) :
    s.present (.write a v l) = s.dropBusy.hostDone := by
  have hcycle : s.noCycle (.write a v l) = true := by
    rw [State.noCycle, State.drops, hreset, show inRegion a.toNat Config.loadWord 2048 = true from hin]
    simp [hbusy]
  rw [s.present_atOnce _ hmain hwaiting hcycle, State.takeCycle, State.takeWrite, if_neg (by rw [hreset]; exact Bool.false_ne_true),
    if_pos ⟨hbusy, hin⟩]

/-- Settles O31. -/
theorem loadPost : Obligations.LoadPost := by
  intro s hfit hfree
  have hexec : exec .load s = .next (s.present (.write 0x400 Code.load .both)) := rfl
  refine ⟨fun hclear => ?_, fun hbusy => ?_⟩
  · have htake : (s.alone (.write 0x400 Code.load .both)).takeWrite 0x400 Code.load .both =
        (s.alone (.write 0x400 Code.load .both)).postLoad := by
      unfold State.takeWrite
      rw [if_neg (by change ¬ s.power.reset = true; rw [hfree.2.1]; exact Bool.false_ne_true),
        if_neg (fun h => h.1 hclear), if_pos ⟨rfl, rfl, rfl⟩]
    rw [hexec, s.present_served (.write 0x400 Code.load .both) hfree (s.drops_load hfit hclear Code.load .both)]
    exact congrArg (fun t : State => Host.Outcome.next t.hostDone) htake
  · rw [hexec, s.present_loadBusy hfree.1 hfree.2.1 hfree.2.2.1 hbusy _ _ _ (by decide)]
    rfl

/-! ### SUBMIT (R7, R26, R175, R197) -/

section
variable (c : Settings) (hcfg : s.cfg = some c) (hfit : c.windowsFit)
include hcfg hfit

/-- A write into an idle intake slot is served while the port is free. -/
theorem State.present_intake (a : Addr) (slot o : Nat) (hslot : slot < 16) (ho : o < 16) (ha : a.toNat = c.win.intake + 16 * slot + o)
    (hfree : s.portFree) (hidle : s.path.intake.getD slot .clear = .clear) (v : Word) (l : Lanes) :
    s.present (.write a v l) = ((s.alone (.write a v l)).writeIntake c.win a.toNat v l).hostDone := by
  have hin : inRegion a.toNat c.win.intake 256 = true := by rw [inRegion_iff]; omega
  have hcycle : s.noCycle (.write a v l) = false := by
    rw [State.noCycle, s.drops_intake c hcfg hfit hfree.2.1 _ v l hin, show (a.toNat - c.win.intake) / 16 = slot by omega, hidle]
    rfl
  rw [s.present_served _ hfree hcycle, State.takeCycle, (s.alone (.write a v l)).takeWrite_intake c hcfg hfit hfree.2.1 _ v l hin]

/-- A write into a busy intake slot is dropped at once. -/
theorem State.present_intakeBusy (a : Addr) (hin : inRegion a.toNat c.win.intake 256 = true) (hmain : s.power.main = true)
    (hreset : s.power.reset = false) (hwaiting : s.path.waiting = [])
    (hbusy : s.path.intake.getD ((a.toNat - c.win.intake) / 16) .clear ≠ .clear) (v : Word) (l : Lanes) :
    s.present (.write a v l) = s.dropBusy.hostDone := by
  have hcycle : s.noCycle (.write a v l) = true := by
    rw [State.noCycle, s.drops_intake c hcfg hfit hreset _ v l hin]
    exact bne_iff_ne.mpr hbusy
  rw [s.present_atOnce _ hmain hwaiting hcycle, State.takeCycle, s.takeWrite_intake c hcfg hfit hreset _ v l hin, State.writeIntake]
  exact congrArg State.hostDone (if_pos hbusy)

/-- A write into an idle sale slot is served while the port is free. -/
theorem State.present_sale (a : Addr) (slot o : Nat) (hslot : slot < 4) (ho : o < 16) (ha : a.toNat = c.win.sale + 16 * slot + o)
    (hfree : s.portFree) (hidle : s.path.sale.getD slot .clear = .clear) (v : Word) (l : Lanes) :
    s.present (.write a v l) = ((s.alone (.write a v l)).writeSale c.win a.toNat v l).hostDone := by
  have hin : inRegion a.toNat c.win.sale 64 = true := by rw [inRegion_iff]; omega
  have hcycle : s.noCycle (.write a v l) = false := by
    rw [State.noCycle, s.drops_sale c hcfg hfit hfree.2.1 _ v l hin, show (a.toNat - c.win.sale) / 16 = slot by omega, hidle]
    rfl
  rw [s.present_served _ hfree hcycle, State.takeCycle, (s.alone (.write a v l)).takeWrite_sale c hcfg hfit hfree.2.1 _ v l hin]

/-- A write into a busy sale slot is dropped at once. -/
theorem State.present_saleBusy (a : Addr) (hin : inRegion a.toNat c.win.sale 64 = true) (hmain : s.power.main = true)
    (hreset : s.power.reset = false) (hwaiting : s.path.waiting = [])
    (hbusy : s.path.sale.getD ((a.toNat - c.win.sale) / 16) .clear ≠ .clear) (v : Word) (l : Lanes) :
    s.present (.write a v l) = s.dropBusy.hostDone := by
  have hcycle : s.noCycle (.write a v l) = true := by
    rw [State.noCycle, s.drops_sale c hcfg hfit hreset _ v l hin]
    exact bne_iff_ne.mpr hbusy
  rw [s.present_atOnce _ hmain hwaiting hcycle, State.takeCycle, s.takeWrite_sale c hcfg hfit hreset _ v l hin, State.writeSale]
  exact congrArg State.hostDone (if_pos hbusy)

end

theorem Settings.windowsFit.intake_toNat {c : Settings} (hfit : c.windowsFit) (k : Nat) (hk : k < 256) :
    (BitVec.ofNat 20 (c.win.intake + k)).toNat = c.win.intake + k := by
  have hplaces := hfit.places
  rw [BitVec.toNat_ofNat, Nat.mod_eq_of_lt (by omega)]

theorem Settings.windowsFit.sale_toNat {c : Settings} (hfit : c.windowsFit) (k : Nat) (hk : k < 64) :
    (BitVec.ofNat 20 (c.win.sale + k)).toNat = c.win.sale + k := by
  have hplaces := hfit.places
  rw [BitVec.toNat_ofNat, Nat.mod_eq_of_lt (by omega)]

/-- The intake job goes on by its stage alone. -/
theorem State.intakeNext_eq : s.intakeNext = { s with intake := { s.intake with stage := s.intakeNext.intake.stage } } := by
  unfold State.intakeNext
  dsimp only
  repeat' split
  all_goals rfl

/-- Without a reload that finishes, an idle job fetches the slot at the head, unless that waits (R175, R197). -/
theorem State.intakeNext_stage (c : Settings) (hcfg : s.cfg = some c) (hfinish : s.loader.stage.finishing = false) (slot : Nat)
    (rest : List Nat) (hfifo : s.intake.fifo = slot :: rest) :
    s.intakeNext.intake.stage =
      if s.intake.stage = .idle ∧ (s.loader.stage.starting || s.loader.stage.holds slot) = false then .fetching [] else s.intake.stage := by
  unfold State.intakeNext
  rw [hcfg, hfifo]
  dsimp only
  rw [hfinish]
  cases hstage : s.intake.stage with
  | idle =>
    cases hwaits : s.loader.stage.starting || s.loader.stage.holds slot with
    | true => simp [hstage]
    | false => simp
  | fetching got => simp [hstage]
  | ready im => simp [hstage]
  | answering accs => simp [hstage]

/-- While a reload finishes the slots an idle job refuses the slot at the head (R26, R175). -/
theorem State.intakeNext_stage_finishing (c : Settings) (hcfg : s.cfg = some c) (hfinish : s.loader.stage.finishing = true) (slot : Nat)
    (rest : List Nat) (hfifo : s.intake.fifo = slot :: rest) (hidle : s.intake.stage = .idle) :
    s.intakeNext.intake.stage = .answering (intakeWrites c.win slot Code.reconfigured Code.noEntry Code.noEntry Code.refused) := by
  unfold State.intakeNext
  rw [hcfg, hfifo]
  dsimp only
  rw [hfinish, hidle]
  rfl

theorem append_head_tail (l : List Nat) (x : Nat) : l ++ [x] = l.headD x :: (l ++ [x]).tail := by
  cases l <;> rfl

theorem exec_submit (c : Settings) (hcfg : s.cfg = some c) (hreset : s.power.reset = false) (slot : Fin 16) :
    exec (.submit slot) s = .next (s.present (.write (BitVec.ofNat 20 (c.win.intake + 16 * slot.val)) Code.submit .both)) := by
  change execSubmit slot s = _
  unfold execSubmit
  rw [s.map?_some c hcfg hreset]
  rfl

theorem State.hostDone_postIntake (w : Windows) (slot : Nat) (h : HostCycle) :
    ((s.alone h).postIntake w slot).hostDone =
      { s with
        mem := Memory.writeLanes s.mem (w.intake + 16 * slot) Code.busy .both
        path := { s.path with intake := s.path.intake.set slot (.post ()), waiting := [], hold := 0 }
        intake := { fifo := s.intake.fifo ++ [slot], stage := ((s.alone h).postIntake w slot).intake.stage }
        loader := { s.loader with stage := s.loader.stage.noteSlot slot } } := by
  unfold State.postIntake
  rw [State.intakeNext_eq]
  rfl

/-- Settles O32. -/
theorem submitPost : Obligations.SubmitPost := by
  intro s c slot hcfg hfit hfree
  have haddr := hfit.intake_toNat (16 * slot.val) (by omega)
  have hexec := exec_submit s c hcfg hfree.2.1 slot
  refine ⟨fun hidle => ?_, fun hbusy => ?_⟩
  · generalize hcycle : HostCycle.write (BitVec.ofNat 20 (c.win.intake + 16 * slot.val)) Code.submit .both = h at hexec
    have hpost : s.present h = ((s.alone h).postIntake c.win slot.val).hostDone := by
      rw [← hcycle, s.present_intake c hcfg hfit _ slot.val 0 (by omega) (by omega) haddr hfree hidle, hcycle, haddr, State.writeIntake,
        show (c.win.intake + 16 * slot.val - c.win.intake) / 16 = slot.val by omega,
        if_neg (not_not_intro (show (s.alone h).path.intake.getD slot.val .clear = .clear from hidle)), if_pos ⟨by omega, rfl, rfl⟩]
    refine ⟨((s.alone h).postIntake c.win slot.val).intake.stage, ?_, fun hnot => ?_, fun next hnext hstage hfifo => ?_⟩
    · rw [hexec, hpost, State.hostDone_postIntake]
      cases s.loader.stage <;> rfl
    · intro head waits
      have hfinish : (s.loader.stage.noteSlot slot.val).finishing = false := by
        cases hstage : s.loader.stage with
        | reloadFinish next => exact absurd hstage (hnot next)
        | _ => rfl
      have hwaits : ((s.loader.stage.noteSlot slot.val).starting || (s.loader.stage.noteSlot slot.val).holds head) = waits := by
        change _ = match s.loader.stage with
          | .scanning _ => true
          | .reloadTicket _ late => (late ++ [slot.val]).contains head
          | _ => false
        cases s.loader.stage <;> rfl
      rw [State.postIntake, State.intakeNext_stage _ c ?_ ?_ head (s.intake.fifo ++ [slot.val]).tail (append_head_tail _ _)]
      rotate_left
      · exact hcfg
      · exact hfinish
      change (if s.intake.stage = .idle ∧ ((s.loader.stage.noteSlot slot.val).starting ||
        (s.loader.stage.noteSlot slot.val).holds head) = false then IntakeStage.fetching [] else s.intake.stage) = _
      rw [hwaits]
    · have hfinish : (s.loader.stage.noteSlot slot.val).finishing = true := by
        rw [hnext]
        rfl
      have hone : s.intake.fifo ++ [slot.val] = [slot.val] := by rw [hfifo]; rfl
      rw [State.postIntake, State.intakeNext_stage_finishing _ c ?_ ?_ slot.val [] hone]
      · rfl
      · exact hstage
      · exact hcfg
      · exact hfinish
  · rw [hexec, s.present_intakeBusy c hcfg hfit _ (by rw [haddr, inRegion_iff]; omega) hfree.1 hfree.2.1 hfree.2.2.1]
    · rfl
    · rw [haddr, show (c.win.intake + 16 * slot.val - c.win.intake) / 16 = slot.val by omega]
      exact hbusy

/-! ### The sale requests (R61, R73, R198) -/

/-- While no reload finishes the slots, an idle issue unit fetches the slot at the head, unless it is stopped (R61, R197, R198). -/
theorem State.issueGoOn_eq (c : Settings) (hcfg : s.cfg = some c) (hfinish : s.loader.stage.finishing = false)
    (hfifo : s.issue.fifo ≠ []) :
    s.issueGoOn = { s with issue := { s.issue with stage :=
      if s.issue.stage = .idle ∧ s.loader.stage.stopsIssue = false ∧ s.loader.stage.starting = false then .fetching []
      else s.issue.stage } } := by
  obtain ⟨slot, rest, hfifo⟩ := List.exists_cons_of_ne_nil hfifo
  have hwait : s.loader.stage.ticketWait = s.loader.stage.stopsIssue := by
    rw [LoaderStage.ticketWait, hfinish]
    exact Bool.and_true _
  unfold State.issueGoOn
  rw [hwait]
  cases hstops : s.loader.stage.stopsIssue with
  | true =>
    rw [if_pos rfl, if_neg fun h => Bool.noConfusion h.2.1]
  | false =>
    rw [if_neg Bool.false_ne_true]
    have hnext : s.issueNext = if s.issue.stage = .idle ∧ s.loader.stage.starting = false then
        s.modIssue fun u => { u with stage := .fetching [] } else s := by
      unfold State.issueNext
      rw [hcfg, hfifo]
      dsimp only
      rw [hfinish]
      cases hstage : s.issue.stage with
      | idle =>
        cases s.loader.stage.starting with
        | true => simp
        | false => simp
      | fetching got => simp
      | ready req => simp
      | answering => simp
      | ticket k => simp
    rw [hnext]
    by_cases h : s.issue.stage = .idle ∧ s.loader.stage.starting = false
    · rw [if_pos h, if_pos ⟨h.1, rfl, h.2⟩]
      rfl
    · rw [if_neg h, if_neg fun h' => h ⟨h'.1, h'.2.2⟩]

theorem saleOfWord_saleWord (code : SaleCode) : saleOfWord (saleWord code) = some code := by
  cases code <;> rfl

theorem saleOfWord_iff (v : Word) (code : SaleCode) : saleOfWord v = some code ↔ v = saleWord code := by
  constructor
  · intro h
    unfold saleOfWord at h
    split at h
    next hquote =>
      cases h
      exact hquote
    next =>
      split at h
      next hissue =>
        cases h
        exact hissue
      next =>
        split at h
        next hrelease =>
          cases h
          exact hrelease
        next => exact nomatch h
  · rintro rfl
    exact saleOfWord_saleWord code

theorem exec_saleSlotPost (c : Settings) (hcfg : s.cfg = some c) (hreset : s.power.reset = false) (slot : Fin 4) (code : SaleCode) :
    exec (.saleSlotPost slot code) s = .next (s.present (.write (BitVec.ofNat 20 (c.win.sale + 16 * slot.val)) (saleWord code) .both)) := by
  change execSaleSlotPost slot code s = _
  unfold execSaleSlotPost
  rw [s.map?_some c hcfg hreset]
  rfl

/-- Settles O33. -/
theorem saleSlotPost : Obligations.SaleSlotPost := by
  intro s c slot code hcfg hfit hfree
  have haddr := hfit.sale_toNat (16 * slot.val) (by omega)
  have hexec := exec_saleSlotPost s c hcfg hfree.2.1 slot code
  refine ⟨fun hidle hfinish => ?_, fun hbusy => ?_⟩
  · generalize hcycle : HostCycle.write (BitVec.ofNat 20 (c.win.sale + 16 * slot.val)) (saleWord code) .both = h at hexec
    have hpost : s.present h = ((s.alone h).postSale c.win slot.val code).hostDone := by
      rw [← hcycle, s.present_sale c hcfg hfit _ slot.val 0 (by omega) (by omega) haddr hfree hidle, hcycle, haddr, State.writeSale,
        show (c.win.sale + 16 * slot.val - c.win.sale) / 16 = slot.val by omega,
        if_neg (not_not_intro (show (s.alone h).path.sale.getD slot.val .clear = .clear from hidle)), if_pos ⟨by omega, rfl⟩,
        saleOfWord_saleWord]
    rw [hexec, hpost, State.postSale, State.issueGoOn_eq _ c ?_ ?_ ?_]
    · rfl
    · exact hcfg
    · exact hfinish
    · exact List.append_ne_nil_of_right_ne_nil _ (List.cons_ne_nil _ _)
  · rw [hexec, s.present_saleBusy c hcfg hfit _ (by rw [haddr, inRegion_iff]; omega) hfree.1 hfree.2.1 hfree.2.2.1]
    · rfl
    · rw [haddr, show (c.win.sale + 16 * slot.val - c.win.sale) / 16 = slot.val by omega]
      exact hbusy

/-! ### The commands (R175, R190, R191) -/

theorem commandOfWord_commandWord (code : CommandCode) : commandOfWord (commandWord code) = some code := by
  cases code <;> rfl

theorem exec_commandPost (c : Settings) (hcfg : s.cfg = some c) (hreset : s.power.reset = false) (code : CommandCode) :
    exec (.commandPost code) s = .next (s.present (.write (BitVec.ofNat 20 (c.win.report + 4)) (commandWord code) .both)) := by
  rw [← s.presentReport_eq c hcfg hreset 4]
  rfl

/-- With its word clear, a command is posted. -/
theorem State.not_refusesReport_command (hclear : s.path.command = .clear) (v : Word) (l : Lanes) : ¬ s.refusesReport 4 v l := by
  rintro (⟨-, -, hbusy⟩ | hpart | ⟨hindex, -⟩)
  · exact hbusy hclear
  · exact absurd hpart (by decide)
  · omega

theorem State.writeReport_command (c : Settings) (hclear : s.path.command = .clear) (code : CommandCode) :
    s.writeReport c (c.win.report + 4) (commandWord code) .both = s.postOrder c code := by
  unfold State.writeReport
  dsimp only
  rw [Nat.add_sub_cancel_left, if_neg (fun h => h.2.2 hclear), if_neg (by decide), if_neg (by decide), if_neg (by decide),
    if_neg (by decide), if_neg (by decide), if_pos ⟨rfl, rfl⟩, commandOfWord_commandWord]

theorem State.postCommand_loader (c : Settings) (code : CommandCode) : (s.postCommand c code).loader = s.loader := by
  unfold State.postCommand
  dsimp only
  split <;> rfl

/-- Settles O34. -/
theorem commandPost : Obligations.CommandPost := by
  intro s c code hcfg hfit hfree
  have haddr := hfit.report_toNat 4 (by omega)
  have hexec := exec_commandPost s c hcfg hfree.2.1 code
  have hposted : s.path.command = .clear → ∀ h, h = HostCycle.write (BitVec.ofNat 20 (c.win.report + 4)) (commandWord code) .both →
      s.present h = ((s.alone h).postOrder c code).hostDone := by
    rintro hclear h rfl
    rw [s.present_report c hcfg hfit hfree.2.1 4 (by omega) _ _ _ haddr hfree (s.not_refusesReport_command hclear _ _),
      State.writeReport_command (s.alone _) c hclear]
  have hbusy : s.path.command ≠ .clear → exec (.commandPost code) s = .next s.dropBusy.hostDone := by
    intro hbusy
    rw [hexec, s.present_report_refused c hcfg hfit hfree.2.1 4 (by omega) _ _ _ haddr hfree.1 hfree.2.2.1
      (.inl ⟨by omega, by omega, hbusy⟩), s.writeReport_busy c 4 _ _ ⟨by omega, by omega, hbusy⟩]
  refine ⟨fun hclear => ?_, fun hstarting t ht => ?_, fun h => (hbusy h).trans rfl⟩
  · have hstage : (if s.loader.stage.ticketWait then CommandStage.held code else .fetching code []) =
        match s.loader.stage with | .reloadTicket _ _ => .held code | _ => .fetching code [] := by
      cases s.loader.stage <;> rfl
    rw [hexec, hposted hclear _ rfl, State.postOrder]
    unfold State.postCommand
    change Host.Outcome.next (State.hostDone (if s.loader.stage.finishing = true then _ else _)) = _
    split
    · rfl
    · exact congrArg (fun k => Host.Outcome.next
        { s with
          mem := Memory.writeLanes s.mem (c.win.report + 4) Code.busy .both
          path := { s.path with command := .post code, waiting := [], hold := 0 }
          rep := { s.rep with extra := skipCommand s.rep.extra, command := k } }) hstage
  · have hloader : t.loader = s.loader := by
      by_cases hclear : s.path.command = .clear
      · rw [hexec, hposted hclear _ rfl, State.postOrder] at ht
        cases ht
        exact State.postCommand_loader _ c code
      · rw [hbusy hclear] at ht
        cases ht
        rfl
    change t.reportWants = none
    unfold State.reportWants
    rw [hloader, hstarting]
    rfl

end Sys2Proof.Machine
end

section
/-! PROOFS. HOST_WRITE: what passes, what is dropped, and what the commands of the posts are (R174 to R178, R181, R199). -/

namespace Sys2Proof.Machine

variable (s : State)

/-! ### Writes that pass (R177, R199) -/

/-- A write taken as it is, served while the port is free. -/
theorem exec_hostWrite_passed (a : Addr) (v : Word) (l : Lanes) (hfree : s.portFree) (hdrops : s.drops a.toNat v l = false)
    (htake : (s.alone (.write a v l)).takeWrite a.toNat v l = (s.alone (.write a v l)).passWrite a.toNat v l) :
    exec (.hostWrite a v l) s = .next
      { s with mem := Memory.writeLanes s.mem a.toNat v l, path := { s.path with waiting := [], hold := 0 } } := by
  change Host.Outcome.next (s.present (.write a v l)) = _
  rw [s.present_served (.write a v l) hfree hdrops]
  exact congrArg (fun t : State => Host.Outcome.next t.hostDone) htake

/-- Outside the busy load area and the windows nothing is dropped, and all but the LOAD post pass. -/
theorem State.takeWrite_outside (a : Nat) (v : Word) (l : Lanes) (hload : s.path.load = .clear ∨ a < 0x400 ∨ 0xC00 ≤ a)
    (hpost : ¬ (a = 0x400 ∧ l = .both ∧ v = Code.load))
    (hout : ∀ c, s.cfg = some c →
      inRegion a c.win.intake 256 = false ∧ inRegion a c.win.sale 64 = false ∧
      inRegion a c.win.report 64 = false ∧ inRegion a c.win.journal (16 + 14 * c.win.jsize) = false) :
    s.drops a v l = false ∧ s.takeWrite a v l = s.passWrite a v l := by
  have hbusy : ¬ (s.path.load ≠ .clear ∧ inRegion a Config.loadWord 2048 = true) := by
    rintro ⟨hbusy, hin⟩
    have hrange : 0x400 ≤ a ∧ a < 0x400 + 2048 := (inRegion_iff a 0x400 2048).mp hin
    rcases hload with h | h | h
    · exact hbusy h
    · omega
    · omega
  have hbusy' : (s.path.load != .clear && inRegion a Config.loadWord 2048) = false := by
    rw [Bool.eq_false_iff, ne_eq, Bool.and_eq_true, bne_iff_ne]
    exact hbusy
  unfold State.drops State.takeWrite
  rw [hbusy', if_neg hbusy, if_neg (show ¬ (a = Config.loadWord ∧ _ ∧ _) from hpost)]
  rcases Option.eq_none_or_eq_some s.cfg with hcfg | ⟨c, hcfg⟩
  · rw [hcfg]
    dsimp only
    exact ⟨by simp, ite_self _⟩
  · obtain ⟨hintake, hsale, hreport, hjournal⟩ := hout c hcfg
    rw [hcfg]
    dsimp only
    unfold State.writeMapped
    rw [hintake, hsale, hreport, hjournal]
    exact ⟨by simp, by simp⟩

/-- Under the host reset input every write passes (R199). -/
theorem exec_hostWrite_reset (hmain : s.power.main = true) (hreset : s.power.reset = true) (hwaiting : s.path.waiting = []) (a : Addr)
    (v : Word) (l : Lanes) :
    exec (.hostWrite a v l) s = .next
      { s with mem := Memory.writeLanes s.mem a.toNat v l, path := { s.path with waiting := [], hold := 0 } } := by
  have hcycle : s.noCycle (.write a v l) = false := by
    rw [State.noCycle, State.drops, hreset]
    rfl
  have hqueue : s.queueCycle (.write a v l) = s.alone (.write a v l) := by
    rw [State.queueCycle, hwaiting, List.nil_append, State.settleHost, hcycle]
    rfl
  have htake : (s.alone (.write a v l)).takeWrite a.toNat v l = (s.alone (.write a v l)).passWrite a.toNat v l := if_pos hreset
  change Host.Outcome.next (s.present (.write a v l)) = _
  rw [State.present, if_pos hmain, hqueue, hreset]
  exact congrArg (fun t : State => Host.Outcome.next t.hostDone) htake

theorem saleOfWord_none (v : Word) (h : ¬ ∃ code, v = saleWord code) : saleOfWord v = none := by
  cases hv : saleOfWord v with
  | none => rfl
  | some code => exact absurd ⟨code, (saleOfWord_iff v code).mp hv⟩ h

theorem commandOfWord_none (v : Word) (h : ¬ ∃ code, v = commandWord code) : commandOfWord v = none := by
  cases hv : commandOfWord v with
  | none => rfl
  | some code =>
    unfold commandOfWord at hv
    have hword : commandWord code = v := by simpa using List.find?_some hv
    exact absurd ⟨code, hword.symm⟩ h

theorem partWritten_iff (o : Nat) :
    partWritten o = true ↔ o = 0 ∨ 13 ≤ o ∧ o ≤ 26 ∨ o = 30 ∨ 32 ≤ o ∧ o ≤ 63 := by
  simp [partWritten, or_assoc]

/-- In the report window a write passes at the clock group, at the argument words of an idle command, and at its command word when it
is no code (R177). -/
theorem State.writeReport_passes (c : Settings) (o : Nat) (v : Word) (l : Lanes)
    (ho : 27 ≤ o ∧ o ≤ 29 ∨ 5 ≤ o ∧ o ≤ 12 ∧ s.path.command = .clear ∨
      o = 4 ∧ s.path.command = .clear ∧ ¬ (l = .both ∧ ∃ code, v = commandWord code)) :
    s.writeReport c (c.win.report + o) v l = s.passWrite (c.win.report + o) v l := by
  have hpart : ¬ partWritten o = true := by rw [partWritten_iff]; omega
  have hidle : ¬ (4 ≤ o ∧ o ≤ 13 ∧ s.path.command ≠ .clear) := by
    rintro ⟨hfour, hthirteen, hbusy⟩
    rcases ho with h | h | h
    · omega
    · exact hbusy h.2.2
    · exact hbusy h.2.1
  have hcode : (if o = 4 ∧ l = .both then commandOfWord v else none) = none := by
    split
    next h =>
      refine commandOfWord_none v fun hv => ?_
      rcases ho with h' | h' | h'
      · omega
      · omega
      · exact h'.2.2 ⟨h.2, hv⟩
    next => rfl
  unfold State.writeReport
  dsimp only
  rw [Nat.add_sub_cancel_left, if_neg hidle, if_neg hpart, if_neg (by omega), if_neg (by omega), if_neg (by omega), if_neg (by omega), hcode]

/-! ### Writes that are dropped (R178) -/

theorem exec_hostWrite (a : Addr) (v : Word) (l : Lanes) : exec (.hostWrite a v l) s = .next (s.present (.write a v l)) := rfl

theorem State.present_journal (c : Settings) (hcfg : s.cfg = some c) (hfit : c.windowsFit) (hmain : s.power.main = true)
    (hreset : s.power.reset = false) (hwaiting : s.path.waiting = []) (a : Addr) (v : Word) (l : Lanes)
    (hin : inRegion a.toNat c.win.journal (16 + 14 * c.win.jsize) = true) :
    s.present (.write a v l) = s.dropProtected.hostDone := by
  rw [s.present_atOnce (.write a v l) hmain hwaiting (s.drops_journal c hcfg hfit hreset _ v l hin), State.takeCycle,
    s.takeWrite_journal c hcfg hfit hreset _ v l hin]

/-- Settles O27. -/
theorem hostWritePassesOrDrops : Obligations.HostWritePassesOrDrops := by
  intro s a v l hfit passed dropped
  refine ⟨fun hfree hload hpost hout => ?_, fun hmain hreset hwaiting => exec_hostWrite_reset s hmain hreset hwaiting a v l,
    fun hmain hreset hwaiting hbusy hlow hhigh => ?_, fun c hcfg hmain hreset hwaiting => ⟨?_, fun hin => ?_, fun o ha ho => ⟨?_, ?_⟩⟩,
    fun c hcfg hfree => ⟨?_, ?_, ?_⟩, fun h rest hmain hreset hwaiting hcycle => ⟨?_, ?_⟩, rfl, fun c hcfg hreset => ⟨?_, ?_, ?_, ?_, ?_, ?_, ?_⟩⟩
  · obtain ⟨hdrops, -⟩ := s.takeWrite_outside a.toNat v l hload hpost hout
    exact exec_hostWrite_passed s a v l hfree hdrops (State.takeWrite_outside (s.alone _) a.toNat v l hload hpost hout).2
  · rw [exec_hostWrite, s.present_loadBusy hmain hreset hwaiting hbusy a v l ((inRegion_iff _ _ _).mpr (by omega))]
    rfl
  · rintro (⟨hin, hbusy⟩ | ⟨hin, hbusy⟩)
    · rw [exec_hostWrite, s.present_intakeBusy c hcfg (hfit c hcfg) a hin hmain hreset hwaiting hbusy]
      rfl
    · rw [exec_hostWrite, s.present_saleBusy c hcfg (hfit c hcfg) a hin hmain hreset hwaiting hbusy]
      rfl
  · rw [exec_hostWrite, s.present_journal c hcfg (hfit c hcfg) hmain hreset hwaiting a v l hin]
    rfl
  · intro hfour hthirteen hbusy
    rw [exec_hostWrite, s.present_report_refused c hcfg (hfit c hcfg) hreset o ho v l a ha hmain hwaiting (.inl ⟨hfour, hthirteen, hbusy⟩),
      s.writeReport_busy c o v l ⟨hfour, hthirteen, hbusy⟩]
    rfl
  · intro hword
    have hpart : partWritten o = true := (partWritten_iff o).mpr (by omega)
    have hidle : ¬ (4 ≤ o ∧ o ≤ 13 ∧ s.path.command ≠ .clear) := by
      rintro ⟨hfour, hthirteen, hbusy⟩
      rcases hword with h | h | h | h | h
      · omega
      · exact hbusy h.2
      · omega
      · omega
      · omega
    rw [exec_hostWrite, s.present_report_refused c hcfg (hfit c hcfg) hreset o ho v l a ha hmain hwaiting (.inr (.inl hpart)),
      s.writeReport_protected c o v l hidle hpart]
    rfl
  · intro slot o hslot ho ha hidle hpost
    have hwrite : (s.alone (.write a v l)).writeIntake c.win a.toNat v l = (s.alone (.write a v l)).passWrite a.toNat v l := by
      rw [State.writeIntake, show (a.toNat - c.win.intake) / 16 = slot by omega, show (a.toNat - c.win.intake) % 16 = o by omega,
        if_neg (not_not_intro (show (s.alone (.write a v l)).path.intake.getD slot .clear = .clear from hidle)), if_neg hpost]
    rw [exec_hostWrite, s.present_intake c hcfg (hfit c hcfg) a slot o hslot ho ha hfree hidle v l, hwrite]
    rfl
  · intro slot o hslot ho ha hidle hpost
    have hcode : (if o = 0 ∧ l = .both then saleOfWord v else none) = none := by
      split
      next h => exact saleOfWord_none v fun hv => hpost ⟨h.1, h.2, hv⟩
      next => rfl
    have hwrite : (s.alone (.write a v l)).writeSale c.win a.toNat v l = (s.alone (.write a v l)).passWrite a.toNat v l := by
      rw [State.writeSale, show (a.toNat - c.win.sale) / 16 = slot by omega, show (a.toNat - c.win.sale) % 16 = o by omega,
        if_neg (not_not_intro (show (s.alone (.write a v l)).path.sale.getD slot .clear = .clear from hidle)), hcode]
    rw [exec_hostWrite, s.present_sale c hcfg (hfit c hcfg) a slot o hslot ho ha hfree hidle v l, hwrite]
    rfl
  · intro o ha hword
    have htakes : ¬ s.refusesReport o v l := by
      rintro (⟨hfour, hthirteen, hbusy⟩ | hpart | ⟨hindex, -⟩)
      · rcases hword with h | h | h
        · omega
        · exact hbusy h.2.2
        · exact hbusy h.2.1
      · rw [partWritten_iff] at hpart
        omega
      · omega
    rw [exec_hostWrite, s.present_report c hcfg (hfit c hcfg) hfree.2.1 o (by omega) v l a ha hfree htakes,
      State.writeReport_passes (s.alone _) c o v l hword, ← ha]
    rfl
  · intro r x hurgent hwants hhold
    rw [s.exec_partCycle hmain, s.partCycle_of_held h rest r x hreset hwaiting hurgent hwants hhold]
  · rintro hturn rfl
    rw [s.exec_partCycle hmain, s.partCycle_of_host h [] hreset hwaiting hturn, State.setHold_settleHost_nil]
  · exact fun slot => (exec_submit s c hcfg hreset slot).symm
  · exact fun slot code => (exec_saleSlotPost s c hcfg hreset slot code).symm
  · exact fun code => (exec_commandPost s c hcfg hreset code).symm
  · exact congrArg Host.Outcome.next (s.presentReport_eq c hcfg hreset 1 v l).symm
  · exact congrArg Host.Outcome.next (s.presentReport_eq c hcfg hreset 2 v l).symm
  · exact congrArg Host.Outcome.next (s.presentReport_eq c hcfg hreset 3 v l).symm
  · exact congrArg Host.Outcome.next (s.presentReport_eq c hcfg hreset 31 v l).symm

end Sys2Proof.Machine
end

section
/-! PROOFS. Sales: the answers to QUOTE, ISSUE and RELEASE, and the commit (R60, R64, R65, R70, R74 to R76). -/

namespace Sys2Proof.Machine

variable (s : State) (c : Settings)

/-! ### The slot in work (R60, R61) -/

theorem State.saleReady_some (code : SaleCode) (slot : Nat) (req : List Word) (h : s.saleReady code = some (slot, req)) :
    (∃ rest, s.issue.fifo = slot :: rest) ∧ s.issue.stage = .ready req := by
  unfold State.saleReady at h
  split at h
  next head rest words hfifo hstage =>
    split at h
    · cases h
      exact ⟨⟨rest, hfifo⟩, hstage⟩
    · cases h
  next => cases h

/-- The slot at the head of the FIFO answered, with its record in place. -/
theorem State.answerSale_answered (slot : Nat) (rest : List Nat) (hfifo : s.issue.fifo = slot :: rest) (r : QuoteRec)
    (results : List (Nat × Word)) (post : Word) :
    (s.setRecord slot r).answerSale c results post = s.saleAnswered c slot r results post := by
  rw [State.answerSale_cons (s.setRecord slot r) c results post slot rest hfifo, ← List.append_assoc]
  rfl

theorem State.refuseSale_answered (slot : Nat) (rest : List Nat) (hfifo : s.issue.fifo = slot :: rest) (reason : Word) :
    s.refuseSale c reason = s.saleAnswered c slot .empty [(8, reason)] Code.refused := by
  unfold State.refuseSale
  rw [hfifo]
  exact s.answerSale_answered c slot rest hfifo .empty _ _

theorem State.setRecord_setRecord (slot : Nat) (r r' : QuoteRec) : (s.setRecord slot r).setRecord slot r' = s.setRecord slot r' := by
  rw [State.setRecord_eq, State.setRecord_eq, State.setRecord_eq]
  dsimp only
  rw [List.set_set]

/-! ### QUOTE (R64, R65, R70) -/

theorem exec_quote (hcfg : s.cfg = some c) (slot : Nat) (req : List Word) (hready : s.saleReady .quote = some (slot, req)) :
    exec .quote s = .next (s.takeQuote c slot req) := by
  change execQuote s = _
  unfold execQuote
  rw [hcfg, hready]

theorem State.quoteDecision_setRecord (slot : Nat) (r : QuoteRec) (req : List Word) :
    (s.setRecord slot r).quoteDecision c req = s.quoteDecision c req := rfl

theorem State.takeQuote_error (slot : Nat) (rest : List Nat) (hfifo : s.issue.fifo = slot :: rest) (req : List Word) (r : Word)
    (h : s.quoteDecision c req = .error r) : s.takeQuote c slot req = s.saleAnswered c slot .empty [(8, r)] Code.refused := by
  unfold State.takeQuote
  dsimp only
  rw [s.quoteDecision_setRecord c slot .empty req, h]
  dsimp only
  unfold State.refuseSale
  rw [show (s.setRecord slot .empty).issue.fifo = slot :: rest from hfifo]
  dsimp only
  rw [State.setRecord_setRecord, s.answerSale_answered c slot rest hfifo]

theorem State.takeQuote_ok (slot : Nat) (rest : List Nat) (hfifo : s.issue.fifo = slot :: rest) (req : List Word) (q : Quote)
    (h : s.quoteDecision c req = .ok q) :
    s.takeQuote c slot req = s.saleAnswered c slot (.live q) (saleResults q.fare (boundTrain q.bound) q.validity) Code.quoted := by
  unfold State.takeQuote
  dsimp only
  rw [s.quoteDecision_setRecord c slot .empty req, h]
  dsimp only
  rw [State.setRecord_setRecord, s.answerSale_answered c slot rest hfifo]

/-! The tests of R64, in order. -/

theorem quoteFieldsOk_iff (p : Option Product) (n : Counts) (dest : Nat) :
    quoteFieldsOk c p n dest = true ↔
      ¬ (9 < n.adults ∨ 9 < n.conc ∨ 9 < n.children ∨ 63 < dest ∨ c.present dest = false ∨ p = none) := by
  unfold quoteFieldsOk
  simp only [Bool.and_eq_true, decide_eq_true_eq, Option.isSome_iff_ne_none, not_or, Nat.not_lt, Bool.not_eq_false, ne_eq, and_assoc]
  exact ⟨fun ⟨hproduct, hcounts⟩ => ⟨hcounts.1, hcounts.2.1, hcounts.2.2.1, hcounts.2.2.2.1, hcounts.2.2.2.2, hproduct⟩,
    fun ⟨hadults, hconc, hchildren, hdest, hpresent, hproduct⟩ => ⟨hproduct, hadults, hconc, hchildren, hdest, hpresent⟩⟩

section
variable (req : List Word) (hset : s.bat.clock = .set)
include hset

theorem State.quoteDecision_fields (hbad : quoteFieldsOk c (productOf (req.getD 0 0).toNat) (readCounts (req.getD 1 0))
    (req.getD 2 0).toNat = false) : s.quoteDecision c req = .error Code.badField := by
  unfold State.quoteDecision
  dsimp only
  rw [if_neg (by rw [hset]; exact nofun), hbad]
  rfl

/-- Past the fields the next tests come. -/
theorem State.quoteDecision_of_fields (p : Product) (hp : productOf (req.getD 0 0).toNat = some p)
    (hok : quoteFieldsOk c (some p) (readCounts (req.getD 1 0)) (req.getD 2 0).toNat = true) :
    s.quoteDecision c req =
      if (readCounts (req.getD 1 0)).total = 0 then .error Code.noPassenger
      else if 9 < (readCounts (req.getD 1 0)).total then .error Code.tooMany
      else if (req.getD 2 0).toNat = c.fare.halt then .error Code.sameStop
      else if s.bat.freeEntries = 0 then .error Code.journalFull
      else
        match s.bindFor c p (req.getD 2 0).toNat (req.getD 3 0).toNat with
        | .error r => .error r
        | .ok e =>
          let ref := match e with
            | some e => e.sched
            | none => s.bat.now
          let fare := c.totalFare (req.getD 2 0).toNat p ref (readCounts (req.getD 1 0))
          if ¬ s.bat.couldCommit p fare then .error Code.totalFull
          else
            .ok { product := p, counts := readCounts (req.getD 1 0), dest := (req.getD 2 0).toNat, bound := e.map Entry.who, fare := fare,
                  validity := validityEnd s.bat c p e, expiry := s.nowSec + c.fare.quoteLife } := by
  unfold State.quoteDecision
  dsimp only
  rw [if_neg (by rw [hset]; exact nofun), hp, hok]
  rfl

end

theorem State.bindFor_some (p : Product) (hp : p ≠ .day) (dest train : Nat) (e : Entry) (he : s.bind? c dest train = some e) :
    s.bindFor c p dest train = .ok (some e) := by
  unfold State.bindFor
  cases p with
  | day => exact absurd rfl hp
  | single => dsimp only; rw [he]
  | ret => dsimp only; rw [he]

theorem State.bindFor_none (p : Product) (hp : p ≠ .day) (dest train : Nat) (he : s.bind? c dest train = none) :
    s.bindFor c p dest train = .error (if train = 0 then Code.noService else Code.trainNotSellable) := by
  unfold State.bindFor
  cases p with
  | day => exact absurd rfl hp
  | single => dsimp only; rw [he]
  | ret => dsimp only; rw [he]

/-- Settles O41. -/
theorem quoteAnswers : Obligations.QuoteAnswers := by
  intro s c slot req hcfg hready
  obtain ⟨⟨rest, hfifo⟩, -⟩ := s.saleReady_some _ _ _ hready
  have hexec := exec_quote s c hcfg slot req hready
  refine ⟨fun r hr => ?_, fun q hq => ?_, ?_, fun hset => ⟨fun hbad => ?_, fun p hp hadults hconc hchildren hdest hpresent => ?_⟩⟩
  · rw [hexec, s.takeQuote_error c slot rest hfifo req r hr]
  · rw [hexec, s.takeQuote_ok c slot rest hfifo req q hq]
    cases hbound : q.bound <;> rfl
  · intro hunset
    exact if_pos hunset
  · refine s.quoteDecision_fields c req hset (Bool.eq_false_iff.mpr fun hok => ?_)
    exact (quoteFieldsOk_iff c _ _ _).mp hok hbad
  · have hok : quoteFieldsOk c (some p) (readCounts (req.getD 1 0)) (req.getD 2 0).toNat = true := by
      rw [quoteFieldsOk_iff, hpresent]
      rintro (h | h | h | h | h | h)
      · omega
      · omega
      · omega
      · omega
      · cases h
      · cases h
    have hdecision := s.quoteDecision_of_fields c req hset p hp hok
    generalize readCounts (req.getD 1 0) = n at *
    refine ⟨fun hnone => ?_, fun hmany => ?_, fun hone hnine => ⟨fun hhalt => ?_, fun hother hfull => ?_, fun hother hfree => ?_⟩⟩
    · rw [hdecision, if_pos hnone]
    · rw [hdecision, if_neg (by omega), if_pos hmany]
    · rw [hdecision, if_neg (by omega), if_neg (by omega), if_pos hhalt]
    · rw [hdecision, if_neg (by omega), if_neg (by omega), if_neg hother, if_pos hfull]
    · rw [if_neg (by omega), if_neg (by omega), if_neg hother, if_neg (by omega)] at hdecision
      refine ⟨fun hday hnone => ?_, fun hday hnone => ?_, fun e hday hbind hover => ?_, fun e hday hbind hfits => ?_, fun hday hany => ?_⟩
      · have hbind : s.bindFor c p (req.getD 2 0).toNat (req.getD 3 0).toNat = .error Code.noService := by
          rw [hday]
          exact if_neg (by rw [hnone]; exact Bool.false_ne_true)
        rw [hdecision, hbind]
      · have htrain : (req.getD 3 0).toNat = 0 ↔ req.getD 3 0 = 0 := by
          rw [← BitVec.toNat_inj]
          rfl
        rw [hdecision, s.bindFor_none c p hday _ _ hnone]
        simp only [htrain]
      · rw [hdecision, s.bindFor_some c p hday _ _ e hbind]
        exact if_pos (by rw [hover]; exact Bool.false_ne_true)
      · rw [hdecision, s.bindFor_some c p hday _ _ e hbind]
        exact if_neg (not_not_intro hfits)
      · subst hday
        have hbind : s.bindFor c .day (req.getD 2 0).toNat (req.getD 3 0).toNat = .ok none := if_pos hany
        rw [hbind] at hdecision
        exact ⟨fun hover => hdecision.trans (if_pos (by rw [hover]; exact Bool.false_ne_true)),
          fun hfits => hdecision.trans (if_neg (not_not_intro hfits))⟩

/-! ### ISSUE (R74, R75) -/

theorem exec_issue (hcfg : s.cfg = some c) (slot : Nat) (req : List Word) (hready : s.saleReady .issue = some (slot, req)) :
    exec .issue s = .next (s.takeIssue c slot) := by
  change execIssue s = _
  unfold execIssue
  rw [hcfg, hready]

/-- The issue check of a LIVE quote, with the clock set (R74). -/
theorem State.issueCheck_live (hset : s.bat.clock = .set) (slot : Nat) (q : Quote) (hq : s.issue.records.getD slot .empty = .live q) :
    s.issueCheck c slot =
      if ¬ s.quoteStands c q then .error Code.departureGone
      else if s.bat.freeEntries = 0 then .error Code.journalFull
      else if ¬ s.bat.couldCommit q.product q.fare then .error Code.totalFull
      else .ok q := by
  unfold State.issueCheck
  rw [if_neg (by rw [hset]; exact nofun), show s.issue.record slot = .live q from hq]

theorem State.geometry_of_free (h : 0 < s.bat.freeEntries) : ∃ g, s.bat.geometry = some g := by
  cases hg : s.bat.geometry with
  | some g => exact ⟨g, rfl⟩
  | none =>
    unfold Battery.freeEntries at h
    rw [hg] at h
    exact absurd h (Nat.lt_irrefl 0)

/-- The thirteen ticket words of an issue (R75). -/
def Ticket.journalWords (t : Ticket) (serial halt : Nat) : List Word := t.words serial halt ++ [crcWords (t.words serial halt)]

theorem ticketWrites_eq (g : Geometry) (index : Nat) (t : Ticket) (serial halt : Nat) :
    ticketWrites g index (t.words serial halt) =
      (List.range 13).map (fun k => ⟨g.base + 16 + 14 * (index % g.size) + k, (t.journalWords serial halt).getD k 0, .plain⟩) ++
      [⟨g.base + 16 + 14 * (index % g.size) + 13, Code.unsent, .journalState⟩] := by
  unfold ticketWrites Ticket.journalWords Ticket.words
  generalize crcWords _ = check
  rfl

theorem journalWords_check (t : Ticket) (serial halt : Nat) :
    (t.journalWords serial halt).getD 12 0 = crcWords ((List.range 12).map fun k => (t.journalWords serial halt).getD k 0) := by
  have hfirst : (List.range 12).map (fun k => (t.journalWords serial halt).getD k 0) = t.words serial halt := by
    unfold Ticket.journalWords
    generalize crcWords _ = check
    rfl
  rw [hfirst]
  rfl

theorem State.takeIssue_error (slot : Nat) (rest : List Nat) (hfifo : s.issue.fifo = slot :: rest) (r : Word)
    (h : s.issueCheck c slot = .error r) : s.takeIssue c slot = s.saleAnswered c slot .empty [(8, r)] Code.refused := by
  unfold State.takeIssue
  rw [h]
  exact s.refuseSale_answered c slot rest hfifo r

theorem State.takeIssue_ok (slot : Nat) (q : Quote) (h : s.issueCheck c slot = .ok q) (g : Geometry) (hg : s.bat.geometry = some g) :
    s.takeIssue c slot = { s with issue := { s.issue with
      records := s.issue.records.set slot .empty, stage := .ticket (s.ticketOf c q)
      accs := s.issue.accs ++ ticketWrites g s.bat.write ((s.ticketOf c q).words s.bat.nextSerial c.fare.halt) } } := by
  unfold State.takeIssue
  rw [h, hg]
  rfl

/-- Settles O42. -/
theorem issueChecksThenWrites : Obligations.IssueChecksThenWrites := by
  intro s c slot req hcfg hready
  obtain ⟨⟨rest, hfifo⟩, -⟩ := s.saleReady_some _ _ _ hready
  have hexec := exec_issue s c hcfg slot req hready
  refine ⟨fun r hr => ?_, fun hunset => if_pos hunset, fun hset => ⟨fun hempty => ?_, fun q why hvoided => ?_, fun q hlive => ?_⟩⟩
  · rw [hexec, s.takeIssue_error c slot rest hfifo r hr]
  · unfold State.issueCheck
    rw [if_neg (by rw [hset]; exact nofun), show s.issue.record slot = .empty from hempty]
  · unfold State.issueCheck
    rw [if_neg (by rw [hset]; exact nofun), show s.issue.record slot = .voided q why from hvoided]
    cases why <;> rfl
  · have hcheck := s.issueCheck_live c hset slot q hlive
    refine ⟨fun hgone => ?_, fun hstands hfull => ?_, fun hstands hfree hover => ?_, fun hstands hfree hfits => ?_⟩
    · rw [hcheck, if_pos (by rw [hgone]; exact Bool.false_ne_true)]
    · rw [hcheck, if_neg (not_not_intro hstands), if_pos hfull]
    · rw [hcheck, if_neg (not_not_intro hstands), if_neg (by omega), if_pos (by rw [hover]; exact Bool.false_ne_true)]
    · obtain ⟨g, hg⟩ := s.geometry_of_free hfree
      rw [if_neg (not_not_intro hstands), if_neg (by omega), if_neg (not_not_intro hfits)] at hcheck
      refine ⟨g, s.ticketOf c q, fun k => ((s.ticketOf c q).journalWords s.bat.nextSerial c.fare.halt).getD k 0, hg,
        ⟨rfl, rfl, rfl, rfl, rfl, rfl, fun hp => ?_⟩, ⟨rfl, rfl, rfl, rfl, rfl, ?_, ?_, ?_, rfl, rfl, rfl, rfl, journalWords_check _ _ _⟩, ?_⟩
      · unfold State.ticketOf
        cases hproduct : q.product with
        | single => exact absurd hproduct hp
        | ret => rfl
        | day => rfl
      · exact congrArg (BitVec.ofNat 16) (by
        change q.product.code * 4096 + (q.counts.adults * 256 + q.counts.conc * 16 + q.counts.children) = _
        omega)
      · exact congrArg (BitVec.ofNat 16) (by change q.dest * 256 + _ = _; omega)
      · exact congrArg (BitVec.ofNat 16) (by
        change boundTrain q.bound = _
        cases q.bound <;> rfl)
      · rw [hexec, s.takeIssue_ok c slot q hcheck g hg, ticketWrites_eq, ← List.append_assoc]

/-! ### The commit (R76) -/

theorem Battery.commit_eq (b : Battery) (g : Geometry) (k : Ticket) :
    b.commit g k = { b with
      nextSerial := b.nextSerial + 1, write := (b.write + 1) % (2 * g.size)
      single := if k.product = .single then ⟨b.single.count + 1, b.single.cents + k.fare⟩ else b.single
      ret := if k.product = .ret then ⟨b.ret.count + 1, b.ret.cents + k.fare⟩ else b.ret
      dayTicket := if k.product = .day then ⟨b.dayTicket.count + 1, b.dayTicket.cents + k.fare⟩ else b.dayTicket } := by
  unfold Battery.commit Battery.addSale
  cases k.product <;> rfl

/-- A reload that waits for a ticket whose answer waits to be written goes on waiting (R198, stage 1). -/
theorem State.settleLoad_waits
    (h : s.loader.stage = .idle ∨ s.loader.stage = .firstReport ∧ s.firstWritten = false ∨
      (∃ n late, s.loader.stage = .reloadTicket n late) ∧ s.ticketInWork = true) : s.settleLoad = s := by
  unfold State.settleLoad
  rcases Option.eq_none_or_eq_some s.cfg with hcfg | ⟨c, hcfg⟩
  · rw [hcfg]
  · rw [hcfg]
    rcases h with hidle | ⟨hfirst, hwritten⟩ | ⟨⟨n, late, hwait⟩, hticket⟩
    · rw [hidle]
    · rw [hfirst]
      exact if_neg (by rw [hwritten]; exact Bool.false_ne_true)
    · rw [hwait]
      exact if_pos hticket

theorem State.committed_written (g : Geometry) (k : Ticket) :
    (s.committed g k).rep.extra = s.rep.extra ∧ (s.committed g k).rep.written = s.rep.written := by
  unfold State.committed
  dsimp only
  split <;> exact ⟨rfl, rfl⟩

theorem State.firstWritten_congr (t : State) (hrep : t.rep.extra = s.rep.extra ∧ t.rep.written = s.rep.written)
    (hcommand : t.path.command = s.path.command) : t.firstWritten = s.firstWritten := by
  unfold State.firstWritten
  rw [hrep.1, hrep.2, hcommand]

theorem State.countHold_eq : s.countHold = s.setHold (if s.path.waiting = [] then 0 else s.path.hold + 1) := by
  unfold State.countHold
  cases s.path.waiting <;> rfl

theorem exec_commit_of_grant (hgrant : s.grant = some (.inr .issue)) (a : Acc) (more : List Acc) (haccs : s.issue.accs = a :: more)
    (hland : a.land = .journalState) :
    exec .commit s = .next
      (((s.poke a.addr a.val).modIssue fun u => { u with accs := more }).commitTicket.countHold).settleLoad := by
  have hnext : s.commitNext = true := by
    unfold State.commitNext
    rw [hgrant, haccs]
    dsimp only
    rw [hland]
    rfl
  have hwants : s.wants .issue = some (.write a.addr a.val) := by
    change s.issueWants = _
    unfold State.issueWants
    rw [haccs]
  have hserved : (s.poke a.addr a.val).issueServed 0 =
      ((s.poke a.addr a.val).modIssue fun u => { u with accs := more }).commitTicket := by
    unfold State.issueServed
    rw [show (s.poke a.addr a.val).issue.accs = a :: more from haccs]
    dsimp only
    rw [hland]
    rfl
  change Host.Outcome.next (if s.commitNext then s.partCycle else s) = _
  rw [if_pos hnext, State.partCycle, hgrant]
  dsimp only
  rw [State.serve, hwants]
  dsimp only
  rw [← hserved]
  rfl

/-- Settles O43. -/
theorem commitTicket : Obligations.CommitTicket := by
  intro s c g t slot rest a more hmain hcfg hg hstage hfifo haccs hland hload
  refine ⟨fun hgrant => ⟨s.bat.commit g t, s.bat.commit_eq g t, ?_⟩, fun hgrant => ?_⟩
  · rw [exec_commit_of_grant s hgrant a more haccs hland]
    generalize hu : (s.poke a.addr a.val).modIssue (fun u => { u with accs := more }) = u
    have hcommit : u.commitTicket = (u.committed g t).answerSale c
        ([(14, highWord s.bat.nextSerial), (15, lowWord s.bat.nextSerial)] ++ saleResults t.fare t.train t.validity) Code.issued := by
      subst hu
      exact State.commitTicket_eq _ c g t hcfg hg hstage
    have hanswer := State.answerSale_cons (u.committed g t) c
      ([(14, highWord s.bat.nextSerial), (15, lowWord s.bat.nextSerial)] ++ saleResults t.fare t.train t.validity) Code.issued slot rest
      (by subst hu; exact hfifo)
    rw [← List.append_assoc] at hanswer
    rw [hcommit, hanswer, State.countHold_eq, State.settleLoad_waits]
    · subst hu
      rfl
    · subst hu
      rcases hload with hidle | ⟨hfirst, hwritten⟩ | hwait
      · exact .inl hidle
      · exact .inr (.inl ⟨hfirst, (State.firstWritten_congr s _ (State.committed_written _ g t) rfl).trans hwritten⟩)
      refine .inr (.inr ⟨hwait, ?_⟩)
      change List.any _ _ = true
      rw [List.any_eq_true]
      refine ⟨_, List.mem_append_right _ (List.mem_singleton.mpr rfl), ?_⟩
      change (Code.issued == Code.issued && Landing.salePost slot == Landing.salePost (s.issue.fifo.headD 0)) = true
      rw [hfifo]
      simp
  · change Host.Outcome.next (if s.commitNext then s.partCycle else s) = _
    rw [if_neg]
    unfold State.commitNext
    split
    next _ _ hissue _ => exact absurd hissue hgrant
    next => exact Bool.false_ne_true

end Sys2Proof.Machine
end

section
/-! PROOFS. The screen channels' frames and lines, and the sample periods (R129 to R132, R149, R150). -/

namespace Sys2Proof.Machine

variable (s : State)

/-! ### Screens (R130 to R132) -/

theorem ScanPos.frameOver_iff (p : ScanPos) : p.frameOver = true ↔ p = .none ∨ p = .line 79 := by
  cases p <;> simp [ScanPos.frameOver]

/-- The line whose period starts next follows the one shown. -/
theorem ScanPos.nextLine_iff (p : ScanPos) (y : Nat) :
    p.nextLine = some y ↔ p = .blanking ∧ y = 0 ∨ ∃ k, p = .line k ∧ k < 79 ∧ y = k + 1 := by
  cases p with
  | none => simp [ScanPos.nextLine]
  | blanking => simp [ScanPos.nextLine, eq_comm]
  | line k =>
    change (if k < 79 then some (k + 1) else Option.none) = some y ↔ _
    split
    next h => simp [h, eq_comm]
    next h =>
      simp only [reduceCtorEq, false_and, ScanPos.line.injEq, false_or, false_iff]
      rintro ⟨j, rfl, hj, -⟩
      exact h hj

theorem exec_frameStart (scr : Screen) (c : Settings) (hcfg : s.cfg = some c) (hscan : (s.scan scr).scanning = true)
    (hover : (s.scan scr).pos = .none ∨ (s.scan scr).pos = .line 79) :
    exec (.frameStart scr) s = .next (s.modScan scr (·.startFrame (c.latch scr s.act.mode))) := by
  change execFrameStart scr s = _
  unfold execFrameStart
  rw [hcfg]
  exact congrArg Host.Outcome.next (if_pos ⟨hscan, (ScanPos.frameOver_iff _).mpr hover⟩)

theorem exec_fetchUrgent (scr : Screen) (hscan : (s.scan scr).scanning = true) (hfetch : (s.scan scr).fetch.isSome = true) :
    exec (.fetchUrgent scr) s = .next (s.modScan scr fun x => { x with urgent := true }) :=
  congrArg Host.Outcome.next (if_pos ⟨hscan, hfetch⟩)

theorem exec_lineStart (scr : Screen) (y : Nat) (hscan : (s.scan scr).scanning = true)
    (hy : (s.scan scr).pos = .blanking ∧ y = 0 ∨ ∃ k, (s.scan scr).pos = .line k ∧ k < 79 ∧ y = k + 1) :
    exec (.lineStart scr) s = .next (s.startLine scr y) := by
  change execLineStart scr s = _
  unfold execLineStart
  rw [hscan, (ScanPos.nextLine_iff _ y).mpr hy]

/-- A change that differs on the channel at hand only. -/
theorem State.modScan_congr (scr : Screen) (f g : Scan → Scan) (h : f (s.scan scr) = g (s.scan scr)) : s.modScan scr f = s.modScan scr g := by
  cases scr with
  | a => exact congrArg (fun x => ({ s with scrA := x } : State)) h
  | b => exact congrArg (fun x => ({ s with scrB := x } : State)) h

theorem State.startLine_ready (scr : Screen) (y : Nat) (h : (s.scan scr).fill.length = 32) :
    s.startLine scr y = s.modScan scr fun x => { x with
      shown := x.fill, lastShown := some x.fill, fill := [], pos := .line y, urgent := false
      fetch := if y < 79 then some (y + 1) else none } := by
  have hready : (s.scan scr).ready = true := by rw [Scan.ready, h]; rfl
  unfold State.startLine
  dsimp only
  rw [if_pos hready]
  refine s.modScan_congr scr _ _ ?_
  dsimp only [Scan.startLine]
  rw [hready]
  rfl

theorem State.startLine_late (scr : Screen) (y : Nat) (h : (s.scan scr).fill.length ≠ 32) :
    s.startLine scr y = (({ s with rep := (s.rep.counted .screenUnderrun 1).raised .underrun } : State).modScan scr fun x => { x with
      fill := [], pos := .line y, urgent := false
      fetch := if y < 79 then some (y + 1) else none }) := by
  have hready : (s.scan scr).ready = false := by
    rw [Scan.ready]
    exact beq_false_of_ne h
  have hline : s.modScan scr (·.startLine y) = s.modScan scr fun x => { x with
      fill := [], pos := .line y, urgent := false, fetch := if y < 79 then some (y + 1) else none } := by
    refine s.modScan_congr scr _ _ ?_
    dsimp only [Scan.startLine]
    rw [hready]
    rfl
  unfold State.startLine
  dsimp only
  rw [hready, hline]
  cases scr <;> rfl

/-- Settles O22. -/
theorem screenFramesAndLines : Obligations.ScreenFramesAndLines := by
  refine ⟨fun s c hcfg => ⟨fun hscan hover => ?_, fun hscan hover => ?_, fun hscan hfetch => exec_fetchUrgent s .a hscan hfetch,
    fun hscan hfetch => exec_fetchUrgent s .b hscan hfetch⟩, fun s scr y hscan hy => ⟨fun hfull => ?_, fun hshort => ?_⟩⟩
  · rw [exec_frameStart s .a c hcfg hscan hover]
    cases hmode : s.act.mode <;> rfl
  · rw [exec_frameStart s .b c hcfg hscan hover]
    cases hmode : s.act.mode <;> rfl
  · rw [exec_lineStart s scr y hscan hy, s.startLine_ready scr y hfull]
  · rw [exec_lineStart s scr y hscan hy, s.startLine_late scr y hshort]

/-! ### Sample periods (R149, R150) -/

/-- One of several samples left of the clip at hand goes out. -/
theorem State.outputSample_more (a : Announcement) (b : Byte) (rest : List Byte) (hcurrent : s.ann.current = some a)
    (hfifo : s.ann.fifo = b :: rest) (clip left : Nat) (more : List (Nat × Nat)) (hout : a.out = (clip, left) :: more) (hleft : 1 < left) :
    s.outputSample = { s with ann := { s.ann with
      fifo := rest, level := scaled b s.ann.volume, driven := scaled b s.ann.volume
      current := some { a with out := (clip, left - 1) :: more } } } := by
  unfold State.outputSample
  rw [hcurrent, hfifo]
  dsimp only
  rw [hout]
  dsimp only
  rw [if_pos hleft]
  rfl

/-- A start from a queue changes the queue and the current announcement alone (R148). -/
theorem State.startFrom_eq (c : Settings) (l : List AnnReq) :
    ∃ q k, s.startFrom c l = { s with ann := { s.ann with queue := q, current := k } } := by
  induction l with
  | nil => exact ⟨[], s.ann.current, rfl⟩
  | cons r rs ih =>
    unfold State.startFrom
    split
    next a _ => exact ⟨rs, some a, rfl⟩
    next => exact ih

theorem State.startNext_eq : ∃ q k, s.startNext = { s with ann := { s.ann with queue := q, current := k } } := by
  unfold State.startNext
  split
  next c _ _ => exact s.startFrom_eq c _
  next => exact ⟨s.ann.queue, s.ann.current, rfl⟩

theorem State.endAnnouncement_eq :
    ∃ q k, s.endAnnouncement = { s with ann := { s.ann with queue := q, current := k, fifo := [], level := 128 } } := by
  obtain ⟨q, k, h⟩ := State.startNext_eq (s.modAnn fun n => { n with current := none, fifo := [], level := 128 })
  exact ⟨q, k, h⟩

/-- The sample at the head of the FIFO is driven, scaled by the volume (R149). -/
theorem State.outputSample_driven (a : Announcement) (b : Byte) (rest : List Byte) (hcurrent : s.ann.current = some a)
    (hfifo : s.ann.fifo = b :: rest) : s.outputSample.ann.driven = scaled b s.ann.volume ∧ s.outputSample.rep = s.rep := by
  unfold State.outputSample
  rw [hcurrent, hfifo]
  dsimp only
  split
  next => exact ⟨rfl, rfl⟩
  next =>
    split
    next => exact ⟨rfl, rfl⟩
    split
    next =>
      obtain ⟨q, k, hend⟩ := State.endAnnouncement_eq
        (s.modAnn fun n => { n with fifo := rest, level := scaled b s.ann.volume, driven := scaled b s.ann.volume })
      rw [hend]
      exact ⟨rfl, rfl⟩
    next => exact ⟨rfl, rfl⟩

theorem State.annPeriod_playing (a : Announcement) (hcurrent : s.ann.current = some a) (hplaying : a.playing = true) :
    s.annPeriod = match s.ann.fifo with
      | [] => (s.count .audioUnderrun 1).raise .underrun
      | _ :: _ => s.outputSample := by
  unfold State.annPeriod
  rw [hcurrent]
  dsimp only
  rw [hplaying]
  rfl

/-- Settles O23. -/
theorem samplePeriodUnderrun : Obligations.SamplePeriodUnderrun := by
  intro s
  have hexec : exec .samplePeriod s = .next s.annPeriod := rfl
  refine ⟨fun hnone => ?_, fun a hcurrent hplaying => ?_, fun a hcurrent hplaying hfifo => ?_, fun a b rest hcurrent hplaying hfifo => ?_⟩
  · rw [hexec, State.annPeriod, hnone]
  · rw [hexec, State.annPeriod, hcurrent]
    dsimp only
    rw [hplaying]
    rfl
  · rw [hexec, s.annPeriod_playing a hcurrent hplaying, hfifo]
    rfl
  · obtain ⟨hdriven, hrep⟩ := s.outputSample_driven a b rest hcurrent hfifo
    have hout : s.annPeriod = s.outputSample := by rw [s.annPeriod_playing a hcurrent hplaying, hfifo]
    refine ⟨s.outputSample, by rw [hexec, hout], hout ▸ Front.annPeriod (.refl s), hdriven, hrep, fun clip left more hmore hleft => ?_⟩
    rw [hdriven]
    exact s.outputSample_more a b rest hcurrent hfifo clip left more hmore hleft

end Sys2Proof.Machine
end

section
/-! PROOFS. What the departure table's events bring the report flags, and settings of the clock (R21, R33 to R37, R164, R165). -/

namespace Sys2Proof.Machine

variable (s : State)

/-! ### The announcer, the floor and the quotes count, and raise no flag -/

theorem State.startNext_rep : s.startNext.rep = s.rep := by
  unfold State.startNext
  split
  next c _ _ =>
    obtain ⟨q, k, h⟩ := s.startFrom_eq c s.ann.queue
    rw [h]
  next => rfl

theorem State.endAnnouncement_rep : s.endAnnouncement.rep = s.rep := by
  unfold State.endAnnouncement
  rw [State.startNext_rep]
  rfl

theorem State.count_flags (k : Counter) (n : Nat) : (s.count k n).rep.flags = s.rep.flags := rfl

theorem State.cut_flags (why : CutCause) : (s.cut why).rep.flags = s.rep.flags := by
  unfold State.cut
  split
  next => rfl
  next a =>
    split
    next => rfl
    next =>
      have hcount : (if why = .preempted then s.count .annDrop 1 else s).rep.flags = s.rep.flags := by split <;> rfl
      dsimp only
      split
      · exact hcount
      · rw [State.endAnnouncement_rep]
        exact hcount

theorem State.takeRequest_flags (r : AnnReq) : (s.takeRequest r).rep.flags = s.rep.flags := by
  unfold State.takeRequest
  dsimp only
  rw [State.startNext_rep]
  split
  · rw [State.cut_flags]
    rfl
  · rfl

theorem State.handRequest_flags (k : AnnKind) (who : TrainId) : (s.handRequest k who).rep.flags = s.rep.flags := by
  unfold State.handRequest
  split
  · rfl
  · rw [State.takeRequest_flags]

theorem State.cutFor_flags (who : TrainId) (kinds : List AnnKind) : (s.cutFor who kinds).rep.flags = s.rep.flags := by
  unfold State.cutFor
  split
  · split
    · rw [State.cut_flags]
    · rfl
  · rfl

theorem State.annRemoved_flags (who : TrainId) : (s.annRemoved who).rep.flags = s.rep.flags := State.cutFor_flags _ _ _
theorem State.annCancelled_flags (who : TrainId) : (s.annCancelled who).rep.flags = s.rep.flags := State.cutFor_flags _ _ _
theorem State.annClear_flags : s.annClear.rep.flags = s.rep.flags := State.cut_flags _ _

theorem State.syncDue_rep : s.syncDue.rep = s.rep := by
  unfold State.syncDue
  dsimp only
  split
  · rw [State.floorOn_eq]
    rfl
  · split
    · rw [State.floorOff_eq]
      rfl
    · rfl

theorem State.markBoth_rep (rows : List Nat) : (s.markBoth rows).rep = s.rep := by
  unfold State.markBoth
  rw [State.markRows_rep, State.markRows_rep]

theorem State.markDepartures_rep : s.markDepartures.rep = s.rep := s.markBoth_rep _

theorem State.voidSlot_rep (slot : Nat) (why : VoidReason) : (s.voidSlot slot why).rep = s.rep := by
  unfold State.voidSlot
  split
  · dsimp only
    split <;> rfl
  · rfl

theorem State.voidBound_rep (who : TrainId) : (s.voidBound who).rep = s.rep := by
  refine s.foldl_rep _ _ fun t slot => ?_
  split
  · exact t.voidSlot_rep _ _
  · rfl

theorem State.voidAll_rep : s.voidAll.rep = s.rep := s.foldl_rep _ _ fun t _ => t.voidSlot_rep _ _

theorem State.adjustSel_rep (c : Settings) : (s.adjustSel c).rep = s.rep := by
  unfold State.adjustSel
  dsimp only
  split
  · rfl
  · rfl
  · rfl
  all_goals
    split
    · exact s.setSel_rep _
    · split
      · exact s.setSel_rep _
      · split
        · rfl
        · exact s.setSel_rep _

theorem State.recomputeList_rep : s.recomputeList.rep = s.rep := by
  unfold State.recomputeList
  split
  · rfl
  · rw [State.fareEvent, State.markRows_rep, State.adjustSel_rep]
    rfl

/-! ### Evaluations and removals -/

theorem State.phaseEvents_flags (old : Phase) (mark : Bool) (new : Entry) :
    (s.phaseEvents old mark new).rep.flags = s.rep.flags := by
  unfold State.phaseEvents
  split
  next => rfl
  next =>
    split
    · rw [State.activityEvent_rep]
      split
      · rfl
      · rw [State.handRequest_flags]
    · split <;> rfl
    · exact congrArg ReportUnit.flags (s.voidBound_rep _)
    · dsimp only
      split
      · rw [State.annCancelled_flags, State.handRequest_flags]
        exact congrArg ReportUnit.flags (s.voidBound_rep _)
      · rw [State.handRequest_flags, State.annCancelled_flags]
        exact congrArg ReportUnit.flags (s.voidBound_rep _)

theorem State.evalEntry_flags (c : Settings) (old cur : Entry) (after : EvalAfter) (stepped : Bool) :
    (s.evalEntry c old cur after stepped).rep.flags = s.rep.flags := by
  have hphase : ((s.setTable (replaceEntry s.bat s.table old (cur.evaluated s.bat c.proj s.nowSec old after stepped))).syncDue.phaseEvents
      old.phase cur.dueAnn (cur.evaluated s.bat c.proj s.nowSec old after stepped)).rep.flags = s.rep.flags := by
    rw [State.phaseEvents_flags, State.syncDue_rep]
    rfl
  unfold State.evalEntry
  dsimp only
  generalize (s.setTable (replaceEntry s.bat s.table old (cur.evaluated s.bat c.proj s.nowSec old after stepped))).syncDue.phaseEvents
      old.phase cur.dueAnn (cur.evaluated s.bat c.proj s.nowSec old after stepped) = t at hphase ⊢
  have hdelay : (if (stepped && delayDue c.proj old.hm
      { cur.evaluated s.bat c.proj s.nowSec old after stepped with delayAnn := cur.delayAnn }) = true
      then t.handRequest .delay (cur.evaluated s.bat c.proj s.nowSec old after stepped).who else t).rep.flags = s.rep.flags := by
    split
    · rw [State.handRequest_flags, hphase]
    · exact hphase
  split
  · rw [State.markDepartures_rep, hdelay]
  · exact hdelay

theorem State.removeEntry_flags (who : TrainId) : (s.removeEntry who).rep.flags = s.rep.flags := by
  unfold State.removeEntry
  rw [State.markDepartures_rep, State.syncDue_rep, State.annRemoved_flags, State.voidBound_rep]
  rfl

/-- A flag is pending (R184). -/
def State.Shows (t : State) (f : Flag) : Prop := t.rep.flags &&& f.word = f.word

variable {s} {t : State} {f : Flag}

theorem State.Shows.of_flags (h : s.Shows f) (hflags : t.rep.flags = s.rep.flags) : t.Shows f := by
  unfold State.Shows
  rw [hflags]
  exact h

theorem State.Shows.of_rep (h : s.Shows f) (hrep : t.rep = s.rep) : t.Shows f := h.of_flags (congrArg ReportUnit.flags hrep)

/-- A raised flag is pending. -/
theorem State.shows_raise (s : State) (f : Flag) : (s.raise f).Shows f := by
  change (s.rep.flags ||| f.word) &&& f.word = f.word
  ext i hi
  simp only [BitVec.getElem_and, BitVec.getElem_or]
  cases f.word[i] <;> simp

/-- Raising leaves the flags pending that are. -/
theorem State.Shows.raise (h : s.Shows f) (g : Flag) : (s.raise g).Shows f := by
  change (s.rep.flags ||| g.word) &&& f.word = f.word
  have hf : s.rep.flags &&& f.word = f.word := h
  ext i hi
  have hbit := congrArg (fun w : Word => w[i]) hf
  simp only [BitVec.getElem_and, BitVec.getElem_or] at hbit ⊢
  revert hbit
  cases s.rep.flags[i] <;> cases f.word[i] <;> simp

theorem State.Shows.foldl {α : Type} {g : State → α → State} (hg : ∀ t x, t.Shows f → (g t x).Shows f) (l : List α)
    (h : s.Shows f) : (l.foldl g s).Shows f := by
  induction l generalizing s with
  | nil => exact h
  | cons x xs ih => exact ih (hg s x h)

theorem State.Shows.countLost (h : s.Shows f) (n : Nat) : (s.countLost n).Shows f := by
  unfold State.countLost
  split
  · exact h
  · exact State.Shows.raise (s := s.count .tableLoss n) h _

theorem State.Shows.removeAll (h : s.Shows f) (l : List Entry) : (s.removeAll l).Shows f :=
  State.Shows.foldl (fun t _ ht => ht.of_flags (t.removeEntry_flags _)) l h

theorem State.Shows.evalAll (h : s.Shows f) (c : Settings) : (s.evalAll c).Shows f := by
  refine State.Shows.foldl (fun t e ht => ?_) s.table h
  split
  · exact ht.of_flags (State.evalEntry_flags _ _ _ _ _ _)
  · exact ht

theorem State.Shows.evalPass (h : s.Shows f) (c : Settings) : (s.evalPass c).Shows f :=
  ((((h.evalAll c).removeAll _).removeAll _).countLost _).of_rep (State.recomputeList_rep _)

theorem State.Shows.rollTable (h : s.Shows f) : s.rollTable.Shows f := by
  have hlost := (h.removeAll (s.table.filter fun e => e.relation s.bat == .unheld)).countLost
    (s.table.filter fun e => e.relation s.bat == .unheld).length
  exact (hlost.of_rep (t := State.setTable _ _) rfl).of_rep ((State.markDepartures_rep _).trans (State.syncDue_rep _))

theorem State.Shows.emptyTable (h : s.Shows f) : s.emptyTable.Shows f := by
  have hcleared : (s.annClear.setTable []).Shows f := h.of_flags s.annClear_flags
  have hlost := (hcleared.of_rep (State.syncDue_rep _)).countLost s.table.length
  exact ((hlost.of_rep (State.voidAll_rep _)).of_rep (State.markDepartures_rep _)).of_rep (State.recomputeList_rep _)

variable (s)

/-! ### Settings (R33 to R35) -/

/-- The clock is set at once, and CLOCK is raised (R35). -/
theorem State.setClockNow_eq (civil : Nat) (day : Word) : s.setClockNow civil day = (s.setAt civil day).raise .clock := rfl

/-- A step reaches the departure table alone, and CLOCK stays pending (R35). -/
theorem State.clockStep_taken (c : Settings) (civil : Nat) (day : Word) :
    Inner (s.setAt civil day) (s.clockStep c civil day) ∧ (s.clockStep c civil day).Shows .clock ∧
      (s.bat.dayDiff day ≠ 0 → s.bat.dayDiff day ≠ 1 → (s.clockStep c civil day).table = []) := by
  have hinner : Inner (s.setAt civil day) (s.setClockNow civil day) := .raise _ (.refl _)
  have hshows : (s.setClockNow civil day).Shows .clock := State.shows_raise _ _
  unfold State.clockStep
  generalize s.setClockNow civil day = u at hinner hshows ⊢
  have hstep : Inner (s.setAt civil day) (u.stepTable c (s.bat.dayDiff day)) ∧ (u.stepTable c (s.bat.dayDiff day)).Shows .clock ∧
      (s.bat.dayDiff day ≠ 0 → s.bat.dayDiff day ≠ 1 → (u.stepTable c (s.bat.dayDiff day)).table = []) := by
    unfold State.stepTable
    split
    next hzero => exact ⟨hinner.evalPass c, hshows.evalPass c, fun hne => absurd hzero hne⟩
    next =>
      split
      next hone => exact ⟨hinner.rollTable.evalPass c, hshows.rollTable.evalPass c, fun _ hne => absurd hone hne⟩
      next => exact ⟨hinner.emptyTable, hshows.emptyTable, fun _ _ => u.emptyTable_table⟩
  obtain ⟨hinner', hshows', hempty⟩ := hstep
  refine ⟨hinner'.markBoth _, hshows'.of_rep (State.markBoth_rep _ _), fun hback hlater => ?_⟩
  exact (Front.markBoth _ (.refl _)).table.trans (hempty hback hlater)

theorem State.clockTaken_applySetting (c : Settings) (civil : Nat) (day : Word) : s.clockTaken (s.applySetting c civil day) civil day := by
  unfold State.clockTaken State.applySetting
  dsimp only
  change (if s.bat.clock = .set ∧ (s.bat.offset civil day).natAbs ≤ 120 then _ else _)
  split
  next hslew => rfl
  next hstep => exact s.clockStep_taken c civil day

/-- Settles O45. -/
theorem setClockCommand : Obligations.SetClockCommand := by
  intro s c args hcfg hready
  have hexec : exec .setClock s = .next
      (if c.link.authority = true ∧ s.link.state = .up then s.commandRefused c Code.authority
       else if 86399 < pairVal (args.getD 0 0) (args.getD 1 0) then s.commandRefused c Code.badField
       else (s.applySetting c (pairVal (args.getD 0 0) (args.getD 1 0)) (args.getD 2 0)).commandDone c 0) := by
    change execSetClock s = _
    unfold execSetClock
    rw [hcfg, s.commandArgs_ready .setClock args hready]
  rw [hexec]
  refine ⟨fun hoffice => ?_, fun hoffice => ⟨fun hover => ?_, fun hfits => ⟨_, s.clockTaken_applySetting c _ _, ?_⟩⟩⟩
  · rw [if_pos hoffice]
    rfl
  · rw [if_neg hoffice, if_pos hover]
    rfl
  · rw [if_neg hoffice, if_neg (Nat.not_lt.mpr hfits)]
    rfl

/-! ### CLOCK and NOTICE (R164, R165) -/

theorem State.setLineNotice_lineNotice (n : Option Notice) : (s.setLineNotice n).board.lineNotice = n := by
  unfold State.setLineNotice
  split
  next h => exact h
  next => rw [State.markNotices_eq]; unfold State.noticesMarked; split <;> rfl

theorem State.setLineNotice_ownNotice (n : Option Notice) : (s.setLineNotice n).board.ownNotice = s.board.ownNotice := by
  unfold State.setLineNotice
  split
  next => rfl
  next => rw [State.markNotices_eq]; unfold State.noticesMarked; split <;> rfl

theorem State.boardMode_notices (old new : Mode) :
    (s.boardMode old new).board.lineNotice = s.board.lineNotice ∧ (s.boardMode old new).board.ownNotice = s.board.ownNotice := by
  unfold State.boardMode
  split
  · exact ⟨rfl, rfl⟩
  all_goals split <;> exact ⟨rfl, rfl⟩

/-- An activity event leaves the notices. -/
theorem State.activityEvent_notices :
    s.activityEvent.board.lineNotice = s.board.lineNotice ∧ s.activityEvent.board.ownNotice = s.board.ownNotice := by
  unfold State.activityEvent
  split
  · unfold State.setMode
    split
    · exact ⟨rfl, rfl⟩
    · exact State.boardMode_notices _ _ _
  · exact ⟨rfl, rfl⟩

/-- A NOTICE sets the line notice, or clears it for an empty text or a duration of 0 (R165). -/
theorem State.takeNotice_spec (dur : Nat) (text : List Nat) :
    Front s (s.takeNotice dur text) ∧
    (s.takeNotice dur text).board.lineNotice = (if dur = 0 ∨ text = [] then none else some ⟨text, s.clk.upSec + dur⟩) ∧
    (s.takeNotice dur text).board.ownNotice = s.board.ownNotice := by
  unfold State.takeNotice
  split
  next => exact ⟨.setLineNotice _ (.refl s), s.setLineNotice_lineNotice _, s.setLineNotice_ownNotice _⟩
  next =>
    obtain ⟨hline, hown⟩ := (s.setLineNotice (some ⟨text, s.nowSec + dur⟩)).activityEvent_notices
    exact ⟨.activityEvent (.setLineNotice _ (.refl s)), hline.trans (s.setLineNotice_lineNotice _),
      hown.trans (s.setLineNotice_ownNotice _)⟩

/-- Settles O53. -/
theorem clockAndNoticeFrames : Obligations.ClockAndNoticeFrames := by
  intro s c seq payload hcfg hhears hlen
  have hclockAll : exec (.clock .broadcast seq payload) s = .next ((s.heard c).applyClock c payload) := by
    change execClock .broadcast seq payload s = _
    unfold execClock
    rw [s.onFrame_hears c hcfg hhears _ _ _ _ hlen]
    exact congrArg (fun t => Host.Outcome.next (State.applyClock t c payload)) (s.linkUp_eq c)
  have hnoticeAll : exec (.notice .broadcast seq payload) s = .next ((s.heard c).applyNotice payload) := by
    change execNotice .broadcast seq payload s = _
    unfold execNotice
    rw [s.onFrame_hears c hcfg hhears _ _ _ _ hlen]
    exact congrArg (fun t => Host.Outcome.next (State.applyNotice t payload)) (s.linkUp_eq c)
  have hclock := exec_addressedFrame_new s c hcfg hhears (.clock .addressed seq payload) 0x03 seq payload rfl hlen
  have hnotice := exec_addressedFrame_new s c hcfg hhears (.notice .addressed seq payload) 0x04 seq payload rfl hlen
  refine ⟨fun hnone => ⟨?_, fun hnew => ?_⟩, fun civil day hsome => ⟨⟨_, State.clockTaken_applySetting _ c civil day, ?_⟩,
    fun hnew => ⟨_, State.clockTaken_applySetting _ c civil day, ?_⟩⟩, fun hnone => ⟨?_, fun hnew => ?_⟩, fun dur text hsome => ?_⟩
  · rw [hclockAll, State.applyClock, hnone]
  · rw [hclock hnew, ← State.replyAck_awaits _ c seq (s.awaits_awaiting c 0x03 seq payload (.built []))]
    unfold frameEffect
    dsimp only
    rw [State.applyClock, hnone]
    rfl
  · rw [hclockAll, State.applyClock, hsome]
  · rw [hclock hnew]
    unfold frameEffect
    dsimp only
    rw [State.applyClock, hsome]
    rfl
  · rw [hnoticeAll, State.applyNotice, hnone]
  · rw [hnotice hnew, ← State.replyAck_awaits _ c seq (s.awaits_awaiting c 0x04 seq payload (.built []))]
    unfold frameEffect
    dsimp only
    rw [State.applyNotice, hnone]
    rfl
  · dsimp only
    obtain ⟨hfrontAll, hlineAll, hownAll⟩ := (s.heard c).takeNotice_spec dur text
    obtain ⟨hfront, hline, hown⟩ := (s.awaiting c 0x04 seq payload (.built [])).takeNotice_spec dur text
    refine ⟨⟨_, hfrontAll, hlineAll, hownAll, ?_⟩, fun hnew => ⟨_, hfront, hline, hown, ?_⟩⟩
    · rw [hnoticeAll, State.applyNotice, hsome]
    · rw [hnotice hnew]
      unfold frameEffect
      dsimp only
      rw [State.applyNotice, hsome]
      rfl

end Sys2Proof.Machine
end

section
/-! PROOFS. Requests handed to the announcer, PLAY, and the local notice (R121, R146 to R148, R151). -/

namespace Sys2Proof.Machine

variable (s : State)

/-! ### Placing a request (R147) -/

/-- Behind the requests of its priority. -/
def placedIn (q : List AnnReq) (r : AnnReq) : List AnnReq :=
  q.takeWhile (fun x => decide (r.kind.priority ≤ x.kind.priority)) ++ r ::
    q.dropWhile (fun x => decide (r.kind.priority ≤ x.kind.priority))

theorem enqueue_eq (q : List AnnReq) (r : AnnReq) : enqueue q r = placedIn q r := by
  refine insertBy_eq_takeWhile _ r q _ fun y => ?_
  rw [← decide_not, decide_eq_decide]
  exact Nat.not_le.symm

theorem mem_placedIn (q : List AnnReq) (r x : AnnReq) : x ∈ placedIn q r ↔ x = r ∨ x ∈ q := by
  rw [← enqueue_eq]
  exact mem_insertBy _ _ _ _

/-- The request stands in the queue already. -/
def heldIn (q : List AnnReq) (r : AnnReq) : Prop := ∃ x ∈ q, x.same r = true

theorem placeRequest_held {q : List AnnReq} {r : AnnReq} (h : heldIn q r) :
    placeRequest q r = (q.map fun x => if x.same r = true then r else x, true, 0) :=
  if_pos (List.any_eq_true.mpr h)

theorem placeRequest_room {q : List AnnReq} {r : AnnReq} (h : ¬ heldIn q r) (hlen : q.length < 4) :
    placeRequest q r = (placedIn q r, true, 0) := by
  unfold placeRequest
  rw [if_neg (fun hany => h (List.any_eq_true.mp hany)), if_pos hlen, enqueue_eq]

theorem placeRequest_full {q : List AnnReq} {r l : AnnReq} (h : ¬ heldIn q r) (hlen : 4 ≤ q.length) (hlast : q.getLast? = some l) :
    placeRequest q r = if l.kind.priority < r.kind.priority then (placedIn q.dropLast r, true, 1) else (q, false, 1) := by
  unfold placeRequest
  rw [if_neg (fun hany => h (List.any_eq_true.mp hany)), if_neg (Nat.not_lt.mpr hlen), hlast, enqueue_eq]

/-! ### Starting, cutting and taking (R148, R151) -/

theorem State.outranked_iff (a : Announcement) (h : s.ann.current = some a) :
    s.outranked = true ↔ ∃ r ∈ s.ann.queue, a.kind.priority < r.kind.priority := by
  unfold State.outranked
  rw [h]
  simp

theorem State.startNext_busy (h : s.ann.current ≠ none) : s.startNext = s := by
  obtain ⟨a, ha⟩ := Option.ne_none_iff_exists'.mp h
  unfold State.startNext
  rw [ha]
  cases s.cfg <;> rfl

theorem State.startNext_free (c : Settings) (hcfg : s.cfg = some c) (h : s.ann.current = none) :
    s.startNext = s.startFrom c s.ann.queue := by
  unfold State.startNext
  rw [hcfg, h]

/-- A start from the queue takes one of its requests, or empties it (R148). -/
theorem State.startFrom_ends (c : Settings) (q : List AnnReq) : ∃ k rest, (k ≠ none ∨ k = s.ann.current ∧ rest = []) ∧
    s.startFrom c q = { s with ann := { s.ann with queue := rest, current := k } } := by
  induction q with
  | nil => exact ⟨s.ann.current, [], .inr ⟨rfl, rfl⟩, rfl⟩
  | cons r rs ih =>
    unfold State.startFrom
    split
    next a _ => exact ⟨some a, rs, .inl nofun, rfl⟩
    next => exact ih

/-- A second start adds nothing to the first. -/
theorem State.startNext_startFrom (c : Settings) (hcfg : s.cfg = some c) (q : List AnnReq) :
    (s.startFrom c q).startNext = s.startFrom c q := by
  obtain ⟨k, rest, hends, heq⟩ := s.startFrom_ends c q
  rw [heq]
  by_cases hk : k = none
  · obtain ⟨-, hrest⟩ := hends.resolve_left (not_not_intro hk)
    refine (State.startNext_free { s with ann := { s.ann with queue := rest, current := k } } c hcfg hk).trans ?_
    rw [hrest]
    rfl
  · exact State.startNext_busy _ hk

/-- The start of a request depends on the report unit in nothing. -/
theorem State.startFrom_with_rep (c : Settings) (rep : ReportUnit) (q : List AnnReq) :
    ({ s with rep := rep } : State).startFrom c q = { s.startFrom c q with rep := rep } := by
  induction q with
  | nil => rfl
  | cons r rs ih =>
    unfold State.startFrom
    change (match startOf c r (s.resolve c r) with | some a => _ | none => _) = _
    cases startOf c r (s.resolve c r) with
    | none => exact ih
    | some a => rfl

theorem State.startFrom_ann (c : Settings) (q : List AnnReq) : s.startFrom c q = { s with ann := (s.startFrom c q).ann } := by
  obtain ⟨k, rest, -, heq⟩ := s.startFrom_ends c q
  rw [heq]

theorem State.cut_marked (why : CutCause) (a : Announcement) (h : s.ann.current = some a) (hcut : a.cut ≠ none) : s.cut why = s := by
  obtain ⟨w, hw⟩ := Option.ne_none_iff_exists'.mp hcut
  unfold State.cut
  rw [h]
  dsimp only
  rw [hw]

/-- The queue takes a request, and R147 counts what it drops. -/
def State.placed (s : State) (r : AnnReq) : State :=
  { s with
    ann := { s.ann with queue := (placeRequest s.ann.queue r).1 }, rep := s.rep.counted .annDrop (placeRequest s.ann.queue r).2.2 }

theorem State.takeRequest_eq (r : AnnReq) :
    s.takeRequest r =
      (if ((placeRequest s.ann.queue r).2.1 && (s.placed r).outranked) = true then (s.placed r).cut .preempted else s.placed r).startNext :=
  rfl

/-- With an announcement current that is not to be cut, a request only takes its place (R147, R151). -/
theorem State.takeRequest_waits (r : AnnReq) (a : Announcement) (hcurrent : s.ann.current = some a)
    (h : a.cut ≠ none ∨ (placeRequest s.ann.queue r).2.1 = false ∨
      ∀ x ∈ (placeRequest s.ann.queue r).1, x.kind.priority ≤ a.kind.priority) : s.takeRequest r = s.placed r := by
  have hbusy : (s.placed r).ann.current = some a := hcurrent
  have hstays : (if ((placeRequest s.ann.queue r).2.1 && (s.placed r).outranked) = true then (s.placed r).cut .preempted
      else s.placed r) = s.placed r := by
    split
    next hout =>
      obtain ⟨hin, hout⟩ := Bool.and_eq_true_iff.mp hout
      rcases h with hcut | hdropped | hlow
      · exact State.cut_marked _ _ a hbusy hcut
      · exact absurd (hin.symm.trans hdropped) nofun
      · obtain ⟨x, hx, hlt⟩ := (State.outranked_iff _ a hbusy).mp hout
        exact absurd (hlow x hx) (Nat.not_le.mpr hlt)
    next => rfl
  rw [State.takeRequest_eq, hstays]
  exact State.startNext_busy _ (by rw [hbusy]; exact nofun)

/-- With none current the queue starts (R148). -/
theorem State.takeRequest_starts (c : Settings) (hcfg : s.cfg = some c) (r : AnnReq) (hcurrent : s.ann.current = none) :
    s.takeRequest r = (s.placed r).startFrom c (placeRequest s.ann.queue r).1 := by
  have hfree : (s.placed r).ann.current = none := hcurrent
  have hout : ¬ ((placeRequest s.ann.queue r).2.1 && (s.placed r).outranked) = true := by
    unfold State.outranked
    rw [hfree, Bool.and_false]
    exact Bool.false_ne_true
  rw [State.takeRequest_eq, if_neg hout]
  exact State.startNext_free _ c hcfg hfree

/-- A current announcement that is outranked is counted and cut: at its clip's end while it plays, at once while it starts (R151). -/
theorem State.takeRequest_cuts (c : Settings) (hcfg : s.cfg = some c) (r : AnnReq) (a : Announcement)
    (hcurrent : s.ann.current = some a) (hcut : a.cut = none) (hin : (placeRequest s.ann.queue r).2.1 = true)
    (hout : ∃ x ∈ (placeRequest s.ann.queue r).1, a.kind.priority < x.kind.priority) :
    s.takeRequest r =
      if a.playing = true then
        { s.placed r with
          ann := { (s.placed r).ann with current := some { a with cut := some .preempted } }, rep := (s.placed r).rep.counted .annDrop 1 }
      else
        State.startFrom
          { s.placed r with
            ann := { (s.placed r).ann with current := none, fifo := [], level := 128 }, rep := (s.placed r).rep.counted .annDrop 1 }
          c (placeRequest s.ann.queue r).1 := by
  have hbusy : (s.placed r).ann.current = some a := hcurrent
  have hrank : (s.placed r).outranked = true := (State.outranked_iff _ a hbusy).mpr hout
  rw [State.takeRequest_eq, if_pos (by rw [hin, hrank]; rfl)]
  unfold State.cut
  rw [hbusy]
  dsimp only
  rw [hcut]
  dsimp only
  split
  next => exact State.startNext_busy _ nofun
  next =>
    unfold State.endAnnouncement
    generalize hu : State.modAnn (State.modAnn _ _) _ = u
    have hstart : u.startNext = u.startFrom c u.ann.queue := State.startNext_free u c (by rw [← hu]; exact hcfg) (by rw [← hu]; rfl)
    rw [hstart, State.startNext_startFrom u c (by rw [← hu]; exact hcfg), ← hu]
    rfl

/-! ### PLAY (R146) -/

/-- A PLAY is never the same as a request of the queue. -/
theorem not_heldIn_play (q : List AnnReq) (clips : List Nat) : ¬ heldIn q { kind := .play, who := none, clips := clips } := by
  rintro ⟨x, -, hsame⟩
  obtain ⟨-, hsome, hwho⟩ := (x.same_iff _).mp hsame
  rw [hwho] at hsome
  exact Bool.noConfusion hsome

theorem exec_play (c : Settings) (hcfg : s.cfg = some c) (args : List Word) (hready : s.rep.command = .ready .play args)
    (clips : List Nat) (hclips : playClips args = some clips) : exec .play s = .next (s.takePlay c clips) := by
  change execPlay s = _
  unfold execPlay
  rw [hcfg, s.commandArgs_ready .play args hready]
  dsimp only
  rw [hclips]

theorem exec_play_malformed (c : Settings) (hcfg : s.cfg = some c) (args : List Word) (hready : s.rep.command = .ready .play args)
    (hclips : playClips args = none) : exec .play s = .next (s.commandRefused c Code.badField) := by
  change execPlay s = _
  unfold execPlay
  rw [hcfg, s.commandArgs_ready .play args hready]
  dsimp only
  rw [hclips]

theorem playClips_none (args : List Word)
    (h : (args.getD 0 0).toNat = 0 ∨ 8 < (args.getD 0 0).toNat ∨
      ∃ k, k < (args.getD 0 0).toNat ∧ 127 < (wordChars args.tail (args.getD 0 0).toNat).getD k 0) : playClips args = none := by
  refine if_neg ?_
  rintro ⟨hsome, hfew, hall⟩
  rcases h with hzero | hmany | ⟨k, -, hbig⟩
  · omega
  · omega
  · have hk : k < (wordChars args.tail (args.getD 0 0).toNat).length := by
      refine lt_length_of_getD_ne (d := 0) fun hzero => ?_
      rw [hzero] at hbig
      exact absurd hbig (by omega)
    rw [List.getD_eq_getElem?_getD, List.getElem?_eq_getElem hk, Option.getD_some] at hbig
    have hsmall := of_decide_eq_true (List.all_eq_true.mp hall _ (List.getElem_mem hk))
    omega

/-- A request that enters the queue is answered DONE, one that R147 drops QUEUE_FULL (R146). -/
theorem State.takePlay_eq (c : Settings) (clips : List Nat) (t : State)
    (ht : s.takeRequest { kind := .play, who := none, clips := clips } = t) :
    s.takePlay c clips = { t with
      rep := if (placeRequest s.ann.queue { kind := .play, who := none, clips := clips }).2.1 = true then t.rep.answered c Code.done 0
        else t.rep.answered c Code.refused Code.queueFull } := by
  unfold State.takePlay
  dsimp only
  rw [ht]
  split
  · rfl
  · rfl

/-- A request that enters the queue is answered DONE (R146). -/
theorem State.takePlay_entered (c : Settings) (clips : List Nat) (q : List AnnReq) (n : Nat)
    (hplace : placeRequest s.ann.queue { kind := .play, who := none, clips := clips } = (q, true, n)) (t : State)
    (ht : s.takeRequest { kind := .play, who := none, clips := clips } = t) :
    s.takePlay c clips = { t with rep := t.rep.answered c Code.done 0 } := by
  rw [s.takePlay_eq c clips t ht, hplace]
  rfl

theorem State.placed_eq (r : AnnReq) (q : List AnnReq) (b : Bool) (n : Nat) (hplace : placeRequest s.ann.queue r = (q, b, n)) :
    s.placed r = { s with ann := { s.ann with queue := q }, rep := s.rep.counted .annDrop n } := by
  unfold State.placed
  rw [hplace]

/-- A PLAY handed to an idle announcer starts the queue (R146, R148). -/
theorem State.takePlay_starts (c : Settings) (hcfg : s.cfg = some c) (clips : List Nat) (hfree : s.ann.current = none)
    (q : List AnnReq) (n : Nat) (hplace : placeRequest s.ann.queue { kind := .play, who := none, clips := clips } = (q, true, n)) :
    s.takePlay c clips = { s with
      ann := (State.startFrom { s with ann := { s.ann with queue := q } } c q).ann
      rep := (s.rep.counted .annDrop n).answered c Code.done 0 } := by
  have hstart : State.startFrom { s with ann := { s.ann with queue := q }, rep := s.rep.counted .annDrop n } c q =
      { State.startFrom { s with ann := { s.ann with queue := q } } c q with rep := s.rep.counted .annDrop n } :=
    State.startFrom_with_rep { s with ann := { s.ann with queue := q } } c _ q
  rw [s.takePlay_entered c clips q n hplace _ (s.takeRequest_starts c hcfg _ hfree), s.placed_eq _ q true n hplace, hplace, hstart,
    State.startFrom_ann]

/-- A PLAY with an announcement current that is not to be cut only takes its place (R146). -/
theorem State.takePlay_waits (c : Settings) (clips : List Nat) (a : Announcement) (hcurrent : s.ann.current = some a)
    (q : List AnnReq) (n : Nat) (hplace : placeRequest s.ann.queue { kind := .play, who := none, clips := clips } = (q, true, n))
    (h : a.cut ≠ none ∨ ∀ x ∈ q, x.kind.priority ≤ a.kind.priority) :
    s.takePlay c clips = { s with
      rep := (s.rep.counted .annDrop n).answered c Code.done 0, ann := { s.ann with queue := q } } := by
  have hwaits := s.takeRequest_waits { kind := .play, who := none, clips := clips } a hcurrent (by rw [hplace]; exact h.imp id .inr)
  rw [s.takePlay_entered c clips q n hplace _ hwaits, s.placed_eq _ q true n hplace]

/-- A PLAY that outranks the current announcement, or stands behind one that does, has it counted and cut (R146, R151). -/
theorem State.takePlay_cuts (c : Settings) (hcfg : s.cfg = some c) (clips : List Nat) (a : Announcement)
    (hcurrent : s.ann.current = some a) (hcut : a.cut = none) (q : List AnnReq) (n : Nat)
    (hplace : placeRequest s.ann.queue { kind := .play, who := none, clips := clips } = (q, true, n))
    (hout : ∃ x ∈ q, a.kind.priority < x.kind.priority) :
    s.takePlay c clips =
      if a.playing = true then
        { s with
          rep := ((s.rep.counted .annDrop n).counted .annDrop 1).answered c Code.done 0
          ann := { s.ann with queue := q, current := some { a with cut := some .preempted } } }
      else
        { s with
          rep := ((s.rep.counted .annDrop n).counted .annDrop 1).answered c Code.done 0
          ann := (State.startFrom
            { s with ann := { s.ann with queue := q, current := none, fifo := [], level := 128 } } c q).ann } := by
  have hcuts := s.takeRequest_cuts c hcfg { kind := .play, who := none, clips := clips } a hcurrent hcut (by rw [hplace])
    (by rw [hplace]; exact hout)
  have hstart := State.startFrom_with_rep { s with ann := { s.ann with queue := q, current := none, fifo := [], level := 128 } } c
    ((s.rep.counted .annDrop n).counted .annDrop 1) q
  rw [s.takePlay_entered c clips q n hplace _ hcuts, s.placed_eq _ q true n hplace, hplace]
  split
  · rfl
  · dsimp only at hstart ⊢
    rw [hstart, State.startFrom_ann]

/-- A lone PLAY starts with the first of its clips that has an entry, or ends at once without one (R143, R148). -/
theorem State.startFrom_play (c : Settings) (clips : List Nat) :
    s.startFrom c [{ kind := .play, who := none, clips := clips }] =
      { s with ann := { s.ann with
          queue := [], current := (startOf c { kind := .play, who := none, clips := clips } clips).or s.ann.current } } := by
  unfold State.startFrom
  rw [show s.resolve c { kind := .play, who := none, clips := clips } = clips from rfl]
  cases startOf c { kind := .play, who := none, clips := clips } clips <;> rfl

theorem startOf_none (c : Settings) (r : AnnReq) (clips : List Nat) (h : ∀ k ∈ clips, c.clips ≤ k) : startOf c r clips = none := by
  have hdrop : clips.dropWhile (fun n => decide (c.clips ≤ n)) = [] :=
    (dropWhile_nil_iff _ clips).mpr fun k hk => decide_eq_true (h k hk)
  unfold startOf
  rw [hdrop]

theorem startOf_some (c : Settings) (r : AnnReq) (clips : List Nat) (h : ∃ k ∈ clips, k < c.clips) :
    ∃ a, startOf c r clips = some a ∧ a.kind = r.kind ∧ a.playing = false ∧ a.clips = clips := by
  obtain ⟨k, hk, hlt⟩ := h
  have hdrop : clips.dropWhile (fun n => decide (c.clips ≤ n)) ≠ [] := fun hnil =>
    absurd (of_decide_eq_true ((dropWhile_nil_iff _ clips).mp hnil k hk)) (Nat.not_le.mpr hlt)
  unfold startOf
  split
  next hnil => exact absurd hnil hdrop
  next => exact ⟨_, rfl, rfl, rfl, rfl⟩

theorem State.startFrom_play_none (c : Settings) (clips : List Nat) (hfree : s.ann.current = none) (h : ∀ k ∈ clips, c.clips ≤ k) :
    (s.startFrom c [{ kind := .play, who := none, clips := clips }]).ann.current = none ∧
      (s.startFrom c [{ kind := .play, who := none, clips := clips }]).ann.queue = [] := by
  rw [State.startFrom_play, startOf_none c _ clips h, hfree]
  exact ⟨rfl, rfl⟩

theorem State.startFrom_play_some (c : Settings) (clips : List Nat) (h : ∃ k ∈ clips, k < c.clips) :
    ∃ a, (s.startFrom c [{ kind := .play, who := none, clips := clips }]).ann.current = some a ∧ a.kind = .play ∧
      a.playing = false ∧ a.clips = clips ∧ (s.startFrom c [{ kind := .play, who := none, clips := clips }]).ann.queue = [] := by
  obtain ⟨a, ha, hkind, hplaying, hclips⟩ := startOf_some c { kind := .play, who := none, clips := clips } clips h
  rw [State.startFrom_play, ha]
  exact ⟨a, rfl, hkind, hplaying, hclips, rfl⟩

/-! ### The local notice (R121) -/

theorem hiByte_toNat (w : Word) : (hiByte w).toNat = w.toNat / 256 := by
  have := w.isLt
  rw [hiByte, BitVec.extractLsb'_toNat, Nat.shiftRight_eq_div_pow]
  omega

theorem loByte_toNat (w : Word) : (loByte w).toNat = w.toNat % 256 := by
  rw [loByte, BitVec.extractLsb'_toNat]
  rfl

/-- Characters are read high byte first (R200). -/
theorem wordChars_eq (ws : List Word) (n : Nat) : wordChars ws n = (ws.flatMap fun w => [w.toNat / 256, w.toNat % 256]).take n := by
  unfold wordChars wordBytes
  rw [List.map_take, List.map_flatMap]
  simp only [List.map_cons, List.map_nil, hiByte_toNat, loByte_toNat]

theorem ceilDiv_two (n : Nat) : ceilDiv n 2 = (n + 1) / 2 := rfl

/-- Another local notice marks row 4 of both screens. -/
theorem State.setOwnNotice_eq (n : Option Notice) :
    s.setOwnNotice n = { s with board := if s.board.ownNotice = n then s.board else s.noticesMarked { s.board with ownNotice := n } } := by
  unfold State.setOwnNotice
  split
  · rfl
  · rw [State.markNotices_eq]
    rfl

theorem State.takeNoticeWord_more (c : Settings) (f : NoticeFetch) (w : Word) (h : (f.got ++ [w]).length < (f.len + 1) / 2) :
    s.takeNoticeWord c f w = { s with board := { s.board with noticeFetch := some { f with got := f.got ++ [w] } } } :=
  if_pos h

/-- The last word of the text replaces the local notice, and answers DONE. -/
theorem State.takeNoticeWord_last (c : Settings) (f : NoticeFetch) (w : Word) (h : (f.len + 1) / 2 ≤ (f.got ++ [w]).length)
    (note : Notice) (hnote : note = ⟨wordChars (f.got ++ [w]) f.len, s.clk.upSec + f.duration⟩) :
    s.takeNoticeWord c f w = { s with
      board := if s.board.ownNotice = some note then { s.board with noticeFetch := none, ownNotice := some note }
        else s.noticesMarked { s.board with noticeFetch := none, ownNotice := some note }
      rep := s.rep.answered c Code.done 0 } := by
  have hlast : s.takeNoticeWord c f w =
      ((s.modBoard fun b => { b with noticeFetch := none }).setOwnNotice (some note)).commandDone c 0 := by
    rw [hnote]
    exact if_neg (Nat.not_lt.mpr h)
  have hown : (s.modBoard fun b => { b with noticeFetch := none }).board.ownNotice = s.board.ownNotice := rfl
  rw [hlast, State.setOwnNotice_eq, hown]
  split
  next hsame =>
    rw [← hsame]
    rfl
  next => rfl

theorem State.noticeWants_first (f : NoticeFetch) (x : Access) (hfirst : s.noticeFirst = true) (hfetch : s.board.noticeFetch = some f)
    (hwants : s.wants .composer = some x) : x = .read (f.addr + f.got.length) := by
  change s.composerWants = some x at hwants
  unfold State.composerWants at hwants
  rw [if_pos hfirst, State.noticeWants, hfetch] at hwants
  exact (Option.some.inj hwants).symm

/-- In the notice's turn a part cycle brings one word of its text. -/
theorem exec_partCycle_notice (c : Settings) (f : NoticeFetch) (x : Access) (hcfg : s.cfg = some c)
    (h : s.takesCycle .composer x) (hfirst : s.noticeFirst = true) (hfetch : s.board.noticeFetch = some f) :
    ∃ n, exec (.partCycle none) s = .next
      (((({ s with free := n } : State).takeNoticeWord c f (s.peek (f.addr + f.got.length))).setHold 0).settleLoad) := by
  have hx := s.noticeWants_first f x hfirst hfetch h.2.2.2.1
  subst hx
  have hserved : ∃ n, s.composerServed (s.peek (f.addr + f.got.length)) =
      ({ s with free := n } : State).takeNoticeWord c f (s.peek (f.addr + f.got.length)) := by
    have hturn : s.composerServed (s.peek (f.addr + f.got.length)) =
        (if s.noticeWants.isSome && s.paintWants.isSome then s.drawn else s).takeNoticeWord c f (s.peek (f.addr + f.got.length)) := by
      unfold State.composerServed
      rw [hfirst, hcfg, hfetch]
    rw [hturn]
    split
    · exact ⟨s.free + 1, rfl⟩
    · exact ⟨s.free, rfl⟩
  obtain ⟨n, hn⟩ := hserved
  refine ⟨n, ?_⟩
  rw [exec_partCycle_turn s .composer _ h, ← hn]
  rfl

theorem exec_localNotice (c : Settings) (hcfg : s.cfg = some c) (args : List Word) (hready : s.rep.command = .ready .localNotice args) :
    exec .localNotice s = .next
      (s.takeLocalNotice c (pairAddr (args.getD 0 0) (args.getD 1 0)) (args.getD 2 0).toNat (args.getD 3 0).toNat) := by
  change execLocalNotice s = _
  unfold execLocalNotice
  rw [hcfg, s.commandArgs_ready .localNotice args hready]

theorem State.takeLocalNotice_eq (c : Settings) (a len duration : Nat) :
    s.takeLocalNotice c a len duration =
      if 64 < len then s.commandRefused c Code.badField
      else if 1048576 < a + (len + 1) / 2 then s.commandRefused c Code.badField
      else if len = 0 ∨ duration = 0 then (s.setOwnNotice none).commandDone c 0
      else (s.modBoard fun b => { b with noticeFetch := some ⟨a, len, duration, []⟩ }).ownCommand .localNotice := rfl

theorem toNat_eq_zero_iff (w : Word) : w.toNat = 0 ↔ w = 0 := by
  rw [← BitVec.toNat_inj]
  rfl

/-- The queue after a PLAY that has a place in it. -/
theorem placeRequest_play (q : List AnnReq) (clips : List Nat)
    (h : q.length < 4 ∨ ∃ l, q.getLast? = some l ∧ l.kind.priority < 2) :
    placeRequest q { kind := .play, who := none, clips := clips } =
      (if q.length < 4 then placedIn q { kind := .play, who := none, clips := clips }
       else placedIn q.dropLast { kind := .play, who := none, clips := clips }, true, if q.length < 4 then 0 else 1) := by
  by_cases hlen : q.length < 4
  · rw [placeRequest_room (not_heldIn_play q clips) hlen, if_pos hlen, if_pos hlen]
  · obtain ⟨l, hlast, hlow⟩ := h.resolve_left hlen
    rw [placeRequest_full (not_heldIn_play q clips) (Nat.not_lt.mp hlen) hlast, if_pos (show l.kind.priority < AnnKind.play.priority from hlow),
      if_neg hlen, if_neg hlen]

/-- Settles O47. -/
theorem playAndLocalNotice : Obligations.PlayAndLocalNotice := by
  refine ⟨fun s c f x hcfg h hfirst hfetch => ?_, fun s c args hcfg => ⟨fun hready => ⟨fun hrange => ?_, fun clips hclips => ?_⟩,
    fun hready => ⟨fun hrange => ?_, fun hlen haddr => ⟨fun hclear => ?_, fun htext hdur => ?_⟩⟩⟩⟩
  · obtain ⟨n, hexec⟩ := exec_partCycle_notice s c f x hcfg h hfirst hfetch
    dsimp only
    rw [hexec]
    refine ⟨s.noticeWants_first f x hfirst hfetch h.2.2.2.1, fun hmore => ⟨n, ?_⟩, fun hlast => ⟨n, ?_⟩⟩
    · rw [State.takeNoticeWord_more _ c f _ hmore]
      rfl
    · rw [State.takeNoticeWord_last _ c f _ hlast _ rfl, wordChars_eq]
      rfl
  · rw [exec_play_malformed s c hcfg args hready (playClips_none args hrange)]
    rfl
  · dsimp only
    rw [exec_play s c hcfg args hready clips hclips]
    refine ⟨fun hroom => ?_, fun hfull hlast hbusy => ?_⟩
    · have hplace := placeRequest_play s.ann.queue clips hroom
      refine ⟨fun hfree => ?_, fun a hcurrent hstays => ?_, fun a hcurrent hcut hout => ⟨fun hplaying => ?_, fun hplaying => ?_⟩⟩
      · refine ⟨_, congrArg Host.Outcome.next (s.takePlay_starts c hcfg clips hfree _ _ hplace), ?_, rfl, rfl, fun hq hnone => ?_,
          fun hq hsome => ?_⟩
        · exact ⟨rfl, rfl, rfl, rfl, rfl, rfl, rfl, rfl, rfl, rfl, rfl, rfl, rfl, rfl, rfl, rfl, rfl, rfl, rfl, rfl, rfl, rfl, rfl⟩
        · rw [hq]
          exact State.startFrom_play_none _ c clips hfree hnone
        · rw [hq]
          exact State.startFrom_play_some _ c clips hsome
      · exact congrArg Host.Outcome.next (s.takePlay_waits c clips a hcurrent _ _ hplace hstays)
      · exact congrArg Host.Outcome.next ((s.takePlay_cuts c hcfg clips a hcurrent hcut _ _ hplace hout).trans (if_pos hplaying))
      · exact congrArg Host.Outcome.next ((s.takePlay_cuts c hcfg clips a hcurrent hcut _ _ hplace hout).trans
          (if_neg (by rw [hplaying]; exact Bool.false_ne_true)))
    · obtain ⟨l, hl⟩ : ∃ l, s.ann.queue.getLast? = some l :=
        Option.isSome_iff_exists.mp (List.getLast?_isSome.mpr fun hnil => by rw [hnil] at hfull; exact absurd hfull (by decide))
      obtain ⟨a, hcurrent⟩ := Option.ne_none_iff_exists'.mp hbusy
      have hplace := (placeRequest_full (not_heldIn_play s.ann.queue clips) hfull hl).trans
        (if_neg (show ¬ l.kind.priority < AnnKind.play.priority from Nat.not_lt.mpr (hlast l hl)))
      have hwaits := s.takeRequest_waits { kind := .play, who := none, clips := clips } a hcurrent
        (by rw [hplace]; exact .inr (.inl rfl))
      rw [s.placed_eq _ _ _ _ hplace] at hwaits
      refine congrArg Host.Outcome.next ((s.takePlay_eq c clips _ hwaits).trans ?_)
      rw [hplace]
      rfl
  · rw [exec_localNotice s c hcfg args hready]
    rw [State.takeLocalNotice_eq]
    by_cases hlong : 64 < (args.getD 2 0).toNat
    · rw [if_pos hlong]
      rfl
    · rw [if_neg hlong, if_pos (hrange.resolve_left hlong)]
      rfl
  · rw [exec_localNotice s c hcfg args hready]
    rw [State.takeLocalNotice_eq, if_neg (Nat.not_lt.mpr hlen), if_neg (Nat.not_lt.mpr haddr),
      if_pos (hclear.imp (toNat_eq_zero_iff _).mpr (toNat_eq_zero_iff _).mpr), State.setOwnNotice_eq]
    rfl
  · rw [exec_localNotice s c hcfg args hready]
    rw [State.takeLocalNotice_eq, if_neg (Nat.not_lt.mpr hlen), if_neg (Nat.not_lt.mpr haddr),
      if_neg (not_or.mpr ⟨htext ∘ (toNat_eq_zero_iff _).mp, hdur ∘ (toNat_eq_zero_iff _).mp⟩)]
    rfl

end Sys2Proof.Machine
end

section
/-! PROOFS. Update images: the checks, the hand-back, removals, and the quotes bound to a departure (R6 to R15, R72). -/

namespace Sys2Proof.Machine

variable (s : State)

/-! ### An image's turn and its hand-back (R6, R7, R163) -/

/-- An image is applied in its turn, and its outcome handed back to its source's job. -/
theorem exec_update (c : Settings) (src : Source) (im : List Word) (k : UpdateKind) (hcfg : s.cfg = some c) (hturn : s.turn src im k) :
    exec (k.command src) s =
      .next ((s.applyImage c src k (readImage im)).1.handBack c src im (s.applyImage c src k (readImage im)).2) := by
  obtain ⟨hkind, hturn⟩ := hturn
  have hexec : exec (k.command src) s = .next (s.applyUpdate k src) := by cases k <;> rfl
  rw [hexec]
  refine congrArg Host.Outcome.next ?_
  cases src with
  | line =>
    obtain ⟨rest, outs, hbuild⟩ := hturn
    have hlink : (s.applyImage c .line k (readImage im)).1.link = s.link := (Inner.applyImage c .line k _ (.refl s)).link
    unfold State.applyUpdate State.applyLine State.handBack
    rw [hcfg, hlink, hbuild]
    exact if_pos hkind
  | loc =>
    unfold State.applyUpdate State.applyLocal
    rw [hcfg, show s.intake.stage = .ready im from hturn]
    exact if_pos hkind

/-- What becomes of an image is all that its application has to say. -/
theorem exec_update_of (c : Settings) (src : Source) (im : List Word) (k : UpdateKind) (hcfg : s.cfg = some c) (hturn : s.turn src im k)
    (t : State) (outcome : Word) (happly : s.applyImage c src k (readImage im) = (t, outcome)) :
    exec (k.command src) s = .next (t.handBack c src im outcome) := by
  rw [exec_update s c src im k hcfg hturn, happly]

/-! ### The checks (R11, R12) -/

theorem noRepeats_iff (l : List Nat) : noRepeats l = true ↔ l.Nodup := by
  induction l with
  | nil => simp [noRepeats]
  | cons x xs ih => simp [noRepeats, ih]

theorem imageFieldsOk_iff (c : Settings) (k : UpdateKind) (im : Image) :
    imageFieldsOk c k im = true ↔
      1 ≤ im.train ∧ im.tag ≤ 3 ∧ (k = .cancel → im.reason ≤ 15) ∧
      (k = .record →
        im.direction ≤ 1 ∧ im.sched ≤ 86399 ∧ im.nCalling ≤ 6 ∧ c.present im.dest = true ∧ im.dest ≠ c.fare.halt ∧
        (∀ x ∈ im.calling, c.present x = true ∧ x ≠ c.fare.halt ∧ x ≠ im.dest) ∧ im.calling.Nodup) := by
  unfold imageFieldsOk
  rw [Bool.and_eq_true, Bool.and_eq_true, decide_eq_true_eq, decide_eq_true_eq, and_assoc]
  refine and_congr_right fun _ => and_congr_right fun _ => ?_
  cases k with
  | record =>
    simp only [Bool.and_eq_true, decide_eq_true_eq, bne_iff_ne, ne_eq, List.all_eq_true, noRepeats_iff, Bool.not_eq_true',
      ← Bool.not_eq_true, List.contains_iff_mem, reduceCtorEq, false_imp_iff, true_and, forall_const, and_assoc]
    refine and_congr_right fun _ => and_congr_right fun _ => and_congr_right fun _ => and_congr_right fun _ => and_congr_right fun _ => ?_
    constructor
    · rintro ⟨hstops, hnodup, hdest⟩
      exact ⟨fun x hx => ⟨(hstops x hx).1, (hstops x hx).2, fun heq => hdest (heq ▸ hx)⟩, hnodup⟩
    · rintro ⟨hstops, hnodup⟩
      exact ⟨fun x hx => ⟨(hstops x hx).1, (hstops x hx).2.1⟩, hnodup, fun hx => (hstops _ hx).2.2 rfl⟩
  | cancel => simp
  | delete => simp
  | reinstate => simp
  | report => simp
  | departed => simp

theorem State.applyImage_badField (c : Settings) (src : Source) (k : UpdateKind) (im : Image) (h : imageFieldsOk c k im = false) :
    s.applyImage c src k im = (s, Code.badField) :=
  if_pos (by rw [h]; exact Bool.false_ne_true)

theorem State.applyImage_wrongDay (c : Settings) (src : Source) (k : UpdateKind) (im : Image) (h : imageFieldsOk c k im = true)
    (hday : relationOf s.bat.day im.tag = .unheld ∨ relationOf s.bat.day im.tag = .previous ∧ s.entry? im.who = none) :
    s.applyImage c src k im = (s, Code.wrongDay) := by
  have hno : ¬ dayOk s.bat im.tag (s.entry? im.who).isSome = true := by
    unfold dayOk
    rcases hday with hunheld | ⟨hprevious, hnone⟩
    · rw [hunheld]
      exact Bool.false_ne_true
    · rw [hprevious, hnone]
      exact Bool.false_ne_true
  exact (if_neg (not_not_intro h)).trans (if_pos hno)

/-- An accepted image has the effect of its kind (R6). -/
theorem State.applyImage_accepted (c : Settings) (src : Source) (k : UpdateKind) (im : Image) (h : s.accepts c k im) :
    s.applyImage c src k im =
      match k with
      | .record => s.applyRecord c src im
      | .delete => s.applyDelete im
      | .cancel => s.applyCancel c im
      | .reinstate => s.applyReinstate c im
      | .report => s.applyReport c im
      | .departed => s.applyDeparted c im := by
  refine (if_neg (not_not_intro h.1)).trans ((if_neg (not_not_intro h.2)).trans ?_)
  cases k <;> rfl

/-! ### Quotes bound to a departure (R72) -/

theorem State.voidSlot_live (c : Settings) (hcfg : s.cfg = some c) (slot : Nat) (why : VoidReason) (q : Quote)
    (hlive : s.issue.records.getD slot .empty = .live q) :
    s.voidSlot slot why = { s with issue := { s.issue with
      records := s.issue.records.set slot (.voided q why)
      accs := s.issue.accs ++ if s.saleIdle slot = true then expiredWrites c.win slot why else [] } } := by
  have hvoid : s.voidSlot slot why =
      if s.saleIdle slot = true then (s.setRecord slot (.voided q why)).issueWrites (expiredWrites c.win slot why)
      else s.setRecord slot (.voided q why) := by
    unfold State.voidSlot IssueUnit.record
    rw [hcfg, hlive]
    rfl
  rw [hvoid]
  split
  · rfl
  · rw [List.append_nil]
    rfl

theorem State.voidSlot_dead (slot : Nat) (why : VoidReason) (hdead : ∀ q, s.issue.records.getD slot .empty ≠ .live q) :
    s.voidSlot slot why = s := by
  unfold State.voidSlot IssueUnit.record
  split
  next q _ hlive => exact absurd hlive (hdead q)
  next => rfl

/-- No live quote of the slot is bound to a departure. -/
def State.unbound (t : State) (who : TrainId) (slot : Nat) : Prop := ∀ q, t.issue.records.getD slot .empty = .live q → q.bound ≠ some who

/-- A void leaves no slot bound that was not. -/
theorem State.unbound_voidSlot (slot : Nat) (why : VoidReason) (who : TrainId) (other : Nat) (h : s.unbound who other) :
    (s.voidSlot slot why).unbound who other := by
  rcases Option.eq_none_or_eq_some s.cfg with hcfg | ⟨c, hcfg⟩
  · have hsame : s.voidSlot slot why = s := by
      unfold State.voidSlot
      rw [hcfg]
    rwa [hsame]
  · by_cases hlive : ∃ q, s.issue.records.getD slot .empty = .live q
    · obtain ⟨q, hq⟩ := hlive
      rw [s.voidSlot_live c hcfg slot why q hq]
      intro q' hq'
      change (s.issue.records.set slot (.voided q why)).getD other .empty = .live q' at hq'
      by_cases hother : other = slot
      · subst hother
        by_cases hlt : other < s.issue.records.length
        · rw [List.getD_eq_getElem?_getD, List.getElem?_set_self hlt, Option.getD_some] at hq'
          exact QuoteRec.noConfusion hq'
        · rw [List.set_eq_of_length_le (Nat.not_lt.mp hlt)] at hq'
          exact h q' hq'
      · rw [List.getD_eq_getElem?_getD, List.getElem?_set_ne (Ne.symm hother), ← List.getD_eq_getElem?_getD] at hq'
        exact h q' hq'
    · rwa [s.voidSlot_dead slot why (not_exists.mp hlive)]

/-- A voided slot is bound to nothing. -/
theorem State.unbound_voidSlot_self (c : Settings) (hcfg : s.cfg = some c) (slot : Nat) (why : VoidReason) (who : TrainId) :
    (s.voidSlot slot why).unbound who slot := by
  by_cases hlive : ∃ q, s.issue.records.getD slot .empty = .live q
  · obtain ⟨q, hq⟩ := hlive
    have hlt : slot < s.issue.records.length := lt_length_of_getD_ne (d := .empty) (by rw [hq]; exact nofun)
    rw [s.voidSlot_live c hcfg slot why q hq]
    intro q' hq'
    change (s.issue.records.set slot (.voided q why)).getD slot .empty = .live q' at hq'
    rw [List.getD_eq_getElem?_getD, List.getElem?_set_self hlt, Option.getD_some] at hq'
    exact QuoteRec.noConfusion hq'
  · rw [s.voidSlot_dead slot why (not_exists.mp hlive)]
    exact fun q hq => absurd ⟨q, hq⟩ hlive

/-- A slot's step of the voiding of a departure's quotes. -/
def State.voidIfBound (t : State) (who : TrainId) (slot : Nat) : State :=
  if t.boundTo slot who then t.voidSlot slot .departureGone else t

theorem State.unbound_voidIfBound (who : TrainId) (slot other : Nat) (h : s.unbound who other) :
    (s.voidIfBound who slot).unbound who other := by
  unfold State.voidIfBound
  split
  · exact s.unbound_voidSlot _ _ _ _ h
  · exact h

theorem State.unbound_voidIfBound_self (c : Settings) (hcfg : s.cfg = some c) (who : TrainId) (slot : Nat) :
    (s.voidIfBound who slot).unbound who slot := by
  unfold State.voidIfBound
  split
  next => exact s.unbound_voidSlot_self c hcfg _ _ _
  next hfree =>
    intro q hq hbound
    refine hfree ?_
    unfold State.boundTo IssueUnit.record
    rw [hq]
    exact beq_iff_eq.mpr hbound

theorem State.voidIfBound_cfg (who : TrainId) (slot : Nat) : (s.voidIfBound who slot).cfg = s.cfg := by
  unfold State.voidIfBound
  split
  · exact (Inner.voidSlot _ _ (.refl s)).cfg
  · rfl

/-- After the voiding of a departure's quotes none is left (R72). -/
theorem State.voidBound_noLiveQuote (c : Settings) (hcfg : s.cfg = some c) (who : TrainId) : (s.voidBound who).noLiveQuote who := by
  have hfold : ∀ (l : List Nat) (t : State), t.cfg = some c → ∀ slot, slot ∈ l ∨ t.unbound who slot →
      (l.foldl (fun s slot => s.voidIfBound who slot) t).unbound who slot := by
    intro l
    induction l with
    | nil => exact fun t _ slot h => h.resolve_left (List.not_mem_nil)
    | cons x xs ih =>
      intro t ht slot h
      refine ih _ ((t.voidIfBound_cfg who x).trans ht) slot ?_
      rcases h with hmem | hfree
      · rcases List.mem_cons.mp hmem with rfl | hmem
        · exact .inr (t.unbound_voidIfBound_self c ht who slot)
        · exact .inl hmem
      · exact .inr (t.unbound_voidIfBound who x slot hfree)
  intro slot q hslot hq
  have hmem : slot ∈ [0, 1, 2, 3] := by
    simp only [List.mem_cons, List.not_mem_nil, or_false]
    omega
  exact hfold [0, 1, 2, 3] s hcfg slot (.inl hmem) q hq

theorem State.noLiveQuote_congr {t : State} {who : TrainId} (h : s.noLiveQuote who) (hissue : t.issue = s.issue) : t.noLiveQuote who := by
  unfold State.noLiveQuote
  rw [hissue]
  exact h

theorem State.syncDue_issue : s.syncDue.issue = s.issue := by
  unfold State.syncDue
  dsimp only
  split
  · exact (Front.floorOn (.refl _)).issue
  · split
    · exact (Front.floorOff (.refl _)).issue
    · rfl

/-- A removal leaves no live quote of the departure (R10, R72). -/
theorem State.removeEntry_noLiveQuote (c : Settings) (hcfg : s.cfg = some c) (who : TrainId) : (s.removeEntry who).noLiveQuote who := by
  refine State.noLiveQuote_congr ((s.setTable (withoutEntry s.table who)).voidBound who) (State.voidBound_noLiveQuote (s.setTable (withoutEntry s.table who)) c hcfg who) ?_
  unfold State.removeEntry
  rw [(Front.markDepartures (.refl _)).issue, State.syncDue_issue, (Front.annRemoved who (.refl _)).issue]

/-! ### DELETE (R15) -/

theorem withoutEntry_eq_filter (l : List Entry) (who : TrainId) : withoutEntry l who = l.filter fun x => !decide (x.who = who) := by
  refine List.filter_congr fun x _ => congrArg Bool.not ?_
  rw [Bool.eq_iff_iff, decide_eq_true_eq]
  exact entry_is_iff x who

/-- Settles O37. -/
theorem updateChecksAndDelete : Obligations.UpdateChecksAndDelete := by
  intro s c src im k hcfg hturn
  refine ⟨fun hfields => ?_, imageFieldsOk_iff c k _, fun hfields hday => ?_, fun slot rest hsrc hfifo => ?_, fun hk haccepts => ?_⟩
  · exact exec_update_of s c src im k hcfg hturn _ _ (s.applyImage_badField c src k _ hfields)
  · exact exec_update_of s c src im k hcfg hturn _ _ (s.applyImage_wrongDay c src k _ hfields hday)
  · unfold State.handBack State.answerIntake
    rw [hfifo]
    rfl
  · subst hk
    have happly := s.applyImage_accepted c src .delete (readImage im) haccepts
    refine ⟨fun hnone => ?_, fun e he => ⟨(s.removeEntry e.who).recomputeList, ?_, ?_, ?_, ?_⟩⟩
    · refine exec_update_of s c src im .delete hcfg hturn _ _ (happly.trans ?_)
      dsimp only
      rw [State.applyDelete, hnone]
    · refine exec_update_of s c src im .delete hcfg hturn _ _ (happly.trans ?_)
      dsimp only
      rw [State.applyDelete, he]
    · exact .recomputeList (.removeEntry _ (.refl s))
    · rw [(Front.recomputeList (.refl _)).table, State.removeEntry_table, withoutEntry_eq_filter]
    · exact State.noLiveQuote_congr _ (s.removeEntry_noLiveQuote c hcfg e.who) (Front.recomputeList (.refl _)).issue

end Sys2Proof.Machine
end

section
/-! PROOFS. The effects of RECORD, CANCEL, REINSTATE, DEPARTED and REPORT (R13 to R20, R41 to R58). -/

namespace Sys2Proof.Machine

variable (s : State)

/-! ### The entry an identity names -/

theorem find?_eq_some_of_unique {α : Type} (p : α → Bool) (l : List α) (x : α) (hx : x ∈ l) (hp : p x = true)
    (huniq : ∀ y ∈ l, p y = true → y = x) : l.find? p = some x := by
  cases hfound : l.find? p with
  | none => exact absurd hp (List.find?_eq_none.mp hfound x hx)
  | some y => rw [huniq y (List.mem_of_find?_eq_some hfound) (List.find?_some hfound)]

theorem State.entry?_eq_some_of_unique (n : Entry) (hn : n ∈ s.table) (huniq : ∀ x ∈ s.table, x.who = n.who → x = n) :
    s.entry? n.who = some n :=
  find?_eq_some_of_unique _ s.table n hn ((entry_is_iff n n.who).mpr rfl) fun x hx hp => huniq x hx ((entry_is_iff x n.who).mp hp)

theorem State.entry?_eq_none (who : TrainId) (h : ∀ x ∈ s.table, x.who ≠ who) : s.entry? who = none :=
  List.find?_eq_none.mpr fun x hx hp => h x hx ((entry_is_iff x who).mp hp)

/-! ### An entry put in place (R4) -/

theorem Entry.replacedBy_eq (old new x : Entry) : old.replacedBy new x = if x.who = old.who then new else x := by
  have hiff : (x.train = old.train ∧ x.tag = old.tag) ↔ x.who = old.who := by
    unfold Entry.who
    rw [TrainId.mk.injEq]
  unfold Entry.replacedBy
  simp only [hiff]

/-- A changed entry stands in the table beside those of other identities, and none of its own is left. -/
theorem mem_replaceEntry (b : Battery) (l : List Entry) (old new : Entry) (hold : old ∈ l) (x : Entry) :
    x ∈ replaceEntry b l old new ↔ x = new ∨ x ∈ l ∧ x.who ≠ old.who := by
  by_cases hexp : old.exp = new.exp
  · rw [replaceEntry_same b l old new hexp, List.mem_map]
    constructor
    · rintro ⟨y, hy, rfl⟩
      rw [Entry.replacedBy_eq]
      split
      · exact .inl rfl
      next hne => exact .inr ⟨hy, hne⟩
    · rintro (rfl | ⟨hx, hne⟩)
      · exact ⟨old, hold, by rw [Entry.replacedBy_eq, if_pos rfl]⟩
      · exact ⟨x, hx, by rw [Entry.replacedBy_eq, if_neg hne]⟩
  · rw [replaceEntry_moved b l old new hexp, listEntry, mem_insertBy, mem_withoutEntry]

/-- An evaluated entry is the one its identity names. -/
theorem State.evalEntry_entry? (c : Settings) (old cur : Entry) (after : EvalAfter) (stepped : Bool) (hold : old ∈ s.table)
    (hwho : cur.who = old.who) :
    (s.evalEntry c old cur after stepped).entry? old.who = some (cur.evaluated s.bat c.proj s.nowSec old after stepped) := by
  have hnew : (cur.evaluated s.bat c.proj s.nowSec old after stepped).who = old.who := (cur.evaluated_who ..).trans hwho
  rw [← hnew]
  refine State.entry?_eq_some_of_unique _ _ ?_ fun x hx hsame => ?_
  · rw [State.evalEntry_table, mem_replaceEntry _ _ _ _ hold]
    exact .inl rfl
  · rw [State.evalEntry_table, mem_replaceEntry _ _ _ _ hold] at hx
    exact hx.resolve_right fun hother => hother.2 (hsame.trans hnew)

theorem State.entry?_congr {t : State} (htable : t.table = s.table) (who : TrainId) : t.entry? who = s.entry? who := by
  unfold State.entry?
  rw [htable]

/-! ### What an evaluation makes of an entry (R46 to R56) -/

/-- The DELAY request that an evaluation with a projection step makes (R55). -/
def Entry.delays (p : ProjParams) (old new : Entry) (mark : Option Nat) : Prop :=
  new.hm ≠ old.hm ∧ (new.phase = .waiting ∨ new.phase = .due) ∧ new.dueAnn = false ∧ mark.getD 0 + p.step ≤ min new.hm 59

theorem delayDue_iff (p : ProjParams) (old new : Entry) (mark : Option Nat) :
    delayDue p old.hm { new with delayAnn := mark } = true ↔ Entry.delays p old new mark := by
  simp [delayDue, Entry.delays, and_assoc]

theorem delayDue_congr (p : ProjParams) (hm : Nat) (e e' : Entry) (hhm : e'.hm = e.hm) (hphase : e'.phase = e.phase)
    (hdue : e'.dueAnn = e.dueAnn) (hmark : e'.delayAnn = e.delayAnn) : delayDue p hm e' = delayDue p hm e := by
  unfold delayDue
  rw [hhm, hphase, hdue, hmark]

/-- An evaluation changes the timeliness, the phase and the marks alone. -/
theorem Entry.evaluated_eq (cur : Entry) (b : Battery) (p : ProjParams) (now : Nat) (old : Entry) (after : EvalAfter) (stepped : Bool)
    (n : Entry) (hn : n = cur.evaluated b p now old after stepped) :
    n = { cur with
      timeliness := cur.classify b p now, phase := n.phase, dueAnn := dueMark old.phase n.phase cur.dueAnn, delayAnn := n.delayAnn } ∧
    n.phase = { cur with timeliness := cur.classify b p now }.phaseAfter b p after ∧
    (stepped = true ∧ Entry.delays p old n cur.delayAnn → n.delayAnn = some (min cur.hm 59)) ∧
    (¬ (stepped = true ∧ Entry.delays p old n cur.delayAnn) → n.delayAnn = cur.delayAnn) := by
  have hdelay : ∀ m : Entry, delayDue p old.hm { m with delayAnn := cur.delayAnn } = true ↔ Entry.delays p old m cur.delayAnn :=
    fun m => delayDue_iff p old m cur.delayAnn
  unfold Entry.evaluated at hn
  dsimp only at hn
  split at hn
  next hdue =>
    obtain ⟨hstepped, hdue⟩ := Bool.and_eq_true_iff.mp hdue
    subst hn
    exact ⟨rfl, rfl, fun _ => rfl, fun hnot => absurd ⟨hstepped, (hdelay _).mp hdue⟩ hnot⟩
  next hdue =>
    subst hn
    refine ⟨rfl, rfl, fun hyes => absurd ?_ hdue, fun _ => rfl⟩
    rw [hyes.1]
    exact (hdelay _).mpr hyes.2

theorem dueMark_of_not_enters (old new : Phase) (mark : Bool) (h : new = .cancelled → old = .cancelled) :
    dueMark old new mark = if new = .due ∧ old ≠ .due then true else if new = .waiting ∧ old = .due then false else mark := by
  unfold dueMark
  split
  · rfl
  · split
    · rfl
    · exact if_neg fun hc => hc.2 (h hc.1)

/-- The phase tests of an evaluation (R48, R50, R51). -/
theorem Entry.phaseAfter_live (e : Entry) (b : Battery) (p : ProjParams) (after : EvalAfter) (h : e.phase = .waiting ∨ e.phase = .due) :
    e.phaseAfter b p after =
      if b.clock = .unset then .waiting
      else if after ≠ .reinstate ∧ e.timeliness ≠ .stale ∧ (e.exp : Int) + p.grace ≤ e.now b then .departed
      else if (e.exp : Int) - p.window ≤ e.now b then .due
      else if after = .report then .waiting
      else e.phase := by
  unfold Entry.phaseAfter
  rcases h with h | h
  all_goals
    rw [h]

theorem Entry.phaseAfter_ended (e : Entry) (b : Battery) (p : ProjParams) (after : EvalAfter)
    (h : e.phase = .departed ∨ e.phase = .cancelled) : e.phaseAfter b p after = e.phase := by
  unfold Entry.phaseAfter
  rcases h with h | h
  all_goals
    rw [h]

/-- A live entry is never evaluated to be CANCELLED, and a CANCELLED one stays so. -/
theorem Entry.phaseAfter_cancelled_iff (e : Entry) (b : Battery) (p : ProjParams) (after : EvalAfter) :
    e.phaseAfter b p after = .cancelled ↔ e.phase = .cancelled := by
  cases hphase : e.phase
  case departed => rw [Entry.phaseAfter_ended e b p after (.inl hphase), hphase]
  case cancelled => rw [Entry.phaseAfter_ended e b p after (.inr hphase), hphase]
  case waiting =>
    rw [Entry.phaseAfter_live e b p after (.inl hphase), hphase]
    simp only [reduceCtorEq, iff_false]
    repeat' split
    all_goals exact nofun
  case due =>
    rw [Entry.phaseAfter_live e b p after (.inr hphase), hphase]
    simp only [reduceCtorEq, iff_false]
    repeat' split
    all_goals exact nofun

/-! ### What an evaluation hands on (R54 to R58) -/

/-- An entry that departs or is cancelled loses its quotes (R56, R72). -/
theorem State.phaseEvents_noLiveQuote (c : Settings) (hcfg : s.cfg = some c) (old : Phase) (mark : Bool) (n : Entry)
    (hphase : old ≠ n.phase) (hended : n.phase = .departed ∨ n.phase = .cancelled) : (s.phaseEvents old mark n).noLiveQuote n.who := by
  have hvoid := s.voidBound_noLiveQuote c hcfg n.who
  unfold State.phaseEvents
  rw [if_neg hphase]
  generalize s.voidBound n.who = v at hvoid
  rcases hended with hdeparted | hcancelled
  · rw [hdeparted]
    exact State.noLiveQuote_congr v hvoid rfl
  · rw [hcancelled]
    have hdrawn : v.drawn.noLiveQuote n.who := hvoid
    generalize v.drawn = w at hdrawn
    dsimp only
    split
    · exact State.noLiveQuote_congr w hdrawn (Front.annCancelled _ (.handRequest _ _ (.refl w))).issue
    · exact State.noLiveQuote_congr w hdrawn (Front.handRequest _ _ (.annCancelled _ (.refl w))).issue

/-- After the phase events an evaluation makes a DELAY request and marks rows, and no more (R55, R58). -/
theorem State.evalEntry_front (c : Settings) (old cur : Entry) (after : EvalAfter) (stepped : Bool) (n : Entry)
    (hn : n = cur.evaluated s.bat c.proj s.nowSec old after stepped) :
    Front ((s.setTable (replaceEntry s.bat s.table old n)).syncDue.phaseEvents old.phase cur.dueAnn n)
      (s.evalEntry c old cur after stepped) := by
  unfold State.evalEntry
  dsimp only
  rw [← hn]
  generalize (s.setTable (replaceEntry s.bat s.table old n)).syncDue.phaseEvents old.phase cur.dueAnn n = v
  have hdelay : ∀ p : Prop, ∀ [Decidable p], Front v (if p then v.handRequest .delay n.who else v) := by
    intro p _
    split
    · exact .handRequest _ _ (.refl v)
    · exact .refl v
  split
  · exact .markDepartures (hdelay _)
  · exact hdelay _

theorem State.evalEntry_noLiveQuote (c : Settings) (hcfg : s.cfg = some c) (old cur : Entry) (after : EvalAfter) (stepped : Bool)
    (n : Entry) (hn : n = cur.evaluated s.bat c.proj s.nowSec old after stepped) (hphase : old.phase ≠ n.phase)
    (hended : n.phase = .departed ∨ n.phase = .cancelled) : (s.evalEntry c old cur after stepped).noLiveQuote n.who := by
  have hcfg' : (s.setTable (replaceEntry s.bat s.table old n)).syncDue.cfg = some c :=
    (Inner.syncDue (.setTable _ (.refl s))).cfg.trans hcfg
  exact State.noLiveQuote_congr _ (State.phaseEvents_noLiveQuote _ c hcfg' old.phase cur.dueAnn n hphase hended)
    (s.evalEntry_front c old cur after stepped n hn).issue

/-! ### RECORD (R13, R14, R20) -/

/-- A newcomer evaluated for the first time (R13, R50). -/
theorem newEntry_evaluated (b : Battery) (p : ProjParams) (now : Nat) (src : Source) (im : Image) (n : Entry)
    (hn : n = ((newEntry src im).project false).evaluated b p now (newEntry src im) .plain true) :
    n = { newEntry src im with phase := n.phase, dueAnn := n.dueAnn } ∧
    n.phase = (if b.clock = .unset then .waiting
      else if (im.sched : Int) + p.grace ≤ n.now b then .departed
      else if (im.sched : Int) - p.window ≤ n.now b then .due else .waiting) ∧
    (n.dueAnn = true ↔ n.phase = .due) := by
  obtain ⟨heq, hphase, -, hnot⟩ := Entry.evaluated_eq _ b p now _ .plain true n hn
  have hstill : n.delayAnn = none := hnot fun h => by
    have hhm : n.hm = 0 := congrArg Entry.hm heq
    exact h.2.1 hhm
  have htests : n.phase = (if b.clock = .unset then .waiting
      else if (im.sched : Int) + p.grace ≤ n.now b then .departed
      else if (im.sched : Int) - p.window ≤ n.now b then .due else .waiting) := by
    have hnow : n.now b = ((newEntry src im).project false).now b := by rw [heq]; rfl
    rw [hnow, hphase, Entry.phaseAfter_live _ b p .plain (.inl rfl)]
    refine ite_congr_iff Iff.rfl rfl (ite_congr_iff ?_ rfl (ite_congr_iff Iff.rfl rfl rfl))
    exact ⟨fun h => h.2.2, fun h => ⟨by decide, (show Timeliness.noReport ≠ Timeliness.stale by decide), h⟩⟩
  have hmark : n.dueAnn = dueMark .waiting n.phase false := congrArg Entry.dueAnn heq
  refine ⟨?_, htests, ?_⟩
  · rw [hstill] at heq
    refine heq.trans ?_
    rw [hmark]
    rfl
  · rw [hmark]
    unfold dueMark
    cases n.phase <;> simp

/-- A newcomer enters the table beside the entries it holds (R13). -/
theorem State.addEntry_spec (c : Settings) (e n : Entry) (hnone : ∀ x ∈ s.table, x.who ≠ e.who)
    (hn : n = (e.project false).evaluated s.bat c.proj s.nowSec e .plain true) :
    Inner s (s.addEntry c e) ∧ (∀ x, x ∈ (s.addEntry c e).table ↔ x = n ∨ x ∈ s.table) ∧ (s.addEntry c e).entry? e.who = some n ∧
      (s.addEntry c e).rep.flags = s.rep.flags ∧ (e.exp = n.exp → (s.addEntry c e).table.length = s.table.length + 1) := by
  have hu : (s.setTable (listEntry s.bat s.table e)).markDepartures.bat = s.bat := (Front.markDepartures (.refl _)).bat
  have hnow : (s.setTable (listEntry s.bat s.table e)).markDepartures.nowSec = s.nowSec :=
    congrArg HaltClock.upSec (Front.markDepartures (.refl (s.setTable (listEntry s.bat s.table e)))).clk
  have htable : (s.setTable (listEntry s.bat s.table e)).markDepartures.table = listEntry s.bat s.table e :=
    (Front.markDepartures (.refl _)).table
  have hmem : ∀ x, x ∈ listEntry s.bat s.table e ↔ x = e ∨ x ∈ s.table := fun x => mem_insertBy _ _ _ _
  have hself : e ∈ (s.setTable (listEntry s.bat s.table e)).markDepartures.table := by
    rw [htable]
    exact (hmem e).mpr (.inl rfl)
  have hnewTable : (s.addEntry c e).table = replaceEntry s.bat (listEntry s.bat s.table e) e n := by
    unfold State.addEntry
    dsimp only
    rw [(Front.recomputeList (.refl _)).table, State.evalEntry_table, hu, hnow, htable, hn]
  refine ⟨.recomputeList (.evalEntry _ _ _ _ _ (.markDepartures (.setTable _ (.refl s)))), fun x => ?_, ?_, ?_, fun hexp => ?_⟩
  · rw [hnewTable, mem_replaceEntry _ _ _ _ ((hmem e).mpr (.inl rfl)), hmem]
    constructor
    · rintro (rfl | ⟨rfl | hx, hne⟩)
      · exact .inl rfl
      · exact absurd rfl hne
      · exact .inr hx
    · rintro (rfl | hx)
      · exact .inl rfl
      · exact .inr ⟨.inr hx, hnone x hx⟩
  · unfold State.addEntry
    dsimp only
    rw [State.entry?_congr _ (Front.recomputeList (.refl _)).table, State.evalEntry_entry? _ c e (e.project false) .plain true hself rfl,
      hu, hnow, hn]
  · unfold State.addEntry
    dsimp only
    rw [State.recomputeList_rep, State.evalEntry_flags, State.markDepartures_rep]
    rfl
  · rw [hnewTable, replaceEntry_same _ _ _ _ hexp, List.length_map, listEntry, length_insertBy]

/-- An entry evaluated in its own place is the one its identity names, and the others stand (R4, R41). -/
theorem State.evalEntry_spec (c : Settings) (old cur : Entry) (after : EvalAfter) (stepped : Bool) (hold : old ∈ s.table)
    (hwho : cur.who = old.who) (t : State) (htable : t.table = (s.evalEntry c old cur after stepped).table) (n : Entry)
    (hn : n = cur.evaluated s.bat c.proj s.nowSec old after stepped) :
    t.entry? old.who = some n ∧ (∀ x ∈ t.table, x.who = n.who ∨ x ∈ s.table) ∧ (∀ x ∈ s.table, x.who ≠ n.who → x ∈ t.table) := by
  have hnwho : n.who = old.who := hn ▸ (cur.evaluated_who ..).trans hwho
  have hmem : ∀ x, x ∈ t.table ↔ x = n ∨ x ∈ s.table ∧ x.who ≠ old.who := fun x => by
    rw [htable, State.evalEntry_table, mem_replaceEntry _ _ _ _ hold, hn]
  refine ⟨?_, fun x hx => ?_, fun x hx hne => ?_⟩
  · rw [State.entry?_congr _ htable, State.evalEntry_entry? s c old cur after stepped hold hwho, hn]
  · exact ((hmem x).mp hx).imp (congrArg Entry.who) And.left
  · exact (hmem x).mpr (.inr ⟨hx, hnwho ▸ hne⟩)

/-- A RECORD with a later version replaces the timetable facts, and nothing else of the entry but what its evaluation brings (R14). -/
theorem replaceFacts_evaluated (b : Battery) (p : ProjParams) (now : Nat) (src : Source) (im : Image) (e n : Entry)
    (hn : n = ((replaceFacts e src im).project false).evaluated b p now e .plain true) :
    n.train = e.train ∧ n.tag = e.tag ∧ n.dir = directionOf im.direction ∧ n.sched = im.sched ∧ n.dest = im.dest ∧
    n.calling = im.calling ∧ n.recovery = im.recovery ∧ n.noSale = im.noSale ∧ n.version = im.version ∧ n.source = src ∧
    n.report = e.report ∧ n.cancel = e.cancel ∧ n.exp = n.sched + 60 * n.hm := by
  obtain ⟨heq, -, -, -⟩ := Entry.evaluated_eq _ b p now e .plain true n hn
  rw [heq]
  exact ⟨rfl, rfl, rfl, rfl, rfl, rfl, rfl, rfl, rfl, rfl, rfl, rfl, rfl⟩

theorem State.applyRecord_unknown (c : Settings) (src : Source) (im : Image) (hnone : s.entry? im.who = none) :
    s.applyRecord c src im =
      match s.makeRoom (relationOf s.bat.day im.tag) im.sched with
      | none => (s, Code.tableFull)
      | some u => (u.addEntry c (newEntry src im), Code.added) := by
  unfold State.applyRecord
  rw [hnone] <;> rfl

theorem State.makeRoom_free (rel : Relation) (sched : Nat) (h : s.table.length < 48) : s.makeRoom rel sched = some s := if_pos h

theorem State.makeRoom_full (rel : Relation) (sched : Nat) (h : 48 ≤ s.table.length) :
    s.makeRoom rel sched = (evictee s.bat s.table rel sched).map fun e => (s.removeEntry e.who).countLost 1 :=
  if_neg (Nat.not_lt.mpr h)

theorem State.applyRecord_known (c : Settings) (src : Source) (im : Image) (e : Entry) (he : s.entry? im.who = some e) :
    s.applyRecord c src im = s.recordOver c src im e := by
  unfold State.applyRecord
  rw [he]

/-- A RECORD of an identity the table does not hold, with room in the table. -/
theorem State.record_added (c : Settings) (src : Source) (im : Image) (hnone : s.entry? im.who = none) (hroom : s.table.length < 48) :
    ∃ t e, s.applyRecord c src im = (t, Code.added) ∧ Inner s t ∧
      t.table.length = s.table.length + 1 ∧ (∀ x ∈ s.table, x ∈ t.table) ∧ t.entry? im.who = some e ∧
      e = { newEntry src im with phase := e.phase, dueAnn := e.dueAnn } ∧
      e.phase = (if s.bat.clock = .unset then .waiting
        else if (im.sched : Int) + c.proj.grace ≤ e.now s.bat then .departed
        else if (im.sched : Int) - c.proj.window ≤ e.now s.bat then .due else .waiting) ∧
      (e.dueAnn = true ↔ e.phase = .due) := by
  obtain ⟨heq, hphase, hmark⟩ := newEntry_evaluated s.bat c.proj s.nowSec src im _ rfl
  obtain ⟨hinner, hmem, hentry, -, hlen⟩ := s.addEntry_spec c (newEntry src im) _ (entry?_none s im.who hnone) rfl
  refine ⟨_, _, ?_, hinner, hlen (congrArg Entry.exp heq).symm, fun x hx => (hmem x).mpr (.inr hx), hentry, heq, hphase, hmark⟩
  rw [s.applyRecord_unknown c src im hnone, s.makeRoom_free _ _ hroom]

/-- A RECORD of an identity the table does not hold, in the place of the entry given up (R20). -/
theorem State.record_evicts (c : Settings) (src : Source) (im : Image) (hnone : s.entry? im.who = none) (v : Entry)
    (hfull : 48 ≤ s.table.length) (hv : evictee s.bat s.table (relationOf s.bat.day im.tag) im.sched = some v) :
    ∃ t, s.applyRecord c src im = (t, Code.added) ∧ Inner s t ∧ t.entry? v.who = none ∧
      (t.entry? im.who).isSome = true ∧ (∀ x ∈ s.table, x.who ≠ v.who → x ∈ t.table) ∧
      t.rep.flags &&& Flag.tableLost.word = Flag.tableLost.word := by
  have hvwho : v.who ≠ im.who := entry?_none s im.who hnone v (evictee_mem _ _ _ _ v hv)
  have hroomed : ∀ x, x ∈ ((s.removeEntry v.who).countLost 1).table ↔ x ∈ s.table ∧ x.who ≠ v.who := fun x => by
    rw [State.countLost_table, State.removeEntry_table, mem_withoutEntry]
  have hinner : Inner s ((s.removeEntry v.who).countLost 1) := .countLost _ (.removeEntry _ (.refl s))
  have hshows : ((s.removeEntry v.who).countLost 1).Shows .tableLost := State.shows_raise _ _
  have happly : s.applyRecord c src im = (((s.removeEntry v.who).countLost 1).addEntry c (newEntry src im), Code.added) := by
    rw [s.applyRecord_unknown c src im hnone, s.makeRoom_full _ _ hfull, hv]
    rfl
  generalize (s.removeEntry v.who).countLost 1 = u at hroomed hinner hshows happly
  obtain ⟨hadd, hmem, hentry, hflags, -⟩ := u.addEntry_spec c (newEntry src im) _
    (fun x hx => entry?_none s im.who hnone x ((hroomed x).mp hx).1) rfl
  refine ⟨_, happly, hinner.trans hadd, ?_, ?_, fun x hx hne => ?_, hshows.of_flags hflags⟩
  · refine State.entry?_eq_none _ _ fun x hx => ?_
    rcases (hmem x).mp hx with rfl | hx
    · rw [Entry.evaluated_who]
      exact Ne.symm hvwho
    · exact ((hroomed x).mp hx).2
  · exact Option.isSome_iff_exists.mpr ⟨_, hentry⟩
  · exact (hmem x).mpr (.inr ((hroomed x).mpr ⟨hx, hne⟩))

/-- A RECORD with a later version of an entry the table holds (R14). -/
theorem State.record_replaced (c : Settings) (hcfg : s.cfg = some c) (src : Source) (im : Image) (e : Entry)
    (he : s.entry? im.who = some e) (hlow : 1 ≤ (im.version + 256 - e.version) % 256) (hhigh : (im.version + 256 - e.version) % 256 ≤ 127) :
    ∃ t n, s.applyRecord c src im = (t, Code.replaced) ∧ Inner s t ∧
      t.entry? im.who = some n ∧ (∀ x ∈ t.table, x.who = n.who ∨ x ∈ s.table) ∧ (∀ x ∈ s.table, x.who ≠ n.who → x ∈ t.table) ∧
      (n.train = e.train ∧ n.tag = e.tag ∧ n.dir = directionOf im.direction ∧ n.sched = im.sched ∧ n.dest = im.dest ∧
       n.calling = im.calling ∧ n.recovery = im.recovery ∧ n.noSale = im.noSale ∧ n.version = im.version ∧ n.source = src ∧
       n.report = e.report ∧ n.cancel = e.cancel ∧ n.exp = n.sched + 60 * n.hm) ∧
      (im.noSale = true → t.noLiveQuote n.who) := by
  obtain ⟨hmem, hwho⟩ := entry?_some s im.who e he
  have hinner : Inner s (s.evalEntry c e ((replaceFacts e src im).project false) .plain true).markDepartures :=
    .markDepartures (.evalEntry _ _ _ _ _ (.refl s))
  have htable := (Front.markDepartures (.refl (s.evalEntry c e ((replaceFacts e src im).project false) .plain true))).table
  have hspec := fun t ht => s.evalEntry_spec c e ((replaceFacts e src im).project false) .plain true hmem rfl t ht _ rfl
  have hfacts := replaceFacts_evaluated s.bat c.proj s.nowSec src im e _ rfl
  have happly : s.applyRecord c src im =
      (((if im.noSale = true then (s.evalEntry c e ((replaceFacts e src im).project false) .plain true).markDepartures.voidBound im.who
        else (s.evalEntry c e ((replaceFacts e src im).project false) .plain true).markDepartures).recomputeList), Code.replaced) := by
    rw [s.applyRecord_known c src im e he]
    unfold State.recordOver
    dsimp only
    rw [if_neg (by omega), if_pos hhigh]
  generalize (s.evalEntry c e ((replaceFacts e src im).project false) .plain true).markDepartures = u at hinner htable happly
  have hvoid : ∀ v, v = (if im.noSale = true then u.voidBound im.who else u) →
      Inner s v ∧ v.table = u.table ∧ (im.noSale = true → v.noLiveQuote im.who) := by
    rintro v rfl
    split
    next => exact ⟨hinner.voidBound _, (Still.voidBound _ (.refl u)).table, fun _ => u.voidBound_noLiveQuote c (hinner.cfg.trans hcfg) _⟩
    next hsale => exact ⟨hinner, rfl, fun h => absurd h hsale⟩
  obtain ⟨hvinner, hvtable, hquotes⟩ := hvoid _ rfl
  generalize (if im.noSale = true then u.voidBound im.who else u) = v at hvinner hvtable hquotes happly
  obtain ⟨hentry, hfrom, hkeep⟩ := hspec v.recomputeList ((Front.recomputeList (.refl v)).table.trans (hvtable.trans htable))
  refine ⟨v.recomputeList, _, happly, hvinner.recomputeList, hwho ▸ hentry, hfrom, hkeep, hfacts, fun hsale => ?_⟩
  have hnwho : (((replaceFacts e src im).project false).evaluated s.bat c.proj s.nowSec e .plain true).who = im.who :=
    (Entry.evaluated_who ..).trans hwho
  rw [hnwho]
  exact State.noLiveQuote_congr v (hquotes hsale) (Front.recomputeList (.refl v)).issue

/-- Settles O38. -/
theorem recordAddsOrReplaces : Obligations.RecordAddsOrReplaces := by
  intro s c src im hcfg hturn haccepts
  have happly := s.applyImage_accepted c src .record (readImage im) haccepts
  have hexec : ∀ t outcome, s.applyRecord c src (readImage im) = (t, outcome) →
      exec (.record src) s = .next (t.handBack c src im outcome) := fun t outcome h =>
    exec_update_of s c src im .record hcfg hturn t outcome (happly.trans h)
  refine ⟨fun hnone => ⟨fun hroom => ?_, fun hfull hstays => hexec _ _ ?_, fun v hfull hv => ?_⟩,
    fun e he => ⟨fun hsame => hexec _ _ ?_, fun hold => hexec _ _ ?_, fun hlow hhigh => ?_⟩⟩
  · obtain ⟨t, e, happly, hrest⟩ := s.record_added c src (readImage im) hnone hroom
    exact ⟨t, e, hexec _ _ happly, hrest⟩
  · rw [s.applyRecord_unknown c src _ hnone, s.makeRoom_full _ _ hfull, hstays]
    rfl
  · obtain ⟨t, happly, hrest⟩ := s.record_evicts c src (readImage im) hnone v hfull hv
    exact ⟨t, hexec _ _ happly, hrest⟩
  · rw [s.applyRecord_known c src _ e he]
    exact if_pos hsame
  · rw [s.applyRecord_known c src _ e he]
    exact (if_neg (by omega)).trans (if_neg (by omega))
  · obtain ⟨t, n, happly, hrest⟩ := s.record_replaced c hcfg src (readImage im) e he hlow hhigh
    exact ⟨t, n, hexec _ _ happly, hrest⟩

end Sys2Proof.Machine
end

section
/-! PROOFS. CANCEL, REINSTATE, DEPARTED and REPORT, with what they hand the announcer (R16 to R19, R42 to R56). -/

namespace Sys2Proof.Machine

variable (s : State)

/-! ### An updated entry and the announcer (R54 to R58) -/

theorem State.updateEntry_front (c : Settings) (old cur : Entry) (after : EvalAfter) (stepped : Bool) :
    Front (s.evalEntry c old cur after stepped) (s.updateEntry c old cur after stepped) := by
  unfold State.updateEntry
  dsimp only
  split
  · exact .recomputeList (.refl _)
  · exact .refl _

theorem State.updateEntry_alike (c : Settings) (old cur : Entry) (after : EvalAfter) (stepped : Bool) :
    AnnAlike (s.evalEntry c old cur after stepped) (s.updateEntry c old cur after stepped) := by
  unfold State.updateEntry
  dsimp only
  split
  · exact .recomputeList (.refl _)
  · exact .refl _

theorem State.updateEntry_table (c : Settings) (old cur : Entry) (after : EvalAfter) (stepped : Bool) :
    (s.updateEntry c old cur after stepped).table =
      replaceEntry s.bat s.table old (cur.evaluated s.bat c.proj s.nowSec old after stepped) :=
  (s.updateEntry_front c old cur after stepped).table.trans (s.evalEntry_table c old cur after stepped)

/-- An evaluation that leaves E leaves the entry in its place. -/
theorem State.updateEntry_table_map (c : Settings) (old cur : Entry) (after : EvalAfter) (stepped : Bool) (n : Entry)
    (hn : n = cur.evaluated s.bat c.proj s.nowSec old after stepped) (hexp : old.exp = n.exp) :
    (s.updateEntry c old cur after stepped).table = s.table.map fun x => if x.who = old.who then n else x := by
  rw [State.updateEntry_table, ← hn, replaceEntry_same _ _ _ _ hexp]
  exact List.map_congr_left fun x _ => old.replacedBy_eq n x

/-- What the phase events of an evaluation hand the announcer (R51, R54, R56). -/
def Phase.hands (old : Phase) (mark : Bool) (n : Entry) (u : State) : State :=
  if n.phase = old then u
  else
    match n.phase with
    | .due => if mark = true then u else u.handRequest .due n.who
    | .waiting => if old = .due then u.withdrawQueued n.who [.due] else u
    | .departed => u.withdrawQueued n.who [.due, .delay]
    | .cancelled => u

theorem Phase.hands_congr (old : Phase) (mark : Bool) (n : Entry) {u w : State} (h : AnnAlike u w) :
    AnnAlike (old.hands mark n u) (old.hands mark n w) := by
  unfold Phase.hands
  split
  · exact h
  · split
    · split
      · exact h
      · exact h.handRequest _ _
    · split
      · exact h.withdrawQueued _ _
      · exact h
    · exact h.withdrawQueued _ _
    · exact h

/-- From the table as it becomes, an evaluation that cancels nothing hands the announcer what its phase events do, then the DELAY
request (R54 to R56). -/
theorem State.evalEntry_hands (c : Settings) (old cur : Entry) (after : EvalAfter) (stepped : Bool) (n : Entry)
    (hn : n = cur.evaluated s.bat c.proj s.nowSec old after stepped) (hcancel : n.phase = .cancelled → old.phase = .cancelled) :
    (stepped = true ∧ Entry.delays c.proj old n cur.delayAnn →
      AnnAlike ((old.phase.hands cur.dueAnn n (s.setTable (replaceEntry s.bat s.table old n))).handRequest .delay n.who)
        (s.evalEntry c old cur after stepped)) ∧
    (¬ (stepped = true ∧ Entry.delays c.proj old n cur.delayAnn) →
      AnnAlike (old.phase.hands cur.dueAnn n (s.setTable (replaceEntry s.bat s.table old n))) (s.evalEntry c old cur after stepped)) := by
  obtain ⟨v, hv, w, hvw, hsame, hdue, hwaiting, hdeparted, -⟩ := s.evalEntry_announcer c old cur after stepped
  rw [← hn] at hvw hsame hdue hwaiting hdeparted
  have hphased : AnnAlike (old.phase.hands cur.dueAnn n (s.setTable (replaceEntry s.bat s.table old n))) w := by
    unfold Phase.hands
    by_cases hold : n.phase = old.phase
    · rw [if_pos hold]
      exact hsame hold.symm
    · rw [if_neg hold]
      cases hphase : n.phase
      case waiting => exact hwaiting (Ne.symm hold) hphase
      case due => exact hdue (Ne.symm hold) hphase
      case departed => exact hdeparted (Ne.symm hold) hphase
      case cancelled => exact absurd (hphase.trans (hcancel hphase).symm) hold
  have hdelay : (stepped && delayDue c.proj old.hm { n with delayAnn := cur.delayAnn }) = true ↔
      stepped = true ∧ Entry.delays c.proj old n cur.delayAnn := by
    rw [Bool.and_eq_true, delayDue_iff]
  refine ⟨fun h => ?_, fun h => ?_⟩
  · rw [if_pos (hdelay.mpr h)] at hvw
    rw [hvw] at hv
    exact (hphased.handRequest _ _).trans hv
  · rw [if_neg (h ∘ hdelay.mp)] at hvw
    rw [hvw] at hv
    exact hphased.trans hv

/-- The table changed, nothing else that a request meets. -/
theorem State.setTable_alike {t : State} (hinner : Inner s t) : AnnAlike { t with ann := s.ann } (s.setTable t.table) :=
  ⟨rfl, rfl, rfl, hinner.cfg.symm, rfl, hinner.bat.symm, hinner.mem.symm⟩

/-- What a state hands the announcer from the table it has. -/
theorem State.announced_of {t : State} (hinner : Inner s t) (f : State → State)
    (hf : ∀ {v w : State}, AnnAlike v w → AnnAlike (f v) (f w)) (h : AnnAlike (f (s.setTable t.table)) t) : s.announced t f :=
  (s.setTable_alike hinner).announced hf h

theorem Phase.hands_same (old : Phase) (mark : Bool) (n : Entry) (u : State) (h : n.phase = old) : old.hands mark n u = u := if_pos h

/-- What an updated entry that is not newly cancelled hands the announcer, with no DELAY request. -/
theorem State.updateEntry_plain (c : Settings) (old cur : Entry) (after : EvalAfter) (stepped : Bool) (n : Entry)
    (hn : n = cur.evaluated s.bat c.proj s.nowSec old after stepped) (hcancel : n.phase = .cancelled → old.phase = .cancelled)
    (hdelay : ¬ (stepped = true ∧ Entry.delays c.proj old n cur.delayAnn)) (t : State) (ht : t = s.updateEntry c old cur after stepped) :
    AnnAlike (old.phase.hands cur.dueAnn n (s.setTable t.table)) t := by
  have htable : replaceEntry s.bat s.table old n = t.table := by rw [ht, State.updateEntry_table, hn]
  obtain ⟨-, hplain⟩ := s.evalEntry_hands c old cur after stepped n hn hcancel
  rw [← htable, ht]
  exact (hplain hdelay).trans (s.updateEntry_alike c old cur after stepped)

/-- An updated entry that is not newly cancelled hands the announcer its phase events, then its DELAY request. -/
theorem State.updateEntry_hands (c : Settings) (old cur : Entry) (after : EvalAfter) (stepped : Bool) (n : Entry)
    (hn : n = cur.evaluated s.bat c.proj s.nowSec old after stepped) (hcancel : n.phase = .cancelled → old.phase = .cancelled) (t : State)
    (ht : t = s.updateEntry c old cur after stepped) :
    (stepped = true ∧ Entry.delays c.proj old n cur.delayAnn →
      s.announced t fun u => (old.phase.hands cur.dueAnn n u).handRequest .delay n.who) ∧
    (¬ (stepped = true ∧ Entry.delays c.proj old n cur.delayAnn) → s.announced t (old.phase.hands cur.dueAnn n)) := by
  have hinner : Inner s t := ht ▸ .updateEntry c old cur after stepped (.refl s)
  have htable : replaceEntry s.bat s.table old n = t.table := by rw [ht, State.updateEntry_table, hn]
  have halike : AnnAlike (s.evalEntry c old cur after stepped) t := ht ▸ s.updateEntry_alike c old cur after stepped
  refine ⟨fun h => ?_, fun h => ?_⟩
  · obtain ⟨hdelay, -⟩ := s.evalEntry_hands c old cur after stepped n hn hcancel
    rw [htable] at hdelay
    exact s.announced_of hinner _ (fun k => (Phase.hands_congr _ _ _ k).handRequest _ _) ((hdelay h).trans halike)
  · exact s.announced_of hinner _ (Phase.hands_congr _ _ _) (s.updateEntry_plain c old cur after stepped n hn hcancel h t ht)

/-- An entry newly cancelled hands a CANCEL request and withdraws its own, in either order (R56; log 23). -/
theorem State.updateEntry_cancels (c : Settings) (old cur : Entry) (after : EvalAfter) (n : Entry)
    (hn : n = cur.evaluated s.bat c.proj s.nowSec old after false) (hold : old.phase ≠ .cancelled) (hnew : n.phase = .cancelled) (t : State)
    (ht : t = s.updateEntry c old cur after false) :
    s.announced t (fun u => (u.handRequest .cancel n.who).annCancelled n.who) ∨
    s.announced t (fun u => (u.annCancelled n.who).handRequest .cancel n.who) := by
  have hinner : Inner s t := ht ▸ .updateEntry c old cur after false (.refl s)
  have htable : replaceEntry s.bat s.table old n = t.table := by rw [ht, State.updateEntry_table, hn]
  have halike : AnnAlike (s.evalEntry c old cur after false) t := ht ▸ s.updateEntry_alike c old cur after false
  obtain ⟨v, hv, w, hvw, -, -, -, -, hcancels⟩ := s.evalEntry_announcer c old cur after false
  rw [← hn, htable] at hcancels
  rw [hvw, if_neg (by rw [Bool.false_and]; exact Bool.false_ne_true)] at hv
  rcases hcancels (fun h => hold (h.trans hnew)) hnew with h | h
  · exact .inl (s.announced_of hinner _ (fun k => (k.handRequest _ _).annCancelled _) ((h.trans hv).trans halike))
  · exact .inr (s.announced_of hinner _ (fun k => (k.annCancelled _).handRequest _ _) ((h.trans hv).trans halike))

theorem State.updateEntry_noLiveQuote (c : Settings) (hcfg : s.cfg = some c) (old cur : Entry) (after : EvalAfter) (stepped : Bool)
    (n : Entry) (hn : n = cur.evaluated s.bat c.proj s.nowSec old after stepped) (hphase : old.phase ≠ n.phase)
    (hended : n.phase = .departed ∨ n.phase = .cancelled) : (s.updateEntry c old cur after stepped).noLiveQuote n.who :=
  State.noLiveQuote_congr _ (s.evalEntry_noLiveQuote c hcfg old cur after stepped n hn hphase hended)
    (s.updateEntry_front c old cur after stepped).issue

/-! ### CANCEL (R16) -/

/-- The entry as a CANCEL leaves it. -/
def Entry.cancelledFor (e : Entry) (reason : Nat) (b : Battery) (p : ProjParams) (now : Nat) : Entry :=
  { e with
    cancel := some reason, phase := .cancelled, timeliness := e.classify b p now
    dueAnn := if e.phase = .cancelled then e.dueAnn else false }

theorem Entry.cancelledFor_eq (e : Entry) (reason : Nat) (b : Battery) (p : ProjParams) (now : Nat) :
    e.cancelledFor reason b p now =
      ({ e with cancel := some reason, phase := Phase.cancelled } : Entry).evaluated b p now e .plain false := by
  obtain ⟨heq, hphase, -, hmark⟩ := Entry.evaluated_eq { e with cancel := some reason, phase := Phase.cancelled } b p now e .plain false _ rfl
  rw [Entry.phaseAfter_ended _ b p .plain (.inr rfl)] at hphase
  rw [hphase, hmark (fun h => Bool.false_ne_true h.1)] at heq
  rw [heq]
  unfold Entry.cancelledFor dueMark
  by_cases h : e.phase = .cancelled
  · simp [h, Entry.classify]
  · simp [h, Entry.classify]

theorem State.applyCancel_done (c : Settings) (im : Image) (e : Entry) (he : s.entry? im.who = some e) (hphase : e.phase ≠ .departed)
    (hnew : ¬ (e.phase = .cancelled ∧ e.cancel = some im.reason)) :
    s.applyCancel c im =
      (if e.phase = .cancelled then
         (s.updateEntry c e { e with cancel := some im.reason, phase := Phase.cancelled } .plain false).handRequest .cancel e.who
       else s.updateEntry c e { e with cancel := some im.reason, phase := Phase.cancelled } .plain false, Code.applied) := by
  unfold State.applyCancel
  rw [he]
  dsimp only
  split
  next h => rw [if_neg (by rw [h]; exact nofun)]
  next h => rw [if_neg (by rw [h]; exact nofun)]
  next h => rw [if_neg fun hsame => hnew ⟨h, hsame⟩, if_pos h]
  next h => exact absurd h hphase

theorem State.cancel_applied (c : Settings) (hcfg : s.cfg = some c) (im : Image) (e : Entry) (he : s.entry? im.who = some e)
    (hphase : e.phase ≠ .departed) (hnew : ¬ (e.phase = .cancelled ∧ e.cancel = some im.reason)) :
    ∃ t, s.applyCancel c im = (t, Code.applied) ∧ Inner s t ∧
      t.table = s.table.map (fun x => if x.who = e.who then e.cancelledFor im.reason s.bat c.proj s.clk.upSec else x) ∧
      (e.phase ≠ .cancelled → t.noLiveQuote e.who) ∧
      (e.phase ≠ .cancelled →
        s.announced t (fun u => (u.handRequest .cancel e.who).annCancelled e.who) ∨
        s.announced t (fun u => (u.annCancelled e.who).handRequest .cancel e.who)) ∧
      (e.phase = .cancelled → s.announced t (fun u => u.handRequest .cancel e.who)) := by
  have happly := s.applyCancel_done c im e he hphase hnew
  have hn := e.cancelledFor_eq im.reason s.bat c.proj s.clk.upSec
  have htable := s.updateEntry_table_map c e { e with cancel := some im.reason, phase := Phase.cancelled } .plain false _ hn rfl
  have hinner := Inner.updateEntry c e { e with cancel := some im.reason, phase := Phase.cancelled } .plain false (.refl s)
  by_cases hcancelled : e.phase = .cancelled
  · rw [if_pos hcancelled] at happly
    have hevents := s.updateEntry_plain c e { e with cancel := some im.reason, phase := Phase.cancelled } .plain false _ hn
      (fun _ => hcancelled) (fun h => Bool.false_ne_true h.1) _ rfl
    rw [Phase.hands_same _ _ _ _ (show (e.cancelledFor im.reason s.bat c.proj s.clk.upSec).phase = e.phase from hcancelled.symm)] at hevents
    generalize s.updateEntry c e { e with cancel := some im.reason, phase := Phase.cancelled } .plain false = t at happly htable hinner hevents
    have hagain : s.announced (t.handRequest .cancel e.who) (fun u => u.handRequest .cancel e.who) := by
      refine s.announced_of (hinner.handRequest _ _) (fun u => u.handRequest .cancel e.who) (fun k => k.handRequest _ _) ?_
      rw [(Front.handRequest _ _ (.refl t)).table]
      exact hevents.handRequest _ _
    exact ⟨_, happly, hinner.handRequest _ _, (Front.handRequest _ _ (.refl t)).table.trans htable, fun h => absurd hcancelled h,
      fun h => absurd hcancelled h, fun _ => hagain⟩
  · rw [if_neg hcancelled] at happly
    exact ⟨_, happly, hinner, htable,
      fun _ => s.updateEntry_noLiveQuote c hcfg e _ .plain false (e.cancelledFor im.reason s.bat c.proj s.clk.upSec) hn hcancelled (.inr rfl),
      fun _ => s.updateEntry_cancels c e _ .plain (e.cancelledFor im.reason s.bat c.proj s.clk.upSec) hn hcancelled rfl _ rfl, fun h => absurd h hcancelled⟩

/-! ### REINSTATE (R17, R48) -/

theorem ClockState.unset_or_set (k : ClockState) : k = .unset ∨ k = .set := by cases k <;> simp

theorem ClockState.ne_set_iff (k : ClockState) : k = .unset ↔ ¬ k = .set := by cases k <;> simp

theorem State.reinstate_applied (c : Settings) (im : Image) (e : Entry) (he : s.entry? im.who = some e) (hphase : e.phase = .cancelled) :
    ∃ t n, s.applyReinstate c im = (t, Code.applied) ∧ Inner s t ∧
      t.table = s.table.map (fun x => if x.who = e.who then n else x) ∧
      n = { e with cancel := none, phase := n.phase, timeliness := e.classify s.bat c.proj s.clk.upSec
                   dueAnn := if n.phase = .due then true else e.dueAnn } ∧
      n.phase = (if s.bat.clock = .set ∧ (e.exp : Int) - c.proj.window ≤ e.now s.bat then .due else .waiting) ∧
      (n.phase = .due → e.dueAnn = false → s.announced t (fun u => u.handRequest .due e.who)) ∧
      (n.phase = .waiting ∨ e.dueAnn = true → s.announced t id) := by
  have happly : s.applyReinstate c im =
      (s.updateEntry c e { e with cancel := none, phase := Phase.waiting } .reinstate false, Code.applied) := by
    unfold State.applyReinstate
    rw [he]
    exact if_pos hphase
  obtain ⟨n, hn⟩ : ∃ n, n = ({ e with cancel := none, phase := Phase.waiting } : Entry).evaluated s.bat c.proj s.nowSec e .reinstate false :=
    ⟨_, rfl⟩
  obtain ⟨heq, htests, -, hmark⟩ := Entry.evaluated_eq _ s.bat c.proj s.nowSec e .reinstate false n hn
  rw [hmark fun h => Bool.false_ne_true h.1] at heq
  have hnphase : n.phase = (if s.bat.clock = .set ∧ (e.exp : Int) - c.proj.window ≤ e.now s.bat then .due else .waiting) := by
    rw [htests, Entry.phaseAfter_live _ s.bat c.proj .reinstate (.inl rfl)]
    by_cases hset : s.bat.clock = .set
    · refine (if_neg fun h => (ClockState.ne_set_iff _).mp h hset).trans ((if_neg fun h => h.1 rfl).trans ?_)
      exact ite_congr_iff ⟨fun h => ⟨hset, h⟩, And.right⟩ rfl rfl
    · rw [if_pos ((ClockState.ne_set_iff _).mpr hset), if_neg fun h => hset h.1]
  have hlive : n.phase = .waiting ∨ n.phase = .due := by
    rw [hnphase]
    split
    · exact .inr rfl
    · exact .inl rfl
  have hne : n.phase ≠ e.phase := by
    rw [hphase]
    rcases hlive with h | h
    · rw [h]; exact nofun
    · rw [h]; exact nofun
  have hwho : n.who = e.who := by rw [hn, Entry.evaluated_who]; rfl
  obtain ⟨-, hhands⟩ := s.updateEntry_hands c e _ .reinstate false n hn (fun _ => hphase) _ rfl
  have hevents := hhands fun h => Bool.false_ne_true h.1
  refine ⟨_, n, happly, .updateEntry _ _ _ _ _ (.refl s), s.updateEntry_table_map c e _ .reinstate false n hn (congrArg Entry.exp heq).symm,
    heq.trans ?_, hnphase, fun hdue hfresh => ?_, fun hquiet => ?_⟩
  · have hdueMark : dueMark e.phase n.phase e.dueAnn = if n.phase = .due then true else e.dueAnn := by
      rw [dueMark_of_not_enters _ _ _ fun _ => hphase, hphase]
      simp
    exact congrArg (fun m => ({ e with cancel := none, phase := n.phase, timeliness := e.classify s.bat c.proj s.clk.upSec, dueAnn := m } : Entry))
      hdueMark
  · have hfun : e.phase.hands e.dueAnn n = fun u => u.handRequest .due e.who := by
      funext u
      unfold Phase.hands
      rw [if_neg hne, hdue, hfresh, hwho]
      exact if_neg Bool.false_ne_true
    rwa [← hfun]
  · have hfun : e.phase.hands e.dueAnn n = id := by
      funext u
      unfold Phase.hands
      rw [if_neg hne]
      rcases hlive with hwaiting | hdue
      · rw [hwaiting]
        exact if_neg (by rw [hphase]; exact nofun)
      · rw [hdue]
        exact if_pos (hquiet.resolve_left (by rw [hdue]; exact nofun))
    rwa [← hfun]

/-! ### DEPARTED (R19) -/

/-- The entry as a DEPARTED update leaves it. -/
def Entry.departedAt (e : Entry) (b : Battery) (p : ProjParams) (now : Nat) : Entry :=
  { e with phase := .departed, timeliness := e.classify b p now }

theorem Entry.departedAt_eq (e : Entry) (b : Battery) (p : ProjParams) (now : Nat) :
    e.departedAt b p now = ({ e with phase := Phase.departed } : Entry).evaluated b p now e .plain false := by
  obtain ⟨heq, hphase, -, hmark⟩ := Entry.evaluated_eq { e with phase := Phase.departed } b p now e .plain false _ rfl
  rw [Entry.phaseAfter_ended _ b p .plain (.inl rfl)] at hphase
  rw [hphase, hmark (fun h => Bool.false_ne_true h.1), dueMark_of_not_enters e.phase .departed _ nofun] at heq
  rw [heq]
  rfl

theorem State.departed_applied (c : Settings) (hcfg : s.cfg = some c) (im : Image) (e : Entry) (he : s.entry? im.who = some e)
    (hphase : e.phase = .waiting ∨ e.phase = .due) :
    ∃ t, s.applyDeparted c im = (t, Code.applied) ∧ Inner s t ∧
      t.table = s.table.map (fun x => if x.who = e.who then e.departedAt s.bat c.proj s.clk.upSec else x) ∧
      t.noLiveQuote e.who ∧ s.announced t (fun u => u.withdrawQueued e.who [.due, .delay]) := by
  have happly : s.applyDeparted c im = (s.updateEntry c e { e with phase := Phase.departed } .plain false, Code.applied) := by
    unfold State.applyDeparted
    rw [he]
    rcases hphase with h | h
    all_goals
      dsimp only
      rw [h]
  have hne : e.phase ≠ .departed := by rcases hphase with h | h <;> rw [h] <;> exact nofun
  have hn := e.departedAt_eq s.bat c.proj s.clk.upSec
  obtain ⟨-, hhands⟩ := s.updateEntry_hands c e _ .plain false _ hn nofun _ rfl
  have hevents := hhands fun h => Bool.false_ne_true h.1
  have hfun : e.phase.hands e.dueAnn (e.departedAt s.bat c.proj s.clk.upSec) = fun u => u.withdrawQueued e.who [.due, .delay] := by
    funext u
    exact if_neg (Ne.symm hne)
  rw [hfun] at hevents
  exact ⟨_, happly, .updateEntry _ _ _ _ _ (.refl s), s.updateEntry_table_map c e _ .plain false _ hn rfl,
    s.updateEntry_noLiveQuote c hcfg e _ .plain false (e.departedAt s.bat c.proj s.clk.upSec) hn hne (.inl rfl), hevents⟩

/-- Settles O39. -/
theorem cancelReinstateDeparted : Obligations.CancelReinstateDeparted := by
  intro s c src im hcfg
  have hexec := fun k t outcome (hturn : s.turn src im k) (haccepts : s.accepts c k (readImage im)) h =>
    exec_update_of s c src im k hcfg hturn t outcome ((s.applyImage_accepted c src k (readImage im) haccepts).trans h)
  refine ⟨fun hturn haccepts => ⟨fun hnone => hexec .cancel _ _ hturn haccepts ?_,
      fun e he => ⟨fun h => hexec .cancel _ _ hturn haccepts ?_, fun h hsame => hexec .cancel _ _ hturn haccepts ?_, fun h hnew => ?_⟩⟩,
    fun hturn haccepts => ⟨fun hnone => hexec .reinstate _ _ hturn haccepts ?_,
      fun e he => ⟨fun h => hexec .reinstate _ _ hturn haccepts ?_, fun h => ?_⟩⟩,
    fun hturn haccepts => ⟨fun hnone => hexec .departed _ _ hturn haccepts ?_,
      fun e he => ⟨fun h => hexec .departed _ _ hturn haccepts ?_, fun h => hexec .departed _ _ hturn haccepts ?_, fun h => ?_⟩⟩⟩
  · change s.applyCancel c (readImage im) = _
    rw [State.applyCancel, hnone]
  · change s.applyCancel c (readImage im) = _
    rw [State.applyCancel, he]
    dsimp only
    rw [h]
  · change s.applyCancel c (readImage im) = _
    rw [State.applyCancel, he]
    dsimp only
    rw [h]
    exact if_pos hsame
  · obtain ⟨t, happly, hrest⟩ := s.cancel_applied c hcfg (readImage im) e he h hnew
    exact ⟨t, hexec .cancel _ _ hturn haccepts happly, hrest⟩
  · change s.applyReinstate c (readImage im) = _
    rw [State.applyReinstate, hnone]
  · change s.applyReinstate c (readImage im) = _
    rw [State.applyReinstate, he]
    exact if_neg h
  · obtain ⟨t, n, happly, hrest⟩ := s.reinstate_applied c (readImage im) e he h
    exact ⟨t, n, hexec .reinstate _ _ hturn haccepts happly, hrest⟩
  · change s.applyDeparted c (readImage im) = _
    rw [State.applyDeparted, hnone]
  · change s.applyDeparted c (readImage im) = _
    rw [State.applyDeparted, he]
    dsimp only
    rw [h]
  · change s.applyDeparted c (readImage im) = _
    rw [State.applyDeparted, he]
    dsimp only
    rw [h]
  · obtain ⟨t, happly, hrest⟩ := s.departed_applied c hcfg (readImage im) e he h
    exact ⟨t, hexec .departed _ _ hturn haccepts happly, hrest⟩

/-! ### REPORT (R18, R42 to R45) -/

/-- The report a REPORT update brings: its delay raised to -900 seconds, arrived now (R2, R18). -/
def Image.reportAt (im : Image) (now : Nat) : Report := { delay := max (-900) im.delay, point := im.point, final := im.final, arrival := now }

/-- The entry with the report and the projection step done (R18, R45). -/
def Entry.reported (e : Entry) (im : Image) (now : Nat) : Entry :=
  ({ e with report := some (im.reportAt now) } : Entry).project e.report.isNone

theorem State.applyReport_live (c : Settings) (im : Image) (e : Entry) (he : s.entry? im.who = some e) (hphase : e.phase ≠ .departed) :
    s.applyReport c im =
      (s.updateEntry c e (e.reported im s.clk.upSec) .report true, Code.applied) := by
  unfold State.applyReport
  rw [he]
  exact if_neg hphase

/-- The shown delay after a report (R42 to R44). -/
theorem report_hm (e : Entry) (im : Image) (now : Nat) :
    (e.reported im now).hm =
      (let cap : Nat := (107999 - e.sched) / 60
       let pm : Nat := min ((max (-900) im.delay - 60 * e.recovery).toNat / 60) cap
       min (if e.report = none ∨ e.hm < pm ∨ pm + 2 ≤ e.hm ∨ im.final = true then pm else e.hm) cap) := by
  dsimp only
  unfold Entry.reported Entry.project shownDelay Image.reportAt pendingMinutes capMinutes
  dsimp only
  simp only [Option.isNone_iff_eq_none]
  rfl

/-- A report that has just arrived is not stale (R46, R47). -/
theorem report_classify (e : Entry) (im : Image) (b : Battery) (p : ProjParams) (now : Nat) :
    (e.reported im now).classify b p now =
      if p.late ≤ (e.reported im now).hm then .late else .onTime := by
  refine if_neg fun h => ?_
  have hage : (im.reportAt now).age now = 0 := Nat.sub_self now
  exact absurd (hage ▸ h.2) (Nat.not_lt_zero _)

/-- Entries that differ in what a REPORT brings are the same where that is the same. -/
theorem Entry.reported_congr (e : Entry) (r : Option Report) (phase : Phase) (announced : Option Nat) {hm hm' exp exp' : Nat}
    {t t' : Timeliness} {d d' : Bool} (hhm : hm = hm') (hexp : exp = exp') (ht : t = t') (hd : d = d') :
    ({ e with report := r, hm := hm, exp := exp, timeliness := t, phase := phase, dueAnn := d, delayAnn := announced } : Entry) =
      { e with report := r, hm := hm', exp := exp', timeliness := t', phase := phase, dueAnn := d', delayAnn := announced } := by
  rw [hhm, hexp, ht, hd]

/-- What an evaluation after a REPORT makes of an entry that has not departed (R18, R42 to R56). -/
theorem report_evaluated (e : Entry) (im : Image) (b : Battery) (p : ProjParams) (now : Nat) (hphase : e.phase ≠ .departed) (n : Entry)
    (hn : n = (e.reported im now).evaluated b p now e .report true) :
    (let cap : Nat := (107999 - e.sched) / 60
     let pm : Nat := min ((max (-900) im.delay - 60 * e.recovery).toNat / 60) cap
     n = { e with
       report := some (im.reportAt now)
       hm := min (if e.report = none ∨ e.hm < pm ∨ pm + 2 ≤ e.hm ∨ im.final = true then pm else e.hm) cap
       exp := e.sched + 60 * n.hm
       timeliness := if p.late ≤ n.hm then .late else .onTime
       phase := n.phase
       dueAnn := if n.phase = .due ∧ e.phase ≠ .due then true
                 else if n.phase = .waiting ∧ e.phase = .due then false else e.dueAnn
       delayAnn := n.delayAnn }) ∧
    (n.phase = .cancelled ↔ e.phase = .cancelled) ∧
    (e.phase ≠ .cancelled → n.phase =
      if b.clock = .unset then .waiting
      else if (n.exp : Int) + p.grace ≤ n.now b then .departed
      else if (n.exp : Int) - p.window ≤ n.now b then .due else .waiting) ∧
    (Entry.delays p e n e.delayAnn → n.delayAnn = some (min n.hm 59)) ∧
    (¬ Entry.delays p e n e.delayAnn → n.delayAnn = e.delayAnn) := by
  obtain ⟨heq, htests, hdelay, hstill⟩ := Entry.evaluated_eq _ b p now e .report true n hn
  have hclass := report_classify e im b p now
  have hhm := report_hm e im now
  have hcancelled : n.phase = .cancelled ↔ e.phase = .cancelled := by
    rw [htests, Entry.phaseAfter_cancelled_iff]
    exact Iff.rfl
  have hmark := dueMark_of_not_enters e.phase n.phase e.dueAnn hcancelled.mp
  refine ⟨?_, hcancelled, fun hlive => ?_, fun h => ?_, fun h => hstill fun hd => h hd.2⟩
  · have hown : n.hm = (e.reported im now).hm := (congrArg Entry.hm heq :)
    exact heq.trans (Entry.reported_congr e _ n.phase n.delayAnn hhm (congrArg (fun m => e.sched + 60 * m) hown.symm)
      (hclass.trans (by rw [hown])) hmark)
  · have hlive' : e.phase = .waiting ∨ e.phase = .due := by
      cases h : e.phase
      case waiting => exact .inl rfl
      case due => exact .inr rfl
      case departed => exact absurd h hphase
      case cancelled => exact absurd h hlive
    have hnow : n.now b = e.now b := by rw [heq]; rfl
    have hexp : n.exp = (e.reported im now).exp := (congrArg Entry.exp heq :)
    rw [htests, hnow, hexp]
    refine (Entry.phaseAfter_live { e.reported im now with timeliness := (e.reported im now).classify b p now } b p .report hlive').trans ?_
    refine ite_congr_iff Iff.rfl rfl (ite_congr_iff ⟨fun h => h.2.2, fun h => ⟨nofun, ?_, h⟩⟩ rfl (ite_congr_iff Iff.rfl rfl (if_pos rfl)))
    change (e.reported im now).classify b p now ≠ Timeliness.stale
    rw [hclass]
    split <;> exact nofun
  · rw [hdelay ⟨rfl, h⟩]
    exact congrArg (fun m => some (min m 59)) (congrArg Entry.hm heq).symm

/-- What the phase events of a REPORT hand the announcer, in the words of the statement (R51, R54, R56). -/
theorem report_hands (e n : Entry) (hwho : n.who = e.who) (hphase : e.phase ≠ .departed)
    (hcancelled : n.phase = .cancelled ↔ e.phase = .cancelled) :
    e.phase.hands e.dueAnn n = fun u =>
      if n.phase = e.phase then u
      else match n.phase with
        | .due => if e.dueAnn = true then u else u.handRequest .due e.who
        | .waiting => u.withdrawQueued e.who [.due]
        | _ => u.withdrawQueued e.who [.due, .delay] := by
  funext u
  unfold Phase.hands
  by_cases hsame : n.phase = e.phase
  · rw [if_pos hsame, if_pos hsame]
  · rw [if_neg hsame, if_neg hsame, hwho]
    cases hn : n.phase
    case due => rfl
    case departed => rfl
    case cancelled => exact absurd (hn.trans (hcancelled.mp hn).symm) hsame
    case waiting =>
      refine if_pos ?_
      cases he : e.phase
      case waiting => exact absurd (hn.trans he.symm) hsame
      case due => rfl
      case departed => exact absurd he hphase
      case cancelled => exact absurd ((hcancelled.mpr he).symm.trans hn) nofun

/-- Requests of one kind for one entry are the same request (R147). -/
theorem AnnReq.same_of_entry (x : AnnReq) (k : AnnKind) (who : TrainId) :
    x.same { kind := k, who := some who, clips := [] } = true ↔ x.kind = k ∧ x.who = some who := by
  rw [AnnReq.same_iff]
  refine and_congr_right fun _ => ⟨And.right, fun h => ⟨by rw [h]; rfl, h⟩⟩

/-- With an announcement current that is not to be cut, a request of an entry only takes its place (R145, R147). -/
theorem State.handRequest_waits (k : AnnKind) (who : TrainId) (a : Announcement) (hcurrent : s.ann.current = some a)
    (hsupply : ¬ (k = .delay ∧ s.ann.supplyLow = true))
    (hstays : a.cut ≠ none ∨ k.priority ≤ a.kind.priority ∧ ∀ x ∈ s.ann.queue, x.kind.priority ≤ a.kind.priority)
    (q : List AnnReq) (b : Bool) (m : Nat) (hplace : placeRequest s.ann.queue { kind := k, who := some who, clips := [] } = (q, b, m))
    (hmem : ∀ x ∈ q, x = { kind := k, who := some who, clips := [] } ∨ x ∈ s.ann.queue) :
    s.handRequest k who = { s with ann := { s.ann with queue := q }, rep := s.rep.counted .annDrop m } := by
  have hhand : s.handRequest k who = s.takeRequest { kind := k, who := some who, clips := [] } := if_neg hsupply
  rw [hhand, s.takeRequest_waits _ a hcurrent ?_, s.placed_eq _ q b m hplace]
  rw [hplace]
  refine hstays.imp id fun hlow => .inr fun x hx => ?_
  rcases hmem x hx with rfl | hx
  · exact hlow.1
  · exact hlow.2 x hx

/-- Settles O40. -/
theorem reportProjects : Obligations.ReportProjects := by
  intro s c src im hcfg hturn haccepts
  have happly := s.applyImage_accepted c src .report (readImage im) haccepts
  have hexec : ∀ t outcome, s.applyReport c (readImage im) = (t, outcome) →
      exec (.report src) s = .next (t.handBack c src im outcome) := fun t outcome h =>
    exec_update_of s c src im .report hcfg hturn t outcome (happly.trans h)
  refine ⟨fun hnone => hexec _ _ ?_, fun e he => ⟨fun h => hexec _ _ ?_, fun hphase => ?_⟩, fun k who a => ⟨fun hdrop => if_pos hdrop,
    fun hsupply hcurrent hstays => ⟨fun hheld => ?_, fun hnew hroom => ?_, fun last hnew hfull hlast => ?_⟩⟩⟩
  · rw [State.applyReport, hnone]
  · rw [State.applyReport, he]
    exact if_pos h
  · obtain ⟨hmem, hwho⟩ := entry?_some s _ e he
    obtain ⟨n, hn⟩ : ∃ n, n = (e.reported (readImage im) s.clk.upSec).evaluated s.bat c.proj s.clk.upSec e .report true := ⟨_, rfl⟩
    obtain ⟨heq, hcancelled, htests, hdelay, hstill⟩ := report_evaluated e (readImage im) s.bat c.proj s.clk.upSec hphase n hn
    have hnwho : n.who = e.who := by rw [hn, Entry.evaluated_who]; rfl
    obtain ⟨hentry, hfrom, hkeep⟩ := s.evalEntry_spec c e (e.reported (readImage im) s.clk.upSec) .report true hmem rfl _ (s.updateEntry_front c e _ .report true).table n hn
    obtain ⟨hdelayed, hplain⟩ := s.updateEntry_hands c e (e.reported (readImage im) s.clk.upSec) .report true n hn hcancelled.mp _ rfl
    rw [show (e.reported (readImage im) s.clk.upSec).dueAnn = e.dueAnn from rfl, report_hands e n hnwho hphase hcancelled] at hdelayed hplain
    rw [hnwho] at hdelayed
    refine ⟨_, n, hexec _ _ (s.applyReport_live c _ e he hphase), .updateEntry _ _ _ _ _ (.refl s), hwho ▸ hentry, hfrom, hkeep, heq,
      hcancelled.mpr, htests, fun hd => ⟨hdelay hd, hdelayed ⟨rfl, hd⟩⟩, fun hd => ⟨hstill hd, hplain fun h => hd h.2⟩⟩
  · have hplace := placeRequest_held (q := s.ann.queue) (r := { kind := k, who := some who, clips := [] })
      (hheld.imp fun x hx => ⟨hx.1, (x.same_of_entry k who).mpr hx.2⟩)
    simp only [AnnReq.same_of_entry] at hplace
    refine s.handRequest_waits k who a hcurrent hsupply hstays _ _ _ hplace fun x hx => ?_
    obtain ⟨y, hy, rfl⟩ := List.mem_map.mp hx
    split
    · exact .inl rfl
    · exact .inr hy
  · have hfree : ¬ heldIn s.ann.queue { kind := k, who := some who, clips := [] } := fun ⟨x, hx, hsame⟩ =>
      hnew ⟨x, hx, (x.same_of_entry k who).mp hsame⟩
    exact s.handRequest_waits k who a hcurrent hsupply hstays _ _ _ (placeRequest_room hfree hroom) fun x hx => (mem_placedIn _ _ _).mp hx
  · have hfree : ¬ heldIn s.ann.queue { kind := k, who := some who, clips := [] } := fun ⟨x, hx, hsame⟩ =>
      hnew ⟨x, hx, (x.same_of_entry k who).mp hsame⟩
    have hplace := placeRequest_full hfree hfull hlast
    dsimp only at hplace ⊢
    split at hplace
    next hlow =>
      rw [if_pos hlow]
      exact s.handRequest_waits k who a hcurrent hsupply hstays _ _ _ hplace fun x hx =>
        ((mem_placedIn _ _ _).mp hx).imp id fun hx => List.dropLast_subset _ hx
    next hhigh =>
      rw [if_neg hhigh]
      exact s.handRequest_waits k who a hcurrent hsupply hstays _ _ _ hplace fun x hx => .inr hx

end Sys2Proof.Machine
end

section
/-! PROOFS. PART_CYCLE with no host cycle (R181 to R190, R203): the one access that reaches the memory, and the words of the report block in their order. -/

namespace Sys2Proof.Machine

/-! ### What leaves the memory as it is: a part cycle writes it by the landing of its access alone (R181) -/

/-- The memory stands along a fold whose steps keep it. -/
theorem State.foldl_memory {α : Type} {f : State → α → State} (hf : ∀ s x, (f s x).mem = s.mem) (l : List α) (s : State) :
    (l.foldl f s).mem = s.mem := by
  induction l generalizing s with
  | nil => rfl
  | cons x xs ih => exact (ih (f s x)).trans (hf s x)

namespace State

variable (s : State)

/-! ### Operations of the departure side, the announcer and the composer: within `Inner` -/

@[simp] theorem raise_memory (f : Flag) : (s.raise f).mem = s.mem := (Inner.raise f (.refl s)).mem
@[simp] theorem count_memory (c : Counter) (n : Nat) : (s.count c n).mem = s.mem := (Inner.count c n (.refl s)).mem
@[simp] theorem markBoth_memory (rows : List Nat) : (s.markBoth rows).mem = s.mem := (Inner.markBoth rows (.refl s)).mem
@[simp] theorem setMode_memory (m : Mode) : (s.setMode m).mem = s.mem := (Inner.setMode m (.refl s)).mem
@[simp] theorem setDeadline_memory (d : Option Nat) : (s.setDeadline d).mem = s.mem := (Inner.setDeadline d (.refl s)).mem
@[simp] theorem annAdvance_memory : s.annAdvance.mem = s.mem := (Inner.annAdvance (.refl s)).mem
@[simp] theorem annServed_memory (w : Word) : (s.annServed w).mem = s.mem := (Inner.annServed w (.refl s)).mem
@[simp] theorem annClear_memory : s.annClear.mem = s.mem := (Inner.annClear (.refl s)).mem
@[simp] theorem setRecord_memory (slot : Nat) (r : QuoteRec) : (s.setRecord slot r).mem = s.mem := rfl
@[simp] theorem issueWrites_memory (accs : List Acc) : (s.issueWrites accs).mem = s.mem := rfl
@[simp] theorem voidSlot_memory (slot : Nat) (why : VoidReason) : (s.voidSlot slot why).mem = s.mem :=
  (Inner.voidSlot slot why (.refl s)).mem
@[simp] theorem recomputeList_memory : s.recomputeList.mem = s.mem := (Inner.recomputeList (.refl s)).mem
@[simp] theorem evalAll_memory (c : Settings) : (s.evalAll c).mem = s.mem := (Inner.evalAll c (.refl s)).mem
@[simp] theorem rollTable_memory : s.rollTable.mem = s.mem := (Inner.rollTable (.refl s)).mem
@[simp] theorem evalPass_memory (c : Settings) : (s.evalPass c).mem = s.mem := (Inner.evalPass c (.refl s)).mem
@[simp] theorem emptyTable_memory : s.emptyTable.mem = s.mem := (Inner.emptyTable (.refl s)).mem
@[simp] theorem commandRefused_memory (c : Settings) (v : Word) : (s.commandRefused c v).mem = s.mem := rfl
@[simp] theorem answerSale_memory (c : Settings) (results : List (Nat × Word)) (post : Word) :
    (s.answerSale c results post).mem = s.mem := (Inner.answerSale c results post (.refl s)).mem
@[simp] theorem refuseSale_memory (c : Settings) (v : Word) : (s.refuseSale c v).mem = s.mem :=
  (Inner.refuseSale c v (.refl s)).mem
@[simp] theorem writeMirror_memory : s.writeMirror.mem = s.mem := (Inner.writeMirror (.refl s)).mem
@[simp] theorem testLow_memory (g : Geometry) (before : Nat) : (s.testLow g before).mem = s.mem :=
  (Inner.testLow g before (.refl s)).mem
@[simp] theorem startCal_memory (p : PanelParams) (ch : Nat) : (s.startCal p ch).mem = s.mem := (Inner.startCal p ch (.refl s)).mem
@[simp] theorem composerServed_memory (w : Word) : (s.composerServed w).mem = s.mem := (Inner.composerServed w (.refl s)).mem
@[simp] theorem recompose_memory : s.recompose.mem = s.mem := (Inner.recompose (.refl s)).mem

/-! ### The clock, the journal and the announcer at an acceptance (R38, R80, R81, R84, R154) -/

@[simp] theorem setClockNow_memory (civil : Nat) (day : Word) : (s.setClockNow civil day).mem = s.mem := rfl

@[simp] theorem stepTable_memory (c : Settings) (k : Int) : (s.stepTable c k).mem = s.mem := by
  unfold stepTable
  split
  · simp
  · split <;> simp

@[simp] theorem changeHour_memory (c : Settings) (hour : Nat) : (s.changeHour c hour).mem = s.mem := by
  unfold changeHour
  split
  · rfl
  · dsimp only
    split <;> simp

@[simp] theorem takeGeometry_memory (c : Settings) : (s.takeGeometry c).mem = s.mem := by
  unfold takeGeometry
  split <;> rfl

@[simp] theorem rewriteUnsent_memory : s.rewriteUnsent.mem = s.mem := by
  unfold rewriteUnsent
  split <;> rfl

@[simp] theorem lowAtAcceptance_memory : s.lowAtAcceptance.mem = s.mem := by
  unfold lowAtAcceptance
  split
  · split <;> simp
  · rfl

@[simp] theorem annSkip_memory (c : Settings) : (s.annSkip c).mem = s.mem := by
  unfold annSkip
  split
  · rfl
  · split
    · split <;> simp
    · rfl
    · rfl

@[simp] theorem commitTicket_memory : s.commitTicket.mem = s.mem := by
  unfold commitTicket
  split <;> simp

/-! ### The intake job and the issue unit (R7, R61) -/

@[simp] theorem answerIntake_memory (c : Settings) (im : Image) (outcome : Word) : (s.answerIntake c im outcome).mem = s.mem := by
  unfold answerIntake
  split <;> rfl

@[simp] theorem intakeFetched_memory (c : Settings) (image : List Word) : (s.intakeFetched c image).mem = s.mem := by
  unfold intakeFetched
  split <;> simp

@[simp] theorem intakeNext_memory : s.intakeNext.mem = s.mem := by
  unfold intakeNext
  split
  · dsimp only
    split
    · split
      · rfl
      · split <;> rfl
    · split <;> rfl
    · split <;> rfl
    · rfl
  · rfl

@[simp] theorem issueNext_memory : s.issueNext.mem = s.mem := by
  unfold issueNext
  split
  · split
    · split
      · simp
      · split <;> rfl
    · split <;> simp
    · split <;> simp
    · rfl
    · rfl
  · rfl

@[simp] theorem issueGoOn_memory : s.issueGoOn.mem = s.mem := by
  unfold issueGoOn
  split <;> simp

/-! ### The link (R160, R167, R171) -/

@[simp] theorem setBuild_memory (b : ReplyBuild) : (s.setBuild b).mem = s.mem := rfl

@[simp] theorem reply_memory (kind : Byte) (payload : List Word) : (s.reply kind payload).mem = s.mem := by
  unfold reply
  split <;> rfl

@[simp] theorem replyAck_memory (status : Word) (outcomes : List Nat) : (s.replyAck status outcomes).mem = s.mem :=
  s.reply_memory _ _

@[simp] theorem goOnJournal_memory (todo : List Nat) (got : List Word) : (s.goOnJournal todo got).mem = s.mem := by
  unfold goOnJournal
  split <;> simp

@[simp] theorem decideForward_memory (c : Settings) (pos : Nat) (payload entry : List Word) :
    (s.decideForward c pos payload entry).mem = s.mem := by
  unfold decideForward
  split <;> simp

@[simp] theorem forwardDone_memory (next : Nat) : (s.forwardDone next).mem = s.mem := by
  simp [forwardDone]

@[simp] theorem linkServed_memory (c : Settings) (w : Word) : (s.linkServed c w).mem = s.mem := by
  unfold linkServed
  split
  · simp
  · split <;> simp
  · split <;> simp
  · rfl

/-! ### The report writer (R179, R183, R188, R190) -/

@[simp] theorem postCommand_memory (c : Settings) (code : CommandCode) : (s.postCommand c code).mem = s.mem := by
  unfold postCommand
  dsimp only
  split <;> rfl

@[simp] theorem wordLanded_memory (o : Nat) (v : Word) : (s.wordLanded o v).mem = s.mem := by
  unfold wordLanded
  dsimp only
  split
  · rfl
  · split
    · rfl
    · split <;> rfl

@[simp] theorem commandLanded_memory : s.commandLanded.mem = s.mem := rfl

@[simp] theorem takeProbe_memory (c : Settings) (w : Word) : (s.takeProbe c w).mem = s.mem := by
  unfold takeProbe
  dsimp only
  split <;> simp [restartCommand]

@[simp] theorem blockServed_memory (c : Settings) (w : Word) : (s.blockServed c w).mem = s.mem := by
  unfold blockServed
  split
  · rfl
  · split <;> simp

@[simp] theorem reportServed_memory (c : Settings) (w : Word) : (s.reportServed c w).mem = s.mem := by
  unfold reportServed
  split
  · rfl
  · split <;> rfl
  · rfl
  · simp
  · simp
  · simp
  · simp

/-! ### The loader (R193, R196 to R198) -/

@[simp] theorem loadLanded_memory : s.loadLanded.mem = s.mem := rfl

@[simp] theorem startPanel_memory (p : PanelParams) : (s.startPanel p).mem = s.mem :=
  (modPanel_mem _ _).trans (foldl_memory (fun t ch => t.startCal_memory p ch) _ s)

@[simp] theorem startJobs_memory (c : Settings) : (s.startJobs c).mem = s.mem := by
  simp [startJobs, startReport, startLink, startScreens, startActivity]

@[simp] theorem scanSlot_memory (c : Settings) (n : Nat) (w : Word) : (s.scanSlot c n w).mem = s.mem := by
  unfold scanSlot restartSlot
  dsimp only
  split
  · split <;> rfl
  · rfl

@[simp] theorem finishSale_memory (c : Settings) : (s.finishSale c).mem = s.mem := by
  unfold finishSale
  split
  · exact refuseSale_memory _ c _
  · simp

@[simp] theorem finishCommand_memory (c : Settings) : (s.finishCommand c).mem = s.mem := by
  unfold finishCommand
  dsimp only
  split <;> rfl

@[simp] theorem endQuotes_memory : s.endQuotes.mem = s.mem :=
  foldl_memory (fun t slot => t.voidSlot_memory slot .reconfigured) _ s

@[simp] theorem reloadClear_memory : s.reloadClear.mem = s.mem := by
  simp [reloadClear, reloadPanel, moveReport]

@[simp] theorem reloadSettings_memory (old next : Settings) : (s.reloadSettings old next).mem = s.mem := by
  simp [reloadSettings, reloadLink]

@[simp] theorem goOnFinish_memory (old next : Settings) : (s.goOnFinish old next).mem = s.mem := by
  unfold goOnFinish
  split
  · dsimp only
    split <;> simp [acceptLoad]
  · rfl

@[simp] theorem goOnTicket_memory (old next : Settings) : (s.goOnTicket old next).mem = s.mem := by
  unfold goOnTicket
  split
  next => rfl
  split
  next => simp [abandonReload, rejectLoad]
  next => simp [beginFinish]

/-- An acceptance that goes on writes nothing at once: its writes wait for part cycles of their own. -/
@[simp] theorem settleLoad_memory : s.settleLoad.mem = s.mem := by
  unfold settleLoad
  split
  · split <;> simp
  · split <;> rfl
  · simp
  · simp
  · rfl

/-! ### Landings and the requesters' blocks (R179, R182) -/

@[simp] theorem intakeLanded_memory (slot : Nat) : (s.intakeLanded slot).mem = s.mem := by
  simp [intakeLanded]

@[simp] theorem showVoided_memory (slot : Nat) : (s.showVoided slot).mem = s.mem := by
  unfold showVoided
  split <;> rfl

@[simp] theorem saleLanded_memory (slot : Nat) : (s.saleLanded slot).mem = s.mem := by
  simp [saleLanded]

@[simp] theorem land_memory (g : Landing) : (s.land g).mem = s.mem := by
  cases g with
  | plain => rfl
  | intakePost slot => exact s.intakeLanded_memory slot
  | salePost slot => exact s.saleLanded_memory slot
  | expiredReason _ => rfl
  | expiredPost _ => rfl
  | journalState => exact s.commitTicket_memory
  | restartIntake _ => rfl
  | restartSale _ => rfl
  | accepted => rfl
  | rejected => rfl
  | commandPost => rfl
  | chainFull next => exact s.forwardDone_memory next

@[simp] theorem issueServed_memory (w : Word) : (s.issueServed w).mem = s.mem := by
  unfold issueServed
  split
  · simp
  · rfl
  · rfl

@[simp] theorem intakeServed_memory (c : Settings) (w : Word) : (s.intakeServed c w).mem = s.mem := by
  unfold intakeServed
  split
  · dsimp only
    split <;> simp
  · simp
  · rfl
  · rfl
  · rfl

@[simp] theorem loaderServed_memory (w : Word) : (s.loaderServed w).mem = s.mem := by
  unfold loaderServed
  split
  · simp
  · rfl
  · simp
  · rfl


end State

end Sys2Proof.Machine
end

section
/-! PROOFS. PART_CYCLE with no host cycle (R181 to R190, R203): who takes the cycle, the order of the report block's words, and what
the block of the requester makes of its word. -/

namespace Sys2Proof.Machine

/-! ### The first of an ascending list -/

/-- In an ascending list the first element with a property is the least one with it. -/
theorem find?_eq_some_iff_least (p : Nat → Bool) (l : List Nat) (hsorted : l.Pairwise (· < ·)) (o : Nat) :
    l.find? p = some o ↔ o ∈ l ∧ p o = true ∧ ∀ q ∈ l, q < o → ¬ p q = true := by
  induction l with
  | nil => simp
  | cons x xs ih =>
    obtain ⟨hfirst, hrest⟩ := List.pairwise_cons.mp hsorted
    cases hx : p x with
    | true =>
      rw [List.find?_cons_of_pos hx]
      constructor
      · rintro ⟨⟩
        refine ⟨List.mem_cons_self, hx, fun q hq hlt => ?_⟩
        rcases List.mem_cons.mp hq with rfl | hmem
        · exact absurd hlt (Nat.lt_irrefl _)
        · exact absurd (hfirst q hmem) (Nat.lt_asymm hlt)
      · rintro ⟨hmem, -, hleast⟩
        rcases List.mem_cons.mp hmem with rfl | hmem
        · rfl
        · exact absurd hx (hleast x List.mem_cons_self (hfirst o hmem))
    | false =>
      have hno : ¬ p x = true := by simp [hx]
      rw [List.find?_cons_of_neg hno, ih hrest]
      constructor
      · rintro ⟨hmem, ho, hleast⟩
        refine ⟨List.mem_cons_of_mem _ hmem, ho, fun q hq hlt => ?_⟩
        rcases List.mem_cons.mp hq with rfl | hq
        · exact hno
        · exact hleast q hq hlt
      · rintro ⟨hmem, ho, hleast⟩
        rcases List.mem_cons.mp hmem with rfl | hmem
        · exact absurd ho hno
        · exact ⟨hmem, ho, fun q hq => hleast q (List.mem_cons_of_mem _ hq)⟩

/-! ### The words of the block in their order (R188, R189) -/

/-- The words are taken in ascending order. -/
theorem reportOrder_ascending (held : Bool) : (reportOrder held).Pairwise (· < ·) := by
  cases held <;> decide

/-- Every word but the clock group's, and not a write index that waits. -/
theorem mem_reportOrder (held : Bool) (o : Nat) :
    o ∈ reportOrder held ↔ o ≤ 63 ∧ ¬ (27 ≤ o ∧ o ≤ 29) ∧ (o = 30 → held = false) := by
  have hlate : (∃ a < 32, a + 32 = o) ↔ 32 ≤ o ∧ o ≤ 63 :=
    ⟨fun ⟨a, ha, he⟩ => by omega, fun h => ⟨o - 32, by omega, by omega⟩⟩
  have hmem (l : List Nat) (hl : o ∈ l ↔ o = 30 ∧ held = false) :
      o ∈ List.range 27 ++ l ++ 31 :: (List.range 32).map (· + 32) ↔ o ≤ 63 ∧ ¬ (27 ≤ o ∧ o ≤ 29) ∧ (o = 30 → held = false) := by
    simp only [List.mem_append, List.mem_range, List.mem_cons, List.mem_map, hlate, hl]
    cases held with
    | false =>
      simp only [and_true, implies_true]
      omega
    | true =>
      simp only [reduceCtorEq, and_false, or_false, imp_false]
      omega
  cases held with
  | false => exact hmem [30] (by simp)
  | true => exact hmem [] (by simp)

namespace State

variable (s : State) (c : Settings)

/-- A word is due when the part writes it and its written value is not the present one, or when it waits for the first write or the
move. -/
theorem wordDue_iff (o : Nat) :
    s.wordDue o = true ↔
      (o = 0 ∨ 13 ≤ o ∧ o ≤ 26 ∨ o = 30 ∨ 32 ≤ o ∧ o ≤ 63) ∧ s.rep.written.getD o none ≠ some (s.reportValue o) ∨ o ∈ s.rep.extra := by
  rw [wordDue, extraDue, Bool.or_eq_true, Bool.and_eq_true, partWritten_iff, bne_iff_ne, List.contains_iff_mem]

/-- The write index waits for a due word of the entries it covers: the newest 8 at most, placed since it last landed or
outstanding. -/
theorem indexHeld_iff :
    s.indexHeld = true ↔
      ∃ k j, (k < s.rep.unshown ∨ k < (s.rep.inWrite + 16 - s.rep.inRead) % 16) ∧ k < 8 ∧ j < 4 ∧
        s.wordDue (32 + 4 * ((s.rep.inWrite + 15 - k) % 8) + j) = true := by
  have hword (p : Nat) : ([0, 1, 2, 3].any fun k => s.wordDue (32 + 4 * p + k)) = true ↔
      ∃ j, j < 4 ∧ s.wordDue (32 + 4 * p + j) = true := by
    rw [List.any_eq_true]
    refine exists_congr fun j => and_congr_left fun _ => ?_
    simp only [List.mem_cons, List.not_mem_nil, or_false]
    omega
  simp only [indexHeld, covered, List.any_map, List.any_eq_true, List.mem_range, Function.comp_apply, hword, outstanding]
  constructor
  · rintro ⟨k, hk, j, hj, hdue⟩
    exact ⟨k, j, by omega, by omega, hj, hdue⟩
  · rintro ⟨k, j, hk, hk8, hj, hdue⟩
    exact ⟨k, by omega, j, hj, hdue⟩

/-- The next word is the lowest that is due, but for a write index that waits. -/
theorem nextWord_iff (o : Nat) :
    s.nextWord = some o ↔
      o ≤ 63 ∧ ¬ (27 ≤ o ∧ o ≤ 29) ∧ s.wordDue o = true ∧ (o = 30 → ¬ s.indexHeld = true) ∧
        ∀ p, p < o → ¬ (27 ≤ p ∧ p ≤ 29) → s.wordDue p = true → p = 30 ∧ s.indexHeld = true := by
  rw [nextWord, find?_eq_some_iff_least _ _ (reportOrder_ascending _), mem_reportOrder]
  constructor
  · rintro ⟨⟨hle, hgroup, hindex⟩, hdue, hleast⟩
    refine ⟨hle, hgroup, hdue, fun h => by simp [hindex h], fun p hp hpgroup hpdue => ?_⟩
    have hnot : ¬ (p = 30 → s.indexHeld = false) := fun hpindex =>
      hleast p ((mem_reportOrder _ _).mpr ⟨by omega, hpgroup, hpindex⟩) hp hpdue
    obtain ⟨h30, hheld⟩ := Classical.not_imp.mp hnot
    exact ⟨h30, by simpa using hheld⟩
  · rintro ⟨hle, hgroup, hdue, hindex, hleast⟩
    refine ⟨⟨hle, hgroup, fun h => by simpa using hindex h⟩, hdue, fun p hp hlt hpdue => ?_⟩
    obtain ⟨-, hpgroup, hpindex⟩ := (mem_reportOrder _ _).mp hp
    obtain ⟨h30, hheld⟩ := hleast p hlt hpgroup hpdue
    simp [hpindex h30] at hheld

/-! ### The values of the words (R183, R186, R187, R189, R203) -/

/-- The words 16 to 26 are the counters. -/
theorem reportValue_counter (k : Nat) (hk : k < 11) : s.reportValue (16 + k) = BitVec.ofNat 16 (s.rep.counters.getD k 0) := by
  unfold reportValue
  repeat rw [if_neg (by omega)]
  rw [if_pos (by omega), Nat.add_sub_cancel_left]

/-- The words from 32 on are the entries of the input queue, four words each. -/
theorem reportValue_entry (p j : Nat) (hp : p < 8) (hj : j < 4) :
    s.reportValue (32 + 4 * p + j) = (s.rep.entries.getD p []).getD j 0 := by
  have hentry : (32 + 4 * p + j - 32) / 4 = p := by omega
  have hword : (32 + 4 * p + j - 32) % 4 = j := by omega
  unfold reportValue
  repeat rw [if_neg (by omega)]
  rw [if_pos (by omega), hentry, hword]

/-- Each word of the block shows what its chapter says. -/
theorem reportValue_spec :
    s.reportValue 0 = s.rep.flags ∧ s.reportValue 1 = s.rep.mask ∧ s.reportValue 2 = s.rep.enable ∧ s.reportValue 3 = 0 ∧
    s.reportValue 4 = Code.done ∧
    s.reportValue 13 = (match s.rep.command with
      | .answering (a :: _ :: _) => a.val
      | _ => (s.rep.written.getD 13 none).getD 0) ∧
    s.reportValue 14 = s.summary0 ∧ s.reportValue 15 = s.summary1 ∧
    (∀ k, k < 11 → s.reportValue (16 + k) = BitVec.ofNat 16 (s.rep.counters.getD k 0)) ∧
    s.reportValue 30 = BitVec.ofNat 16 s.rep.inWrite ∧ s.reportValue 31 = BitVec.ofNat 16 s.rep.inRead ∧
    (∀ p j, p < 8 → j < 4 → s.reportValue (32 + 4 * p + j) = (s.rep.entries.getD p []).getD j 0) := by
  refine ⟨rfl, rfl, rfl, rfl, rfl, ?_, rfl, rfl, s.reportValue_counter, rfl, rfl, s.reportValue_entry⟩
  change s.rep.result = _
  unfold ReportUnit.result
  rcases s.rep.command with _ | _ | _ | _ | _ | (_ | ⟨a, _ | ⟨b, rest⟩⟩) <;> rfl

end State

end Sys2Proof.Machine
end

section
/-! PROOFS. PART_CYCLE with no host cycle (R181 to R190, R203): the landing of each requester's access. -/

namespace Sys2Proof.Machine

namespace State

variable (s : State) (c : Settings)

/-! ### A part cycle no host cycle waits for (R181) -/

/-- A requester's block takes its word without a write of its own. -/
@[simp] theorem served_memory (r : Requester) (w : Word) : (s.served r w).mem = s.mem := by
  unfold served
  split <;> simp

/-- The part cycle of a requester writes the word of its access and nothing else, and the host is not held. -/
theorem exec_partCycle_one (r : Requester) (x : Access) (h : s.takesCycle r x) :
    ∃ t, exec (.partCycle none) s = .next t ∧ t.path.hold = 0 ∧
      t.mem = (match (generalizing := false) x with | .write a v => Memory.writeLanes s.mem a v .both | .read _ => s.mem) ∧
      t = (((s.landed x).served r (s.fetched x)).setHold 0).settleLoad := by
  refine ⟨_, exec_partCycle_turn s r x h, by rw [settleLoad_path]; rfl, ?_, rfl⟩
  rw [settleLoad_memory]
  change ((s.landed x).served r (s.fetched x)).mem = _
  rw [served_memory]
  cases x <;> rfl

/-- With no access waiting the part cycle does nothing. -/
theorem exec_partCycle_nobody (hmain : s.power.main = true) (hreset : s.power.reset = false) (hwaiting : s.path.waiting = [])
    (hnone : ∀ r, s.wants r = none) :
    exec (.partCycle none) s = .next { s with path := { s.path with hold := 0 } } := by
  have hfirst : s.firstWaiting = none := List.find?_eq_none.mpr fun r _ => by simp [hnone r]
  have hgrant : s.grant = none := by simp [grant, hwaiting, hreset, hfirst]
  rw [s.exec_partCycle hmain, partCycle, hgrant]
  rfl

/-- Without an acceptance in work the landing is all a part cycle does. -/
theorem exec_partCycle_idle (r : Requester) (x : Access) (t : State) (h : s.takesCycle r x)
    (ht : (s.landed x).served r (s.fetched x) = t) (hidle : t.loader.stage = .idle) :
    exec (.partCycle none) s = .next (t.setHold 0) := by
  rw [exec_partCycle_turn s r x h, ht]
  exact congrArg Host.Outcome.next (settleLoad_idle _ hidle)

end State

/-! ### The report writer (R188 to R190) -/

/-- A command that has no access waiting of its own leaves the part cycle to the words of the block. -/
def CommandStage.LeavesBlock (k : CommandStage) : Prop :=
  k = .idle ∨ (∃ code, k = .held code) ∨ (∃ code args, k = .ready code args) ∨ (∃ code, k = .owned code)

namespace State

variable (s : State) (c : Settings)

theorem commandNext_leavesBlock (h : s.wordDue 0 = true ∨ s.rep.command.LeavesBlock) : s.commandNext.LeavesBlock := by
  cases hdue : s.wordDue 0 with
  | true => exact .inl (s.commandNext_flags hdue)
  | false =>
    rw [s.commandNext_command hdue]
    exact h.resolve_left (by simp [hdue])

theorem blockWants_of_leavesBlock (x : Access) (hcfg : s.cfg = some c) (hnext : s.commandNext.LeavesBlock)
    (h : s.reportWants = some x) : s.blockWants c = some x := by
  obtain ⟨-, hwants⟩ := s.reportWants_some x c hcfg h
  rcases hnext with hk | ⟨_, hk⟩ | ⟨_, _, hk⟩ | ⟨_, hk⟩ <;> rw [hk] at hwants <;> exact hwants

theorem reportServed_of_leavesBlock (w : Word) (hnext : s.commandNext.LeavesBlock) : s.reportServed c w = s.blockServed c w := by
  unfold reportServed
  rcases hnext with hk | ⟨_, hk⟩ | ⟨_, _, hk⟩ | ⟨_, hk⟩ <;> rw [hk]

/-- A word of the block that is written is the next one, with the value it should show. -/
theorem blockWants_write (x : Access) (o : Nat) (hword : s.nextWord = some o) (hprobe : o = 4 → s.rep.probe = false)
    (h : s.blockWants c = some x) : x = .write (c.win.report + o) (s.reportValue o) := by
  have hnot : ¬ (o = 4 ∧ s.rep.probe = true) := fun ⟨h4, hp⟩ => by simp [hprobe h4] at hp
  rw [blockWants, hword, Option.map_some, if_neg hnot] at h
  exact (Option.some.inj h).symm

theorem blockServed_write (w : Word) (o : Nat) (hword : s.nextWord = some o) (hprobe : o = 4 → s.rep.probe = false) :
    s.blockServed c w = s.wordLanded o (s.reportValue o) := by
  have hnot : ¬ (o = 4 ∧ s.rep.probe = true) := fun ⟨h4, hp⟩ => by simp [hprobe h4] at hp
  rw [blockServed, hword]
  exact if_neg hnot

/-- What a landed word leaves: its written record, the flags shown, INPUT with a write index that was waited for, and at an argument
word of the first write a free value drawn. -/
theorem wordLanded_eq (o : Nat) (v : Word) :
    s.wordLanded o v =
      { s with
        free := if 5 ≤ o ∧ o ≤ 12 then s.free + 1 else s.free
        rep :=
          if o = 0 then
            { s.rep with written := s.rep.written.set o (some v), extra := s.rep.extra.filter fun p => p != o, shown := some v }
          else if o = 30 ∧ 0 < s.rep.unshown then
            ({ s.rep with written := s.rep.written.set o (some v), extra := s.rep.extra.filter fun p => p != o, unshown := 0 } :
              ReportUnit).raised .input
          else { s.rep with written := s.rep.written.set o (some v), extra := s.rep.extra.filter fun p => p != o } } := by
  unfold wordLanded
  by_cases hflags : o = 0
  · have hfree : ¬ (5 ≤ o ∧ o ≤ 12) := by omega
    simp only [if_pos hflags, if_neg hfree]
    rfl
  · simp only [if_neg hflags]
    by_cases hindex : o = 30 ∧ 0 < s.rep.unshown
    · have hfree : ¬ (5 ≤ o ∧ o ≤ 12) := by omega
      refine (if_pos ?_).trans ?_
      · exact hindex
      · rw [if_pos hindex, if_neg hfree]
        rfl
    · refine (if_neg ?_).trans ?_
      · exact hindex
      · rw [if_neg hindex]
        by_cases hfree : 5 ≤ o ∧ o ≤ 12
        · refine (if_pos hfree).trans ?_
          rw [if_pos hfree]
          rfl
        · refine (if_neg hfree).trans ?_
          rw [if_neg hfree]
          rfl

theorem served_report (w : Word) (hcfg : s.cfg = some c) : s.served .report w = s.reportServed c w := by
  unfold served
  rw [hcfg]

/-- A part cycle in which the report writer writes a word of its block. -/
theorem exec_partCycle_word (o : Nat) (x : Access) (hcfg : s.cfg = some c) (h : s.takesCycle .report x)
    (hleaves : s.wordDue 0 = true ∨ s.rep.command.LeavesBlock) (hword : s.nextWord = some o)
    (hprobe : o = 4 → s.rep.probe = false) :
    x = .write (c.win.report + o) (s.reportValue o) ∧
    exec (.partCycle none) s =
      .next (((s.poke (c.win.report + o) (s.reportValue o)).wordLanded o (s.reportValue o)).setHold 0).settleLoad := by
  have hnext := s.commandNext_leavesBlock hleaves
  have hx := s.blockWants_write c x o hword hprobe (s.blockWants_of_leavesBlock c x hcfg hnext h.2.2.2.1)
  subst hx
  refine ⟨rfl, ?_⟩
  rw [exec_partCycle_turn s .report _ h]
  have hserved := served_report (s.poke (c.win.report + o) (s.reportValue o)) c 0 hcfg
  have hblock := reportServed_of_leavesBlock (s.poke (c.win.report + o) (s.reportValue o)) c 0 hnext
  have hwrite := blockServed_write (s.poke (c.win.report + o) (s.reportValue o)) c 0 o hword hprobe
  exact congrArg (fun t => Host.Outcome.next (t.setHold 0).settleLoad) (hserved.trans (hblock.trans hwrite))

end State

end Sys2Proof.Machine
end

section
/-! PROOFS. PART_CYCLE makes one access, or none (R181 to R190, R203): the command in work, the other requesters, and the statement. -/

namespace Sys2Proof.Machine

namespace State

variable (s : State) (c : Settings)

/-! ### The command in work as a requester (R190) -/

/-- A part cycle in which the report writer reads an argument word. -/
theorem exec_partCycle_argument (code : CommandCode) (got : List Word) (x : Access) (hcfg : s.cfg = some c)
    (h : s.takesCycle .report x) (hflags : s.wordDue 0 = false) (hcommand : s.rep.command = .fetching code got) :
    x = .read (c.win.report + (5 + got.length)) ∧
    exec (.partCycle none) s =
      .next ((s.takeArgument code (got ++ [s.peek (c.win.report + (5 + got.length))])).setHold 0).settleLoad := by
  have hnext : s.commandNext = .fetching code got := (s.commandNext_command hflags).trans hcommand
  obtain ⟨-, hwants⟩ := s.reportWants_some x c hcfg h.2.2.2.1
  rw [hnext] at hwants
  obtain rfl : Access.read (c.win.report + (5 + got.length)) = x := Option.some.inj hwants
  refine ⟨rfl, ?_⟩
  rw [exec_partCycle_turn s .report _ h]
  have hserved (w : Word) : s.reportServed c w = s.takeArgument code (got ++ [w]) := by
    unfold reportServed
    rw [hnext]
  exact congrArg (fun t => Host.Outcome.next (t.setHold 0).settleLoad) ((s.served_report c _ hcfg).trans (hserved _))

/-- A part cycle in which the report writer writes a word of a command's answer. -/
theorem exec_partCycle_answer (a : Acc) (rest : List Acc) (x : Access) (hcfg : s.cfg = some c)
    (h : s.takesCycle .report x) (hflags : s.wordDue 0 = false) (hcommand : s.rep.command = .answering (a :: rest)) :
    x = .write a.addr a.val ∧
    exec (.partCycle none) s =
      .next (((if rest = [] then (s.poke a.addr a.val).commandLanded
        else (s.poke a.addr a.val).resultLanded a.val rest).setHold 0).settleLoad) := by
  have hnext : s.commandNext = .answering (a :: rest) := (s.commandNext_command hflags).trans hcommand
  obtain ⟨-, hwants⟩ := s.reportWants_some x c hcfg h.2.2.2.1
  rw [hnext] at hwants
  obtain rfl : Access.write a.addr a.val = x := Option.some.inj hwants
  refine ⟨rfl, ?_⟩
  rw [exec_partCycle_turn s .report _ h]
  have hserved := served_report (s.poke a.addr a.val) c 0 hcfg
  have hanswer := reportServed_answering (s.poke a.addr a.val) c 0 a rest hflags hcommand
  exact congrArg (fun t => Host.Outcome.next (t.setHold 0).settleLoad) (hserved.trans hanswer)

/-! ### Screens and announcer (R131, R149) -/

end State

/-- A screen channel keeps the fetched word; with the 32nd its line fetch is over. -/
theorem Scan.served_eq (x : Scan) (w : Word) :
    x.served w =
      { x with
        fill := x.fill ++ [w]
        fetch := if x.fill.length < 31 then x.fetch else none
        urgent := if x.fill.length < 31 then x.urgent else false } := by
  unfold Scan.served
  by_cases h : x.fill.length < 31
  · have hmore : (x.fill ++ [w]).length < 32 := by rw [List.length_append, List.length_singleton]; omega
    rw [if_pos h, if_pos h]
    exact if_pos hmore
  · have hfull : ¬ (x.fill ++ [w]).length < 32 := by rw [List.length_append, List.length_singleton]; omega
    rw [if_neg h, if_neg h]
    exact if_neg hfull

namespace State

variable (s : State) (c : Settings)

/-- A playing announcement with more samples to fetch puts both bytes of the word into its FIFO and goes on to the next word. -/
theorem annServed_samples (n : Announcement) (a left : Nat) (w : Word) (hcfg : s.cfg = some c) (hcurrent : s.ann.current = some n)
    (hplaying : n.playing = true) (hfetch : n.fetch = .samples a left) (hleft : 2 < left) :
    s.annServed w =
      { s with ann := { s.ann with
          fifo := s.ann.fifo ++ [hiByte w, loByte w]
          current := some { n with fetch := .samples (a + 1) (left - 2) } } } := by
  have htwo : 2 ≤ left := by omega
  unfold annServed
  rw [hcfg, hcurrent]
  dsimp only
  rw [hfetch]
  dsimp only
  rw [if_pos htwo, if_pos hleft]
  unfold annAdvance
  simp [hplaying, modAnn, hcfg]

/-- A waiting read of the announcer's is one under a descriptor. -/
theorem cfg_of_annWants (a : Nat) (h : s.annWants = some a) : ∃ c, s.cfg = some c := by
  unfold annWants at h
  split at h
  next c _ hcfg _ => exact ⟨c, hcfg⟩
  next => exact absurd h (by simp)

/-! ### Intake job and issue unit (R7, R60, R61) -/

/-- An intake job that is idle, while no load is in work, fetches the slot at the head of its FIFO, if there is one. -/
theorem intakeNext_unloaded (hcfg : s.cfg = some c) (hidle : s.loader.stage = .idle) (hstage : s.intake.stage = .idle) :
    s.intakeNext = s.modIntake fun j => { j with stage := if s.intake.fifo = [] then .idle else .fetching [] } := by
  rw [intakeNext_eq]
  refine congrArg (fun g => s.modIntake fun j => { j with stage := g }) ?_
  cases hfifo : s.intake.fifo with
  | nil =>
    unfold intakeNext
    rw [hcfg, hfifo]
    exact hstage
  | cons slot rest =>
    rw [s.intakeNext_stage c hcfg (by rw [hidle]; rfl) slot rest hfifo, hstage, hidle]
    exact if_pos ⟨rfl, rfl⟩

/-- The same of the issue unit. -/
theorem issueGoOn_unloaded (hcfg : s.cfg = some c) (hidle : s.loader.stage = .idle) (hstage : s.issue.stage = .idle) :
    s.issueGoOn = s.modIssue fun u => { u with stage := if s.issue.fifo = [] then .idle else .fetching [] } := by
  by_cases hfifo : s.issue.fifo = []
  · have hsame : s.issueGoOn = s := by
      unfold issueGoOn issueNext
      rw [hcfg, hfifo]
      exact ite_self _
    rw [hsame, if_pos hfifo]
    exact congrArg (fun g => s.modIssue fun u => { u with stage := g }) hstage
  · rw [s.issueGoOn_eq c hcfg (by rw [hidle]; rfl) hfifo, if_neg hfifo, hstage, hidle]
    exact congrArg (fun g => s.modIssue fun u => { u with stage := g }) (if_pos ⟨rfl, rfl, rfl⟩)

/-- A slot's answer has landed: the next slot of the FIFO is fetched, if there is one. -/
theorem intakeLanded_eq (slot : Nat) (hcfg : s.cfg = some c) (hidle : s.loader.stage = .idle) :
    s.intakeLanded slot =
      { s with
        path := { s.path with intake := s.path.intake.set slot .clear }
        intake := { fifo := s.intake.fifo.tail, stage := if s.intake.fifo.tail = [] then .idle else .fetching [] }
        rep := s.rep.raised .intake } :=
  intakeNext_unloaded _ c hcfg hidle rfl

/-- No quote was voided while its QUOTED write was waiting. -/
theorem showVoided_of_not_voided (slot : Nat) (h : ∀ q why, s.issue.records.getD slot .empty ≠ .voided q why) :
    s.showVoided slot = s := by
  unfold showVoided
  split
  next c q why _ hrecord => exact absurd hrecord (h q why)
  next => rfl

/-- A sale slot's answer has landed, and no quote of the slot was voided meanwhile. -/
theorem saleLanded_eq (slot : Nat) (hcfg : s.cfg = some c) (hidle : s.loader.stage = .idle)
    (hvoided : ∀ q why, s.issue.records.getD slot .empty ≠ .voided q why) :
    s.saleLanded slot =
      { s with
        path := { s.path with sale := s.path.sale.set slot .clear }
        issue := { s.issue with
          fifo := s.issue.fifo.tail, stage := if s.issue.fifo.tail = [] then .idle else .fetching [] }
        rep := s.rep.raised .sale } := by
  unfold saleLanded
  rw [showVoided_of_not_voided _ slot (by exact hvoided)]
  exact issueGoOn_unloaded _ c hcfg hidle rfl

theorem served_intake (w : Word) (hcfg : s.cfg = some c) : s.served .intake w = s.intakeServed c w := by
  unfold served
  rw [hcfg]

theorem issueServed_last (w : Word) (a : Acc) (haccs : s.issue.accs = [a]) :
    s.issueServed w = (s.modIssue fun u => { u with accs := [] }).land a.land := by
  unfold issueServed
  rw [haccs]

theorem intakeServed_last (w : Word) (a : Acc) (hstage : s.intake.stage = .answering [a]) :
    s.intakeServed c w = (s.modIntake fun j => { j with stage := .answering [] }).land a.land := by
  unfold intakeServed
  rw [hstage]

theorem loaderServed_last (w : Word) (a : Acc) (haccs : s.loader.accs = [a]) :
    s.loaderServed w = (s.modLoader fun l => { l with accs := [] }).land a.land := by
  unfold loaderServed
  rw [haccs]

/-! ### A part cycle while no load is in work -/

/-- The other requesters while no load is in work: what the landing of a fetched word or of the last write of an answer brings. -/
theorem exec_partCycle_unloaded (hmain : s.power.main = true) (hreset : s.power.reset = false) (hwaiting : s.path.waiting = [])
    (hidle : s.loader.stage = .idle) :
    (∀ a, s.turnOf .screenA (.read a) →
      exec (.partCycle none) s = .next
        { s with
          scrA := { s.scrA with
            fill := s.scrA.fill ++ [s.peek a]
            fetch := if s.scrA.fill.length < 31 then s.scrA.fetch else none
            urgent := if s.scrA.fill.length < 31 then s.scrA.urgent else false }
          path := { s.path with hold := 0 } }) ∧
    (∀ a, s.turnOf .screenB (.read a) →
      exec (.partCycle none) s = .next
        { s with
          scrB := { s.scrB with
            fill := s.scrB.fill ++ [s.peek a]
            fetch := if s.scrB.fill.length < 31 then s.scrB.fetch else none
            urgent := if s.scrB.fill.length < 31 then s.scrB.urgent else false }
          path := { s.path with hold := 0 } }) ∧
    (∀ a n left, s.turnOf .announcer (.read a) → s.ann.current = some n → n.playing = true → n.fetch = .samples a left → 2 < left →
      exec (.partCycle none) s = .next
        { s with
          ann := { s.ann with
            fifo := s.ann.fifo ++ [hiByte (s.peek a), loByte (s.peek a)]
            current := some { n with fetch := .samples (a + 1) (left - 2) } }
          path := { s.path with hold := 0 } }) ∧
    (∀ (c : Settings) (a : Acc) (slot : Nat), s.cfg = some c → s.intake.stage = .answering [a] → a.land = .intakePost slot →
      s.turnOf .intake (.write a.addr a.val) →
      exec (.partCycle none) s = .next
        { s with
          mem := Memory.writeLanes s.mem a.addr a.val .both
          path := { s.path with intake := s.path.intake.set slot .clear, hold := 0 }
          intake := { fifo := s.intake.fifo.tail, stage := if s.intake.fifo.tail = [] then .idle else .fetching [] }
          rep := s.rep.raised .intake }) ∧
    (∀ (c : Settings) (a : Acc) (slot : Nat), s.cfg = some c → s.issue.accs = [a] → a.land = .salePost slot →
      (∀ q why, s.issue.records.getD slot .empty ≠ .voided q why) → s.turnOf .issue (.write a.addr a.val) →
      exec (.partCycle none) s = .next
        { s with
          mem := Memory.writeLanes s.mem a.addr a.val .both
          path := { s.path with sale := s.path.sale.set slot .clear, hold := 0 }
          issue := { s.issue with
            accs := [], fifo := s.issue.fifo.tail, stage := if s.issue.fifo.tail = [] then .idle else .fetching [] }
          rep := s.rep.raised .sale }) ∧
    (∀ a : Acc, s.loader.accs = [a] → a.land = .accepted ∨ a.land = .rejected → s.turnOf .loader (.write a.addr a.val) →
      exec (.partCycle none) s = .next
        { s with
          mem := Memory.writeLanes s.mem a.addr a.val .both
          path := { s.path with load := .clear, hold := 0 }
          loader := { s.loader with accs := [], state := if s.cfg.isSome = true then .configured else .unconfigured }
          rep := s.rep.raised .config }) := by
  refine ⟨fun a hturn => ?_, fun a hturn => ?_, fun a n left hturn hcurrent hplaying hfetch hleft => ?_,
    fun c a slot hcfg hstage hland hturn => ?_, fun c a slot hcfg haccs hland hvoided hturn => ?_,
    fun a haccs hland hturn => ?_⟩
  · exact s.exec_partCycle_idle .screenA _ _ ⟨hmain, hreset, hwaiting, hturn⟩
      (congrArg (fun x => ({ s with scrA := x } : State)) (s.scrA.served_eq _)) hidle
  · exact s.exec_partCycle_idle .screenB _ _ ⟨hmain, hreset, hwaiting, hturn⟩
      (congrArg (fun x => ({ s with scrB := x } : State)) (s.scrB.served_eq _)) hidle
  · have hannounce : s.annWants = some a := by
      obtain ⟨a', ha', he⟩ := Option.map_eq_some_iff.mp hturn.1
      rw [ha', Access.read.inj he]
    obtain ⟨c, hcfg⟩ := s.cfg_of_annWants a hannounce
    exact s.exec_partCycle_idle .announcer _ _ ⟨hmain, hreset, hwaiting, hturn⟩
      (s.annServed_samples c n a left _ hcfg hcurrent hplaying hfetch hleft) hidle
  · have hserved := (served_intake (s.poke a.addr a.val) c 0 hcfg).trans (intakeServed_last (s.poke a.addr a.val) c 0 a hstage)
    rw [hland] at hserved
    exact s.exec_partCycle_idle .intake _ _ ⟨hmain, hreset, hwaiting, hturn⟩
      (hserved.trans (intakeLanded_eq _ c slot hcfg hidle)) hidle
  · have hserved := issueServed_last (s.poke a.addr a.val) 0 a haccs
    rw [hland] at hserved
    exact s.exec_partCycle_idle .issue _ _ ⟨hmain, hreset, hwaiting, hturn⟩
      (hserved.trans (saleLanded_eq _ c slot hcfg hidle hvoided)) hidle
  · refine s.exec_partCycle_idle .loader _ (((s.poke a.addr a.val).modLoader fun l => { l with accs := [] }).loadLanded)
      ⟨hmain, hreset, hwaiting, hturn⟩ ((loaderServed_last (s.poke a.addr a.val) _ a haccs).trans ?_) hidle
    rcases hland with hland | hland <;> rw [hland] <;> rfl

end State

/-- Settles O26: each part cycle makes the one access of the requester whose turn it is, or none; the words of the block go in
ascending order but for a write index that waits, and the landing brings about what the requester's chapter says. -/
theorem partCycleMakesOneAccess : Obligations.PartCycleMakesOneAccess := by
  unfold Obligations.PartCycleMakesOneAccess
  intro s hmain hreset hwaiting
  have htake {r : Requester} {x : Access} (hturn : s.turnOf r x) : s.takesCycle r x := ⟨hmain, hreset, hwaiting, hturn⟩
  have hundue {P : Prop} (hP : ¬ P) (hiff : s.wordDue 0 = true ↔ P) : s.wordDue 0 = false :=
    Bool.eq_false_iff.mpr fun hdue => hP (hiff.mp hdue)
  refine ⟨fun r x hturn => s.exec_partCycle_one r x (htake hturn), s.exec_partCycle_nobody hmain hreset hwaiting, ?_,
    s.exec_partCycle_unloaded hmain hreset hwaiting⟩
  have hnext := s.nextWord_iff
  simp only [s.indexHeld_iff, s.wordDue_iff] at hnext
  refine ⟨hnext, s.reportValue_spec, ?_, ?_, ?_, ?_⟩
  · intro c o x hcfg hturn hleaves hword hprobe
    obtain ⟨hx, hexec⟩ :=
      s.exec_partCycle_word c o x hcfg (htake hturn) (hleaves.imp_left (s.wordDue_iff 0).mpr) hword hprobe
    exact ⟨hx, hexec.trans (congrArg (fun t => Host.Outcome.next (t.setHold 0).settleLoad) (State.wordLanded_eq _ o _))⟩
  · intro c code got x hcfg hturn hflags hcommand
    exact s.exec_partCycle_argument c code got x hcfg (htake hturn) (hundue hflags (s.wordDue_iff 0)) hcommand
  · intro c a b rest x hcfg hturn hflags hcommand
    exact s.exec_partCycle_answer c a (b :: rest) x hcfg (htake hturn) (hundue hflags (s.wordDue_iff 0)) hcommand
  · intro hidle c a x hcfg hturn hflags hcommand
    obtain ⟨hx, hexec⟩ := s.exec_partCycle_answer c a [] x hcfg (htake hturn) (hundue hflags (s.wordDue_iff 0)) hcommand
    exact ⟨hx, hexec.trans (congrArg Host.Outcome.next (State.settleLoad_idle _ hidle))⟩

end Sys2Proof.Machine
end

section
/-! PROOFS. The selection machine (R101 to R109): what a change of the selection leaves, and the leave deadline along the machine's
events. -/

namespace Sys2Proof.Machine

namespace State

variable (s : State) (c : Settings)

/-! ### A change of the selection (R101) -/

/-- The leave deadline alone is brought up to date. -/
theorem syncLeave_eq (entered : Bool) :
    s.syncLeave entered = s.modSel fun m => { m with leave := (s.syncLeave entered).sel.leave } := by
  unfold syncLeave
  repeat' split
  all_goals rfl

/-- The selection put in place is the new one, but for its leave deadline. -/
theorem setSel_sel_eq (new : Selection) : (s.setSel new).sel = { new with leave := (s.setSel new).sel.leave } := by
  rw [(setSel_sel (s := s) new).1, syncLeave_eq]
  rfl

theorem setMode_dests (m : Mode) : (s.setMode m).panel.dests = s.panel.dests := by
  unfold setMode
  split
  · rfl
  · simp only [modAnn_panel, modPanel_panel, (boardMode_sel (s := s.modAct fun a => { a with mode := m }) s.act.mode m).2]
    split <;> rfl

theorem activityEvent_dests : s.activityEvent.panel.dests = s.panel.dests := by
  unfold activityEvent
  split
  · exact setMode_dests _ _
  · rfl

/-- A change of the selection leaves the destination list. -/
theorem setSel_dests (new : Selection) : (s.setSel new).panel.dests = s.panel.dests := by
  have hsync := ((s.modSel fun _ => new).syncLeave_panel (s.sel.state != new.state))
  unfold setSel
  dsimp only
  repeat' split
  all_goals simp only [activityEvent_dests, fareEvent_sel, markRows_panel, hsync, modSel_panel]

/-- The first choice turns on the table, the battery domain and the destination list. -/
theorem firstChoice_congr {s t : State} (hfront : Front s t) (hdests : t.panel.dests = s.panel.dests) :
    t.firstChoice c = s.firstChoice c := by
  unfold firstChoice
  rw [hfront.table, hfront.bat, hdests]

/-! ### The leave deadline (R107) -/

/-- From `s` to `t` the leave deadline follows the selection: it stands where the state does, and is set anew or taken away where
another state is entered. -/
def LeaveFollows (t : State) : Prop :=
  (t.sel.state = s.sel.state → s.LeaveKept → t.sel.leave = s.sel.leave) ∧
  (t.sel.state ≠ s.sel.state →
    (t.sel.state.leavable → ¬ s.near → t.sel.leave = some (s.clk.upSec + c.panel.leave)) ∧
    (s.near ∨ ¬ t.sel.state.leavable → t.sel.leave = none))

theorem LeaveFollows.refl : s.LeaveFollows c s := ⟨fun _ _ => rfl, fun h => absurd rfl h⟩

/-- Passengers are near as the channels say. -/
theorem near_congr {s t : State} (h : t.panel.chans = s.panel.chans) : t.near ↔ s.near := by
  unfold near
  rw [h]

/-- A new selection with the old deadline gets the deadline that belongs to it. -/
theorem setSel_leaveFollows (hcfg : s.cfg = some c) (new : Selection) (hleave : new.leave = s.sel.leave) :
    s.LeaveFollows c (s.setSel new) := by
  have hsel := (setSel_sel (s := s) new).1
  have hstate : (s.setSel new).sel.state = new.state := by rw [setSel_sel_eq]
  have hentered : (s.sel.state != new.state) = true ↔ new.state ≠ s.sel.state := by rw [bne_iff_ne, ne_comm]
  refine ⟨fun hsame hkept => ?_, fun hother => ⟨fun hleavable hfar => ?_, fun hnone => ?_⟩⟩
  · rw [hstate] at hsame
    have hno : (s.sel.state != new.state) = false := by rw [hsame]; exact bne_self_eq_false _
    rw [hsel, hno]
    obtain ⟨hin, hout⟩ := hkept
    by_cases hleavable : s.sel.state.leavable
    · by_cases hnear : s.near
      · rw [syncLeave_none false (s := s.modSel fun _ => new) hcfg (.inl hnear)]
        exact ((hin hleavable).mpr hnear).symm
      · obtain ⟨d, hd⟩ := Option.ne_none_iff_exists'.mp fun hnone => hnear ((hin hleavable).mp hnone)
        rw [syncLeave_keep (s := s.modSel fun _ => new) d hcfg (by rw [modSel_sel, hsame]; exact hleavable) hnear (hleave.trans hd)]
        exact hleave
    · rw [syncLeave_none false (s := s.modSel fun _ => new) hcfg (.inr (by rw [modSel_sel, hsame]; exact hleavable))]
      exact (hout hleavable).symm
  · rw [hstate] at hother hleavable
    rw [hsel, hentered.mpr hother, syncLeave_set (s := s.modSel fun _ => new) true hcfg hleavable hfar (.inl rfl)]
    rfl
  · rw [hstate] at hother hnone
    rw [hsel, hentered.mpr hother, syncLeave_none (s := s.modSel fun _ => new) true hcfg hnone]

/-- A deadline kept as it should be is kept so by a change of the selection. -/
theorem setSel_leaveKept (hcfg : s.cfg = some c) (new : Selection) : (s.setSel new).LeaveKept := by
  obtain ⟨hsel, hchans⟩ := setSel_sel (s := s) new
  refine (LeaveKept.sync (s := s.modSel fun _ => new) (c := c) (s.sel.state != new.state) hcfg).congr hsel ?_
  rw [hchans, syncLeave_panel]
  rfl

/-- From a state without a leave deadline, what follows the entry of another state keeps the rule. -/
theorem LeaveFollows.trans {s u t : State} (hsu : s.LeaveFollows c u) (hut : u.LeaveFollows c t) (hkept : u.LeaveKept)
    (hnear : u.near ↔ s.near) (hsec : u.clk.upSec = s.clk.upSec) (hleft : u.sel.state ≠ s.sel.state)
    (hend : t.sel.state ≠ s.sel.state) : s.LeaveFollows c t := by
  refine ⟨fun hsame => absurd hsame hend, fun _ => ?_⟩
  by_cases hstays : t.sel.state = u.sel.state
  · rw [hut.1 hstays hkept, hstays]
    exact hsu.2 hleft
  · have hentered := hut.2 hstays
    rw [hnear, hsec] at hentered
    exact hentered

end State

end Sys2Proof.Machine
end

section
/-! PROOFS. The selection machine's events, state by state (R102 to R106, R109). -/

namespace Sys2Proof.Machine

namespace State

variable (s : State) (c : Settings)

/-! ### Events as changes of the selection -/

theorem selEvent_idle (ev : SelEvent) (hcfg : s.cfg = some c) (h : s.sel.state = .idle) :
    s.selEvent ev = if ev = .absence then s else s.selWake := by
  unfold selEvent
  rw [hcfg, h]

theorem selEvent_browse (ev : SelEvent) (hcfg : s.cfg = some c) (h : s.sel.state = .browse) :
    s.selEvent ev = s.selBrowse c ev := by
  unfold selEvent
  rw [hcfg, h]

theorem selEvent_choose (ev : SelEvent) (hcfg : s.cfg = some c) (h : s.sel.state = .choose) :
    s.selEvent ev = s.selChoose ev := by
  unfold selEvent
  rw [hcfg, h]

theorem selEvent_confirm (ev : SelEvent) (hcfg : s.cfg = some c) (h : s.sel.state = .confirm) :
    s.selEvent ev = s.selConfirm c ev := by
  unfold selEvent
  rw [hcfg, h]

theorem selEvent_handed (ev : SelEvent) (hcfg : s.cfg = some c) (h : s.sel.state = .handed) :
    s.selEvent ev = s.selHanded c ev := by
  unfold selEvent
  rw [hcfg, h]

/-- A destination list from which a stop is wanted: the next higher, or the next lower when none is higher (R109). -/
theorem nearestIn_eq (l : List Nat) (x : Nat) :
    nearestIn l x =
      if l.any (fun y => decide (x < y)) = true then l.find? (fun y => decide (x < y))
      else (l.filter fun y => decide (y < x)).getLast? := by
  unfold nearestIn
  cases hfind : l.find? (fun y => decide (x < y)) with
  | some y =>
    have hany : l.any (fun y => decide (x < y)) = true :=
      List.any_eq_true.mpr ⟨y, List.mem_of_find?_eq_some hfind, List.find?_some (p := fun y => decide (x < y)) hfind⟩
    rw [if_pos hany]
  | none =>
    have hno : ¬ l.any (fun y => decide (x < y)) = true := fun hany => by
      obtain ⟨y, hmem, hy⟩ := List.any_eq_true.mp hany
      exact List.find?_eq_none.mp hfind y hmem hy
    rw [if_neg hno]

/-- In CONFIRM the adjustment goes back to CHOOSE without a list, and else puts the cursor on a stop of the list (R109). -/
theorem adjustSel_confirm (h : s.sel.state = .confirm) :
    s.adjustSel c =
      if s.panel.dests = [] then s.setSel { s.sel with state := .choose, cursor := none, product := .single }
      else match s.sel.cursor with
        | none => s.setSel { s.sel with cursor := s.firstChoice c }
        | some x => if x ∈ s.panel.dests then s else s.setSel { s.sel with cursor := nearestIn s.panel.dests x } := by
  unfold adjustSel
  rw [h]
  dsimp only
  rw [ite_congr_iff List.isEmpty_iff rfl rfl]
  refine ite_congr_iff Iff.rfl rfl ?_
  cases s.sel.cursor with
  | none => rfl
  | some x => exact ite_congr_iff List.contains_iff_mem rfl rfl

/-- The adjustment in CONFIRM keeps the rule of the leave deadline. -/
theorem adjustSel_leaveFollows (hcfg : s.cfg = some c) (h : s.sel.state = .confirm) : s.LeaveFollows c (s.adjustSel c) := by
  rw [s.adjustSel_confirm c h]
  split
  · exact s.setSel_leaveFollows c hcfg _ rfl
  · split
    · exact s.setSel_leaveFollows c hcfg _ rfl
    · split
      · exact .refl s c
      · exact s.setSel_leaveFollows c hcfg _ rfl

/-- The adjustment in CONFIRM ends in CONFIRM or in CHOOSE, with the handed deadline it had. -/
theorem adjustSel_confirm_sel (h : s.sel.state = .confirm) :
    (s.adjustSel c).sel.handed = s.sel.handed ∧
    (s.panel.dests = [] → (s.adjustSel c).sel.state = .choose ∧ (s.adjustSel c).sel.cursor = none ∧
      (s.adjustSel c).sel.product = .single) ∧
    (s.panel.dests ≠ [] → (s.adjustSel c).sel.state = .confirm ∧ (s.adjustSel c).sel.product = s.sel.product ∧
      (s.adjustSel c).sel.cursor =
        match s.sel.cursor with
        | none => s.firstChoice c
        | some x =>
          if x ∈ s.panel.dests then some x
          else if s.panel.dests.any (fun y => decide (x < y)) = true then s.panel.dests.find? (fun y => decide (x < y))
          else (s.panel.dests.filter fun y => decide (y < x)).getLast?) := by
  rw [s.adjustSel_confirm c h]
  by_cases hempty : s.panel.dests = []
  · rw [if_pos hempty, setSel_sel_eq]
    exact ⟨rfl, fun _ => ⟨rfl, rfl, rfl⟩, fun hne => absurd hempty hne⟩
  · rw [if_neg hempty]
    cases hcursor : s.sel.cursor with
    | none =>
      dsimp only
      rw [setSel_sel_eq]
      exact ⟨rfl, fun he => absurd he hempty, fun _ => ⟨h, rfl, rfl⟩⟩
    | some x =>
      dsimp only
      rw [← nearestIn_eq]
      by_cases hmem : x ∈ s.panel.dests
      · rw [if_pos hmem, if_pos hmem]
        exact ⟨rfl, fun he => absurd he hempty, fun _ => ⟨h, rfl, hcursor⟩⟩
      · rw [if_neg hmem, if_neg hmem, setSel_sel_eq]
        exact ⟨rfl, fun he => absurd he hempty, fun _ => ⟨h, rfl, rfl⟩⟩

/-! ### BROWSE, CHOOSE and CONFIRM (R103 to R105) -/

theorem selBrowse_leaveFollows (ev : SelEvent) (hcfg : s.cfg = some c) : s.LeaveFollows c (s.selBrowse c ev) := by
  have hset (new : Selection) (hleave : new.leave = s.sel.leave) := s.setSel_leaveFollows c hcfg new hleave
  cases ev with
  | swipeFwd => exact hset _ rfl
  | swipeBack => exact hset _ rfl
  | back => exact hset _ rfl
  | ok => exact hset _ rfl
  | tap => exact hset _ rfl
  | hold => exact .refl s c
  | presence => exact .refl s c
  | absence => exact .refl s c

theorem chooseForward_leaveFollows (hcfg : s.cfg = some c) : s.LeaveFollows c s.chooseForward := by
  unfold chooseForward
  split
  · exact .refl s c
  · exact s.setSel_leaveFollows c hcfg _ rfl

/-- A swipe in CHOOSE: the cursor goes to a stop, or nothing happens at the end of the list. -/
def cursorTo (m : Option Nat) : State :=
  match m with
  | some y => s.setSel { s.sel with cursor := some y }
  | none => s

theorem selChoose_swipeFwd :
    s.selChoose .swipeFwd = s.cursorTo (s.sel.cursor.bind fun x => s.panel.dests.find? fun y => decide (x < y)) := rfl

theorem selChoose_swipeBack :
    s.selChoose .swipeBack = s.cursorTo (s.sel.cursor.bind fun x => (s.panel.dests.filter fun y => decide (y < x)).getLast?) := rfl

theorem cursorTo_leaveFollows (hcfg : s.cfg = some c) (m : Option Nat) : s.LeaveFollows c (s.cursorTo m) := by
  cases m with
  | none => exact .refl s c
  | some y => exact s.setSel_leaveFollows c hcfg _ rfl

theorem selChoose_leaveFollows (ev : SelEvent) (hcfg : s.cfg = some c) : s.LeaveFollows c (s.selChoose ev) := by
  have hset (new : Selection) (hleave : new.leave = s.sel.leave) := s.setSel_leaveFollows c hcfg new hleave
  cases ev with
  | swipeFwd => exact s.cursorTo_leaveFollows c hcfg _
  | swipeBack => exact s.cursorTo_leaveFollows c hcfg _
  | ok => exact s.chooseForward_leaveFollows c hcfg
  | tap => exact s.chooseForward_leaveFollows c hcfg
  | back => exact hset _ rfl
  | hold => exact .refl s c
  | presence => exact .refl s c
  | absence => exact .refl s c

/-- An input event beside it changes nothing of the rule. -/
theorem pushInput_setSel_leaveFollows (k : InputKind) (d : Option Nat) (p : Product) (fare : Nat) (hcfg : s.cfg = some c)
    (new : Selection) (hleave : new.leave = s.sel.leave) : s.LeaveFollows c ((s.pushInput k d p fare).setSel new) := by
  rw [pushInput_eq]
  exact setSel_leaveFollows { s with rep := s.rep.tookInput k d p fare s.clk.upSec } c hcfg new hleave

theorem selConfirm_leaveFollows (ev : SelEvent) (hcfg : s.cfg = some c) : s.LeaveFollows c (s.selConfirm c ev) := by
  have hset (new : Selection) (hleave : new.leave = s.sel.leave) := s.setSel_leaveFollows c hcfg new hleave
  have hforward : s.LeaveFollows c (s.confirmForward c) := s.pushInput_setSel_leaveFollows c _ _ _ _ hcfg _ rfl
  cases ev with
  | swipeFwd => exact hset _ rfl
  | swipeBack => exact hset _ rfl
  | ok => exact hforward
  | tap => exact hforward
  | back => exact hset _ rfl
  | hold => exact .refl s c
  | presence => exact .refl s c
  | absence => exact .refl s c

/-! ### HANDED (R106) -/

/-- The selection on its way back from HANDED, before it is adjusted to the list. -/
def handedBack : State :=
  (s.pushInput .unselect s.sel.cursor s.sel.product 0).setSel { s.sel with state := .confirm, handed := none }

theorem handedBack_sel : s.handedBack.sel = { s.sel with state := .confirm, handed := none, leave := s.handedBack.sel.leave } :=
  setSel_sel_eq _ _

theorem handedBack_front : Front s s.handedBack := (Front.pushInput _ _ _ _ (.refl s)).setSel _

theorem handedBack_dests : s.handedBack.panel.dests = s.panel.dests := by
  unfold handedBack
  rw [setSel_dests, pushInput_eq]

theorem handedBack_chans : s.handedBack.panel.chans = s.panel.chans := by
  unfold handedBack
  rw [(setSel_sel _).2, pushInput_eq]

theorem handedBack_rep :
    s.handedBack.rep = s.rep.tookInput .unselect s.sel.cursor s.sel.product 0 s.clk.upSec := by
  unfold handedBack
  rw [setSel_rep, pushInput_eq]

/-- BACK in HANDED keeps the rule of the leave deadline: HANDED has none, and where it comes to has one if no passenger is near. -/
theorem handedBack_adjusted_leaveFollows (hcfg : s.cfg = some c) (h : s.sel.state = .handed) :
    s.LeaveFollows c (s.handedBack.adjustSel c) := by
  have hcfg' : s.handedBack.cfg = some c := s.handedBack_front.cfg.trans hcfg
  have hconfirm : s.handedBack.sel.state = .confirm := by rw [handedBack_sel]
  have hfollows : s.LeaveFollows c s.handedBack := s.pushInput_setSel_leaveFollows c _ _ _ _ hcfg _ rfl
  have hkept : s.handedBack.LeaveKept :=
    setSel_leaveKept _ c ((Front.pushInput _ _ _ _ (.refl s)).cfg.trans hcfg) _
  obtain ⟨-, hnone, hsome⟩ := s.handedBack.adjustSel_confirm_sel c hconfirm
  refine hfollows.trans c (adjustSel_leaveFollows _ c hcfg' hconfirm) hkept (near_congr s.handedBack_chans)
    (by rw [s.handedBack_front.clk]) (by rw [hconfirm, h]; exact nofun) ?_
  rw [h]
  by_cases hempty : s.handedBack.panel.dests = []
  · rw [(hnone hempty).1]
    exact nofun
  · rw [(hsome hempty).1]
    exact nofun

/-! ### The events together -/

/-- An event keeps the rule of the leave deadline, whatever the state (R107). -/
theorem selEvent_leaveFollows (ev : SelEvent) (hcfg : s.cfg = some c) : s.LeaveFollows c (s.selEvent ev) := by
  cases hstate : s.sel.state with
  | idle =>
    rw [s.selEvent_idle c ev hcfg hstate]
    split
    · exact .refl s c
    · exact s.setSel_leaveFollows c hcfg _ rfl
  | browse =>
    rw [s.selEvent_browse c ev hcfg hstate]
    exact s.selBrowse_leaveFollows c ev hcfg
  | choose =>
    rw [s.selEvent_choose c ev hcfg hstate]
    exact s.selChoose_leaveFollows c ev hcfg
  | confirm =>
    rw [s.selEvent_confirm c ev hcfg hstate]
    exact s.selConfirm_leaveFollows c ev hcfg
  | handed =>
    rw [s.selEvent_handed c ev hcfg hstate]
    cases ev with
    | back => exact s.handedBack_adjusted_leaveFollows c hcfg hstate
    | swipeFwd => exact .refl s c
    | swipeBack => exact .refl s c
    | ok => exact .refl s c
    | tap => exact .refl s c
    | hold => exact .refl s c
    | presence => exact .refl s c
    | absence => exact .refl s c

end State

end Sys2Proof.Machine
end

section
/-! PROOFS. The selection machine follows its events, and its leave deadline the passengers (R101 to R109). -/

namespace Sys2Proof.Machine

namespace State

variable (s : State) (c : Settings)

/-! ### Where the leave deadline is brought up to date (R107) -/

theorem finishCal_sel : (s.finishCal c).sel = s.sel := by
  unfold finishCal
  split
  · split <;> rfl
  · rfl

theorem finishCal_chans : (s.finishCal c).panel.chans = s.panel.chans := by
  unfold finishCal
  split
  · split <;> rfl
  · rfl

theorem round_leaveKept (hcfg : s.cfg = some c) (counts : List Nat) : (s.round c counts).LeaveKept := by
  have hfront : Front s ((presenceEvents (s.senseRound c.panel counts).2.1 ++ (s.senseRound c.panel counts).2.2 ++
      keyEvents (s.senseRound c.panel counts).2.1 5 .ok ++ keyEvents (s.senseRound c.panel counts).2.1 6 .back).foldl selEvent
      ((s.senseRound c.panel counts).1.onsets (s.senseRound c.panel counts).2.1)) :=
    Front.foldl (fun _ ev h => h.selEvent ev) ((Front.senseRound c.panel counts (.refl s)).onsets _)
  exact (LeaveKept.sync (c := c) false (hfront.cfg.trans hcfg)).congr (finishCal_sel _ c) (finishCal_chans _ c)

theorem releaseStuck_leaveKept (hcfg : s.cfg = some c) (ch : Nat) : (s.releaseStuck c ch).LeaveKept :=
  LeaveKept.sync (c := c) false
    ((((Front.releaseChan c.panel ch (.refl s)).reseedChan c.panel ch).panelFault).cfg.trans hcfg)

/-- A sample round, a stuck timeout, a CALIBRATE and a RESEED leave the deadline standing exactly where R107 has it. -/
theorem exec_leaveKept (t : State) (i : Instr)
    (hi : (∃ counts, i = .sampleRound counts) ∨ (∃ ch, i = .stuckTimeout ch) ∨ i = .calibrate ∨ i = .reseed)
    (hkept : s.LeaveKept) (ht : exec i s = .next t) : t.LeaveKept := by
  rcases hi with ⟨counts, rfl⟩ | ⟨ch, rfl⟩ | rfl | rfl
  · change execSampleRound counts s = _ at ht
    unfold execSampleRound at ht
    obtain rfl := Host.Outcome.next.inj ht
    split
    next c hcfg =>
      split
      · exact s.round_leaveKept c hcfg counts
      · exact hkept
    next => exact hkept
  · change execStuckTimeout ch s = _ at ht
    unfold execStuckTimeout at ht
    obtain rfl := Host.Outcome.next.inj ht
    split
    next c hcfg =>
      split
      · exact s.releaseStuck_leaveKept c hcfg ch
      · exact hkept
    next => exact hkept
  · change execCalibrate s = _ at ht
    unfold execCalibrate at ht
    obtain rfl := Host.Outcome.next.inj ht
    split
    next c args hcfg _ =>
      dsimp only
      split
      · have hfront : Front s ((maskChans (args.getD 0 0).toNat).foldl (fun s ch => s.startCal c.panel ch) (s.ownCommand .calibrate)) :=
          Front.foldl (fun _ ch h => h.startCal c.panel ch) (Front.ownCommand .calibrate (.refl s))
        exact LeaveKept.sync (c := c) false ((hfront.modPanel _).cfg.trans hcfg)
      · exact hkept.congr rfl rfl
    next => exact hkept
  · change execReseed s = _ at ht
    unfold execReseed at ht
    obtain rfl := Host.Outcome.next.inj ht
    split
    next c args hcfg _ =>
      dsimp only
      split
      · exact (LeaveKept.sync (c := c) false ((Front.reseedMask c.panel (args.getD 0 0).toNat (.refl s)).cfg.trans hcfg)).congr rfl rfl
      · exact hkept.congr rfl rfl
    next => exact hkept

/-! ### The events of each state (R102 to R106) -/

theorem selEvent_idle_spec (ev : SelEvent) (hcfg : s.cfg = some c) (h : s.sel.state = .idle) :
    (ev = .absence → s.selEvent ev = s) ∧
    (ev ≠ .absence →
      (s.selEvent ev).sel = { s.sel with
        state := .browse, cursor := none, product := .single, page := 0, leave := (s.selEvent ev).sel.leave }) := by
  rw [s.selEvent_idle c ev hcfg h]
  refine ⟨fun he => if_pos he, fun hne => ?_⟩
  rw [if_neg hne]
  exact setSel_sel_eq _ _

theorem selEvent_browse_spec (ev : SelEvent) (hcfg : s.cfg = some c) (h : s.sel.state = .browse) :
    (ev = .swipeFwd → (s.selEvent ev).sel.state = .browse ∧
      (s.selEvent ev).sel.page = min (s.sel.page + 1) ((s.board.lastN + 2) / 3 - 1)) ∧
    (ev = .swipeBack → (s.selEvent ev).sel.state = .browse ∧ (s.selEvent ev).sel.page = s.sel.page - 1) ∧
    (ev = .back → (s.selEvent ev).sel.state = .browse ∧ (s.selEvent ev).sel.page = 0) ∧
    (ev = .ok ∨ ev = .tap → (s.selEvent ev).sel.state = .choose ∧ (s.selEvent ev).sel.cursor = s.firstChoice c) ∧
    (ev = .hold ∨ ev = .presence ∨ ev = .absence → s.selEvent ev = s) := by
  rw [s.selEvent_browse c ev hcfg h]
  have hset (new : Selection) := s.setSel_sel_eq new
  refine ⟨?_, ?_, ?_, ?_, ?_⟩
  · rintro rfl
    unfold selBrowse
    rw [hset]
    exact ⟨h, rfl⟩
  · rintro rfl
    unfold selBrowse
    rw [hset]
    exact ⟨h, rfl⟩
  · rintro rfl
    unfold selBrowse
    rw [hset]
    exact ⟨h, rfl⟩
  · rintro (rfl | rfl) <;>
    · unfold selBrowse
      rw [hset]
      exact ⟨rfl, rfl⟩
  · rintro (rfl | rfl | rfl) <;> rfl

/-- Forward in CHOOSE goes on to CONFIRM, unless there is no stop to go to. -/
theorem chooseForward_spec :
    (s.panel.dests = [] → s.chooseForward = s) ∧
    (s.panel.dests ≠ [] → s.chooseForward.sel.state = .confirm ∧ s.chooseForward.sel.product = .single ∧
      s.chooseForward.sel.cursor = s.sel.cursor) := by
  unfold chooseForward
  rw [ite_congr_iff List.isEmpty_iff rfl rfl]
  refine ⟨fun hempty => if_pos hempty, fun hne => ?_⟩
  rw [if_neg hne, setSel_sel_eq]
  exact ⟨rfl, rfl, rfl⟩

theorem cursorTo_spec (m : Option Nat) :
    (m = none → s.cursorTo m = s) ∧
    (∀ y, m = some y → (s.cursorTo m).sel = { s.sel with cursor := some y, leave := (s.cursorTo m).sel.leave }) := by
  refine ⟨?_, ?_⟩
  · rintro rfl
    rfl
  · rintro y rfl
    exact setSel_sel_eq _ _

theorem selEvent_choose_spec (ev : SelEvent) (hcfg : s.cfg = some c) (h : s.sel.state = .choose) :
    (ev = .ok ∨ ev = .tap →
      (s.panel.dests = [] → s.selEvent ev = s) ∧
      (s.panel.dests ≠ [] → (s.selEvent ev).sel.state = .confirm ∧ (s.selEvent ev).sel.product = .single ∧
        (s.selEvent ev).sel.cursor = s.sel.cursor)) ∧
    (ev = .back → (s.selEvent ev).sel.state = .browse ∧ (s.selEvent ev).sel.cursor = none) ∧
    (let moved : Option Nat :=
       match s.sel.cursor with
       | none => none
       | some x => if ev = .swipeFwd then s.panel.dests.find? (fun y => decide (x < y))
                   else (s.panel.dests.filter fun y => decide (y < x)).getLast?
     ev = .swipeFwd ∨ ev = .swipeBack →
      (moved = none → s.selEvent ev = s) ∧
      (∀ y, moved = some y → (s.selEvent ev).sel =
        { s.sel with cursor := some y, leave := (s.selEvent ev).sel.leave })) ∧
    (ev = .hold ∨ ev = .presence ∨ ev = .absence → s.selEvent ev = s) := by
  rw [s.selEvent_choose c ev hcfg h]
  refine ⟨?_, ?_, ?_, ?_⟩
  · rintro (rfl | rfl) <;> exact s.chooseForward_spec
  · rintro rfl
    unfold selChoose
    rw [setSel_sel_eq]
    exact ⟨rfl, rfl⟩
  · rintro moved (rfl | rfl)
    · have hmoved : moved = s.sel.cursor.bind fun x => s.panel.dests.find? fun y => decide (x < y) := by
        cases hcursor : s.sel.cursor <;> simp [moved, hcursor]
      rw [hmoved, selChoose_swipeFwd]
      exact s.cursorTo_spec _
    · have hmoved : moved = s.sel.cursor.bind fun x => (s.panel.dests.filter fun y => decide (y < x)).getLast? := by
        cases hcursor : s.sel.cursor <;> simp [moved, hcursor]
      rw [hmoved, selChoose_swipeBack]
      exact s.cursorTo_spec _
  · rintro (rfl | rfl | rfl) <;> rfl

/-- Forward in CONFIRM writes SELECT and waits in HANDED. -/
theorem confirmForward_spec :
    (s.confirmForward c).sel.state = .handed ∧ (s.confirmForward c).sel.handed = some (s.clk.upSec + c.panel.handed) ∧
    (s.confirmForward c).rep = s.rep.tookInput .select s.sel.cursor s.sel.product (s.selFare c) s.clk.upSec := by
  unfold confirmForward
  rw [setSel_sel_eq, setSel_rep, pushInput_eq]
  exact ⟨rfl, rfl, rfl⟩

theorem selEvent_confirm_spec (ev : SelEvent) (hcfg : s.cfg = some c) (h : s.sel.state = .confirm) :
    (ev = .swipeFwd → (s.selEvent ev).sel.product =
      match s.sel.product with | .single => .ret | .ret => .day | .day => .single) ∧
    (ev = .swipeBack → (s.selEvent ev).sel.product =
      match s.sel.product with | .single => .day | .day => .ret | .ret => .single) ∧
    (ev = .ok ∨ ev = .tap →
      (s.selEvent ev).sel.state = .handed ∧ (s.selEvent ev).sel.handed = some (s.clk.upSec + c.panel.handed) ∧
      (s.selEvent ev).rep = s.rep.tookInput .select s.sel.cursor s.sel.product (s.selFare c) s.clk.upSec) ∧
    (ev = .back → (s.selEvent ev).sel.state = .choose ∧ (s.selEvent ev).sel.cursor = s.sel.cursor) ∧
    (ev = .hold ∨ ev = .presence ∨ ev = .absence → s.selEvent ev = s) := by
  rw [s.selEvent_confirm c ev hcfg h]
  refine ⟨?_, ?_, ?_, ?_, ?_⟩
  · rintro rfl
    exact (congrArg Selection.product (s.setSel_sel_eq _)).trans (by cases s.sel.product <;> rfl)
  · rintro rfl
    exact (congrArg Selection.product (s.setSel_sel_eq _)).trans (by cases s.sel.product <;> rfl)
  · rintro (rfl | rfl) <;> exact s.confirmForward_spec c
  · rintro rfl
    unfold selConfirm
    rw [setSel_sel_eq]
    exact ⟨rfl, rfl⟩
  · rintro (rfl | rfl | rfl) <;> rfl

theorem selEvent_handed_spec (ev : SelEvent) (hcfg : s.cfg = some c) (h : s.sel.state = .handed) :
    (ev ≠ .back → s.selEvent ev = s) ∧
    (ev = .back →
      (s.selEvent ev).rep = s.rep.tookInput .unselect s.sel.cursor s.sel.product 0 s.clk.upSec ∧
      (s.selEvent ev).sel.handed = none ∧
      (s.panel.dests = [] → (s.selEvent ev).sel.state = .choose ∧ (s.selEvent ev).sel.cursor = none ∧
        (s.selEvent ev).sel.product = .single) ∧
      (s.panel.dests ≠ [] → (s.selEvent ev).sel.state = .confirm ∧ (s.selEvent ev).sel.product = s.sel.product ∧
        (s.selEvent ev).sel.cursor =
          match s.sel.cursor with
          | none => s.firstChoice c
          | some x =>
            if x ∈ s.panel.dests then some x
            else if s.panel.dests.any (fun y => decide (x < y)) = true then s.panel.dests.find? (fun y => decide (x < y))
            else (s.panel.dests.filter fun y => decide (y < x)).getLast?)) := by
  rw [s.selEvent_handed c ev hcfg h]
  refine ⟨fun hne => ?_, ?_⟩
  · cases ev with
    | back => exact absurd rfl hne
    | swipeFwd => rfl
    | swipeBack => rfl
    | ok => rfl
    | tap => rfl
    | hold => rfl
    | presence => rfl
    | absence => rfl
  rintro rfl
  change (s.handedBack.adjustSel c).rep = _ ∧ (s.handedBack.adjustSel c).sel.handed = none ∧ _
  have hsel := s.handedBack_sel
  obtain ⟨hhanded, hnone, hsome⟩ := s.handedBack.adjustSel_confirm_sel c (by rw [hsel])
  have hchoice : s.handedBack.firstChoice c = s.firstChoice c := firstChoice_congr c s.handedBack_front s.handedBack_dests
  have hcursor : s.handedBack.sel.cursor = s.sel.cursor := by rw [hsel]
  have hproduct : s.handedBack.sel.product = s.sel.product := by rw [hsel]
  rw [s.handedBack_dests, hchoice, hcursor, hproduct] at hsome
  rw [s.handedBack_dests] at hnone
  refine ⟨?_, ?_, hnone, hsome⟩
  · rw [adjustSel_rep, handedBack_rep]
  · rw [hhanded, hsel]

end State

/-- Settles O21: by the states of the machine; each event is a change of the selection, and every change of the selection brings the
leave deadline up to date. -/
theorem selectionFollowsItsEvents : Obligations.SelectionFollowsItsEvents := by
  unfold Obligations.SelectionFollowsItsEvents
  refine ⟨fun s t i => s.exec_leaveKept t i, fun s c hcfg => ⟨?_, ?_, ?_⟩, fun s c ev hcfg => ?_⟩
  · exact fun hleavable hfar d hd => State.syncLeave_keep d hcfg hleavable hfar hd
  · exact fun hleavable hfar hnone => State.syncLeave_set false hcfg hleavable hfar (.inr hnone)
  · exact fun hnone => State.syncLeave_none false hcfg hnone
  · obtain ⟨hsame, hother⟩ := s.selEvent_leaveFollows c ev hcfg
    exact ⟨hsame, hother, Front.selEvent ev (.refl s), s.selEvent_idle_spec c ev hcfg, s.selEvent_browse_spec c ev hcfg,
      s.selEvent_choose_spec c ev hcfg, s.selEvent_confirm_spec c ev hcfg, s.selEvent_handed_spec c ev hcfg⟩

end Sys2Proof.Machine
end

section
/-! PROOFS. A reload's later stages (R198): while the selection rests in IDLE with the gesture tracker cleared, neither the
announcer nor an evaluation of the departure table wakes it. -/

namespace Sys2Proof.Machine

/-- The selection is in IDLE without a cursor, and no gesture is followed. -/
structure State.Rests (t : State) : Prop where
  state : t.sel.state = .idle
  cursor : t.sel.cursor = none
  tracker : t.panel.tracker = none

variable {t : State}

namespace State.Rests

/-- A state whose selection and tracker are the same rests too. -/
theorem congr {u : State} (h : t.Rests) (hsel : u.sel = t.sel) (htracker : u.panel.tracker = t.panel.tracker) : u.Rests :=
  ⟨hsel ▸ h.state, hsel ▸ h.cursor, htracker.trans h.tracker⟩

theorem foldl {α : Type} {l : List α} {f : State → α → State} (hf : ∀ t x, State.Rests t → (f t x).Rests) (h : t.Rests) :
    (l.foldl f t).Rests := by
  induction l generalizing t with
  | nil => exact h
  | cons x xs ih => exact ih (hf t x h)

/-! ### Flags, counters and marks -/

theorem modAnn (f : Announcer → Announcer) (h : t.Rests) : (t.modAnn f).Rests := h.congr rfl rfl

theorem modIssue (f : IssueUnit → IssueUnit) (h : t.Rests) : (t.modIssue f).Rests := h.congr rfl rfl

theorem setTable (l : List Entry) (h : t.Rests) : (t.setTable l).Rests := h.congr rfl rfl

theorem raise (f : Flag) (h : t.Rests) : (t.raise f).Rests := h.congr rfl rfl

theorem count (c : Counter) (n : Nat) (h : t.Rests) : (t.count c n).Rests := h.congr rfl rfl

theorem countLost (n : Nat) (h : t.Rests) : (t.countLost n).Rests := by
  unfold State.countLost
  split
  · exact h
  · exact h.congr rfl rfl

theorem markRows (scr : Screen) (rows : List Nat) (h : t.Rests) : (t.markRows scr rows).Rests :=
  h.congr (State.markRows_sel scr rows) (congrArg Panel.tracker (State.markRows_panel scr rows))

theorem markBoth (rows : List Nat) (h : t.Rests) : (t.markBoth rows).Rests := (h.markRows _ _).markRows _ _

theorem markDepartures (h : t.Rests) : t.markDepartures.Rests := h.markBoth _

theorem fareEvent (h : t.Rests) : t.fareEvent.Rests := h.markRows _ _

/-! ### The mode (R135 to R139) -/

theorem setMode (m : Mode) (h : t.Rests) : (t.setMode m).Rests := by
  refine h.congr (State.setMode_sel m).1 ?_
  unfold State.setMode
  split
  · rfl
  · simp only [State.modAnn_panel, State.modPanel_panel,
      (State.boardMode_sel (s := t.modAct fun a => { a with mode := m }) t.act.mode m).2]
    split <;> rfl

theorem setDeadline (d : Option Nat) (h : t.Rests) : (t.setDeadline d).Rests := h.congr rfl rfl

theorem activityEvent (h : t.Rests) : t.activityEvent.Rests := by
  unfold State.activityEvent
  split
  · exact (h.setMode _).setDeadline _
  · exact h

theorem floorOn (h : t.Rests) : t.floorOn.Rests := by
  have hfloor : (t.modAct fun a => { a with floor := true }).Rests := h.congr rfl rfl
  unfold State.floorOn
  dsimp only
  split
  · exact (hfloor.setMode _).setDeadline _
  · exact hfloor
  · exact hfloor

theorem floorOff (h : t.Rests) : t.floorOff.Rests := by
  rw [State.floorOff_eq]
  exact h.congr rfl rfl

theorem syncDue (h : t.Rests) : t.syncDue.Rests := by
  have hcount (n : Nat) : (t.setDueCount n).Rests := h.congr rfl rfl
  unfold State.syncDue
  dsimp only
  split
  · exact (hcount _).floorOn
  · split
    · exact (hcount _).floorOff
    · exact hcount _

/-! ### The announcer (R142 to R154) -/

theorem startFrom (c : Settings) (q : List AnnReq) (h : t.Rests) : (t.startFrom c q).Rests := by
  induction q with
  | nil => exact h.modAnn _
  | cons r rs ih =>
    unfold State.startFrom
    split
    · exact h.modAnn _
    · exact ih

theorem startNext (h : t.Rests) : t.startNext.Rests := by
  unfold State.startNext
  split
  · exact h.startFrom _ _
  · exact h

theorem endAnnouncement (h : t.Rests) : t.endAnnouncement.Rests := (h.modAnn _).startNext

theorem cut (why : CutCause) (h : t.Rests) : (t.cut why).Rests := by
  unfold State.cut
  split
  next => exact h
  next a =>
    split
    next => exact h
    next =>
      have hcount : (if why = .preempted then t.count .annDrop 1 else t).Rests := by
        split
        · exact h.count _ _
        · exact h
      dsimp only
      split
      · exact hcount.modAnn _
      · exact (hcount.modAnn _).endAnnouncement

theorem takeRequest (r : AnnReq) (h : t.Rests) : (t.takeRequest r).Rests := by
  unfold State.takeRequest
  dsimp only
  refine startNext ?_
  split
  · exact ((h.modAnn _).count _ _).cut _
  · exact (h.modAnn _).count _ _

theorem handRequest (k : AnnKind) (who : TrainId) (h : t.Rests) : (t.handRequest k who).Rests := by
  unfold State.handRequest
  split
  · exact h.count _ _
  · exact h.takeRequest _

theorem withdrawQueued (who : TrainId) (kinds : List AnnKind) (h : t.Rests) : (t.withdrawQueued who kinds).Rests := h.modAnn _

theorem cutFor (who : TrainId) (kinds : List AnnKind) (h : t.Rests) : (t.cutFor who kinds).Rests := by
  unfold State.cutFor
  split
  · split
    · exact h.cut _
    · exact h
  · exact h

theorem annRemoved (who : TrainId) (h : t.Rests) : (t.annRemoved who).Rests := (h.withdrawQueued _ _).cutFor _ _

theorem annCancelled (who : TrainId) (h : t.Rests) : (t.annCancelled who).Rests := (h.withdrawQueued _ _).cutFor _ _

theorem annClear (h : t.Rests) : t.annClear.Rests := (h.modAnn _).cut _

theorem outputSample (h : t.Rests) : t.outputSample.Rests := by
  unfold State.outputSample
  split
  next =>
    dsimp only
    split
    next => exact h.modAnn _
    next =>
      split
      next => exact (h.modAnn _).modAnn _
      next =>
        split
        · exact (h.modAnn _).endAnnouncement
        · exact (h.modAnn _).modAnn _
  next => exact h

theorem annAdvance (h : t.Rests) : t.annAdvance.Rests := by
  unfold State.annAdvance
  split
  next => exact h
  next =>
    split
    next =>
      split
      · exact h.endAnnouncement
      · exact h
    next =>
      split
      next => exact (h.modAnn _).outputSample.activityEvent
      next =>
        split
        · exact h.endAnnouncement
        · exact h

theorem annSkip (c : Settings) (h : t.Rests) : (t.annSkip c).Rests := by
  unfold State.annSkip
  split
  next => exact h
  next =>
    split
    · split
      · exact (h.modAnn _).annAdvance
      · exact h
    · exact h
    · exact h

/-! ### Quotes and the departure table (R10 to R25, R41 to R58, R71 to R73) -/

theorem voidSlot (slot : Nat) (why : VoidReason) (h : t.Rests) : (t.voidSlot slot why).Rests := by
  unfold State.voidSlot
  split
  · dsimp only
    split
    · exact h.congr rfl rfl
    · exact h.congr rfl rfl
  · exact h

theorem voidBound (who : TrainId) (h : t.Rests) : (t.voidBound who).Rests := by
  refine foldl (fun u slot hu => ?_) h
  split
  · exact hu.voidSlot _ _
  · exact hu

theorem voidAll (h : t.Rests) : t.voidAll.Rests := foldl (fun _ _ hu => hu.voidSlot _ _) h

/-- In IDLE a new destination list leaves the selection as it is (R109). -/
theorem recomputeList (h : t.Rests) : t.recomputeList.Rests := by
  unfold State.recomputeList
  split
  · exact h
  next c hcfg =>
    have hlist : (t.modPanel fun p => { p with dests := t.destinations c }).Rests := h.congr rfl rfl
    have hstays : (t.modPanel fun p => { p with dests := t.destinations c }).adjustSel c =
        t.modPanel fun p => { p with dests := t.destinations c } := by
      unfold State.adjustSel
      rw [hlist.state]
    rw [hstays]
    exact hlist.fareEvent

theorem removeEntry (who : TrainId) (h : t.Rests) : (t.removeEntry who).Rests :=
  (((h.setTable _).voidBound _).annRemoved _).syncDue.markDepartures

theorem removeAll (l : List Entry) (h : t.Rests) : (t.removeAll l).Rests := foldl (fun _ _ hu => hu.removeEntry _) h

theorem phaseEvents (old : Phase) (mark : Bool) (new : Entry) (h : t.Rests) : (t.phaseEvents old mark new).Rests := by
  have hdrawn {u : State} (hu : u.Rests) : u.drawn.Rests := hu.congr rfl rfl
  unfold State.phaseEvents
  split
  next => exact h
  next =>
    split
    · refine activityEvent ?_
      split
      · exact h
      · exact h.handRequest _ _
    · split
      · exact h.withdrawQueued _ _
      · exact h
    · exact (h.voidBound _).withdrawQueued _ _
    · dsimp only
      split
      · exact ((hdrawn (h.voidBound _)).handRequest _ _).annCancelled _
      · exact ((hdrawn (h.voidBound _)).annCancelled _).handRequest _ _

theorem evalEntry (c : Settings) (old cur : Entry) (after : EvalAfter) (stepped : Bool) (h : t.Rests) :
    (t.evalEntry c old cur after stepped).Rests := by
  unfold State.evalEntry
  dsimp only
  have hphase := (h.setTable (replaceEntry t.bat t.table old (cur.evaluated t.bat c.proj t.nowSec old after stepped))).syncDue.phaseEvents
    old.phase cur.dueAnn (cur.evaluated t.bat c.proj t.nowSec old after stepped)
  split
  · refine markDepartures ?_
    split
    · exact hphase.handRequest _ _
    · exact hphase
  · split
    · exact hphase.handRequest _ _
    · exact hphase

theorem evalAll (c : Settings) (h : t.Rests) : (t.evalAll c).Rests := by
  refine foldl (fun u e hu => ?_) h
  split
  · exact hu.evalEntry _ _ _ _ _
  · exact hu

theorem retire (c : Settings) (h : t.Rests) : (t.retire c).Rests := ((h.removeAll _).removeAll _).countLost _

theorem rollTable (h : t.Rests) : t.rollTable.Rests := (((h.removeAll _).countLost _).setTable _).syncDue.markDepartures

theorem evalPass (c : Settings) (h : t.Rests) : (t.evalPass c).Rests := ((h.evalAll c).retire c).recomputeList

theorem emptyTable (h : t.Rests) : t.emptyTable.Rests :=
  ((h.annClear.setTable []).syncDue.countLost _).voidAll.markDepartures.recomputeList

/-! ### An acceptance (R38, R80, R83) -/

theorem stepTable (c : Settings) (k : Int) (h : t.Rests) : (t.stepTable c k).Rests := by
  unfold State.stepTable
  split
  · exact h.evalPass c
  · split
    · exact h.rollTable.evalPass c
    · exact h.emptyTable

theorem changeHour (c : Settings) (hour : Nat) (h : t.Rests) : (t.changeHour c hour).Rests := by
  unfold State.changeHour
  split
  · exact h
  · dsimp only
    split
    · refine markBoth _ (stepTable c _ ?_)
      exact h.congr rfl rfl
    · exact h.congr rfl rfl

theorem takeGeometry (c : Settings) (h : t.Rests) : (t.takeGeometry c).Rests := by
  unfold State.takeGeometry
  split
  · exact h
  · exact h.congr rfl rfl

theorem writeMirror (h : t.Rests) : t.writeMirror.Rests := by
  unfold State.writeMirror
  split
  · exact h.congr rfl rfl
  · exact h

theorem lowAtAcceptance (h : t.Rests) : t.lowAtAcceptance.Rests := by
  unfold State.lowAtAcceptance
  split
  · split
    · exact h.raise _
    · exact h
  · exact h

end State.Rests

end Sys2Proof.Machine
end

section
/-! PROOFS. What an acceptance changes beside the settings (R38, R83, R84): the day-start hour with the service day, the journal
geometry with the indices, and no memory, mark, requester or line. -/

namespace Sys2Proof.Machine

/-- The battery domain for a new day-start hour (R38). -/
def Battery.atHour (b : Battery) (hour : Nat) : Battery :=
  { b with hour := hour, day := if b.clock = .set ∧ hour ≠ b.hour then b.dayFor hour else b.day }

/-- The battery domain for a journal geometry (R83, R84). -/
def Battery.atGeometry (b : Battery) (g : Geometry) : Battery :=
  { b with
    geometry := some g
    write := if b.geometry = some g then b.write else 0
    send := if b.geometry = some g then b.send else 0
    confirm := if b.geometry = some g then b.confirm else 0 }

theorem Inner.stepTable {s t : State} (c : Settings) (k : Int) (h : Inner s t) : Inner s (t.stepTable c k) := by
  unfold State.stepTable
  split
  · exact h.evalPass c
  · split
    · exact h.rollTable.evalPass c
    · exact h.emptyTable

theorem Inner.lowAtAcceptance {s t : State} (h : Inner s t) : Inner s t.lowAtAcceptance := by
  unfold State.lowAtAcceptance
  split
  · split
    · exact h.raise _
    · exact h
  · exact h

theorem Inner.annSkip {s t : State} (c : Settings) (h : Inner s t) : Inner s (t.annSkip c) := by
  unfold State.annSkip
  split
  · exact h
  · split
    · split
      · exact (h.modAnn _).annAdvance
      · exact h
    · exact h
    · exact h

namespace State

variable (s : State) (c : Settings)

/-- A new day-start hour changes the battery domain's hour and day, the clock's phase, and what the departure table reaches. -/
theorem changeHour_inner (hour : Nat) :
    ∃ k : HaltClock, Inner { s with bat := s.bat.atHour hour, clk := k } (s.changeHour c hour) := by
  unfold changeHour
  by_cases hsame : hour = s.bat.hour
  · have hbat : s.bat.atHour hour = s.bat := by
      unfold Battery.atHour
      rw [if_neg (fun h => h.2 hsame), hsame]
    rw [if_pos hsame, hbat]
    exact ⟨s.clk, .refl s⟩
  · rw [if_neg hsame]
    dsimp only
    by_cases hset : s.bat.clock = .set
    · have hbat : s.bat.atHour hour = { s.bat with hour := hour, day := s.bat.dayFor hour, clock := .set } := by
        unfold Battery.atHour
        rw [if_pos ⟨hset, hsame⟩, ← hset]
      have hbeq : (s.bat.clock == ClockState.set) = true := beq_iff_eq.mpr hset
      rw [hbat, if_pos hbeq]
      exact ⟨{ s.clk with prescaler := 0, hold := 0, slew := 0 }, .markBoth _ (.stepTable c _ (Inner.raise _ (.refl _)))⟩
    · have hbat : s.bat.atHour hour = { s.bat with hour := hour } := by
        unfold Battery.atHour
        rw [if_neg (fun h => hset h.1)]
      have hbeq : ¬ (s.bat.clock == ClockState.set) = true := fun h => hset (beq_iff_eq.mp h)
      rw [hbat, if_neg hbeq]
      exact ⟨s.clk, .refl _⟩

theorem takeGeometry_eq : s.takeGeometry c = { s with bat := s.bat.atGeometry c.geometry } := by
  unfold takeGeometry Battery.atGeometry
  by_cases hsame : s.bat.geometry = some c.geometry
  · rw [if_pos hsame, if_pos hsame, if_pos hsame, if_pos hsame, ← hsame]
  · rw [if_neg hsame, if_neg hsame, if_neg hsame, if_neg hsame]
    rfl

end State

end Sys2Proof.Machine
end

section
/-! PROOFS. RELOAD_ACCEPTANCE (R26, R85, R173, R175, R191, R194, R198), in the order of its stages. -/

namespace Sys2Proof.Machine

namespace State

variable (s : State) (c : Settings)

/-! ### Stage 1 (R198) -/

theorem exec_reloadAcceptance (got : List Word) (hcfg : s.cfg = some c) (hstage : s.loader.stage = .fetched got)
    (haccept : s.rejection got = none) :
    exec .reloadAcceptance s =
      .next ((s.modLoader fun l => { l with stage := .reloadTicket (readSettings got) [] }).goOnTicket c (readSettings got)) := by
  change execReloadAcceptance s = _
  unfold execReloadAcceptance
  rw [hstage, hcfg]
  dsimp only
  rw [haccept]

/-- A ticket in work is waited for. -/
theorem goOnTicket_waits (next : Settings) (hticket : s.ticketInWork = true) : s.goOnTicket c next = s := if_pos hticket

theorem goOnTicket_rejects (next : Settings) (hticket : s.ticketInWork = false) (hfails : journalFails s.bat next = true) :
    s.goOnTicket c next = s.abandonReload := by
  unfold goOnTicket
  rw [hticket, hfails]
  rfl

theorem goOnTicket_finishes (next : Settings) (hticket : s.ticketInWork = false) (hholds : journalFails s.bat next = false) :
    s.goOnTicket c next = (s.beginFinish c next).goOnFinish c next := by
  unfold goOnTicket
  rw [hticket, hholds]
  rfl

/-- Without a ticket in work the stage the loader is in is left, whatever was noted in it. -/
theorem goOnTicket_modLoader (next : Settings) (stage : LoaderStage) (hticket : s.ticketInWork = false) :
    (s.modLoader fun l => { l with stage := stage }).goOnTicket c next = s.goOnTicket c next := by
  cases hfails : journalFails s.bat next with
  | true =>
    rw [s.goOnTicket_rejects c next hticket hfails]
    exact goOnTicket_rejects (s.modLoader fun l => { l with stage := stage }) c next hticket hfails
  | false =>
    rw [s.goOnTicket_finishes c next hticket hfails]
    exact goOnTicket_finishes (s.modLoader fun l => { l with stage := stage }) c next hticket hfails

/-! ### A reload that is rejected (R194) -/

/-- With no load in work, or only the first write of the report block waited for, an idle intake job fetches the slot at the head of
its FIFO. -/
theorem intakeNext_of_loader_idle (hcfg : s.cfg = some c) (hloader : s.loader.stage = .idle ∨ s.loader.stage = .firstReport) :
    s.intakeNext = s.modIntake fun j => { j with
      stage := if s.intake.stage = .idle ∧ s.intake.fifo ≠ [] then .fetching [] else s.intake.stage } := by
  rw [intakeNext_eq]
  refine congrArg (fun g => s.modIntake fun j => { j with stage := g }) ?_
  cases hfifo : s.intake.fifo with
  | nil =>
    rw [if_neg (fun h => h.2 rfl)]
    unfold intakeNext
    rw [hcfg, hfifo]
  | cons slot rest =>
    have hfinish : s.loader.stage.finishing = false := by rcases hloader with h | h <;> rw [h] <;> rfl
    have hopen : (s.loader.stage.starting || s.loader.stage.holds slot) = false := by rcases hloader with h | h <;> rw [h] <;> rfl
    rw [s.intakeNext_stage c hcfg hfinish slot rest hfifo]
    exact ite_congr_iff (and_congr_right fun _ => iff_of_true hopen (List.cons_ne_nil _ _)) rfl rfl

/-- The same of the issue unit. -/
theorem issueGoOn_of_loader_idle (hcfg : s.cfg = some c) (hloader : s.loader.stage = .idle ∨ s.loader.stage = .firstReport) :
    s.issueGoOn = s.modIssue fun u => { u with
      stage := if s.issue.stage = .idle ∧ s.issue.fifo ≠ [] then .fetching [] else s.issue.stage } := by
  by_cases hfifo : s.issue.fifo = []
  · have hsame : s.issueGoOn = s := by
      unfold issueGoOn issueNext
      rw [hcfg, hfifo]
      exact ite_self _
    rw [hsame, if_neg (fun h => h.2 hfifo)]
    rfl
  · have hfinish : s.loader.stage.finishing = false := by rcases hloader with h | h <;> rw [h] <;> rfl
    have hopen : s.loader.stage.stopsIssue = false ∧ s.loader.stage.starting = false := by
      rcases hloader with h | h <;> rw [h] <;> exact ⟨rfl, rfl⟩
    rw [s.issueGoOn_eq c hcfg hfinish hfifo]
    exact congrArg (fun g => s.modIssue fun u => { u with stage := g })
      (ite_congr_iff (and_congr_right fun _ => iff_of_true hopen hfifo) rfl rfl)

theorem abandonReload_eq (hcfg : s.cfg = some c) :
    s.abandonReload =
      { s with
        loader := { s.loader with
          stage := .idle, accs := s.loader.accs ++ loadWrites Code.journalBusy Code.rejected .rejected }
        intake := { s.intake with
          stage := if s.intake.stage = .idle ∧ s.intake.fifo ≠ [] then .fetching [] else s.intake.stage }
        rep := { s.rep with command := s.rep.command.resumed }
        issue := { s.issue with
          stage := if s.issue.stage = .idle ∧ s.issue.fifo ≠ [] then .fetching [] else s.issue.stage } } := by
  have hjobs (u : State) (hu : u.cfg = some c) (hidle : u.loader.stage = .idle) :
      u.intakeNext.issueGoOn =
        { u with
          intake := { u.intake with
            stage := if u.intake.stage = .idle ∧ u.intake.fifo ≠ [] then .fetching [] else u.intake.stage }
          issue := { u.issue with
            stage := if u.issue.stage = .idle ∧ u.issue.fifo ≠ [] then .fetching [] else u.issue.stage } } := by
    rw [u.intakeNext_of_loader_idle c hu (.inl hidle)]
    exact issueGoOn_of_loader_idle (u.modIntake _) c hu (.inl hidle)
  unfold abandonReload
  exact hjobs _ hcfg rfl

/-! ### Stage 2: the slots and the command are answered RECONFIGURED (R26, R85, R191) -/

/-- While a reload finishes the slots, the intake job answers the slot at the head of its FIFO. -/
theorem intakeNext_finishing (hcfg : s.cfg = some c) (hfinish : s.loader.stage.finishing = true) :
    s.intakeNext = s.modIntake fun j => { j with stage :=
      match s.intake.fifo, s.intake.stage with
      | [], st => st
      | _ :: _, .answering accs => .answering accs
      | slot :: _, _ => .answering (intakeWrites c.win slot Code.reconfigured Code.noEntry Code.noEntry Code.refused) } := by
  rw [intakeNext_eq]
  refine congrArg (fun g => s.modIntake fun j => { j with stage := g }) ?_
  unfold intakeNext
  rw [hcfg]
  cases hfifo : s.intake.fifo with
  | nil => rfl
  | cons slot rest =>
    dsimp only
    rw [hfinish]
    cases hstage : s.intake.stage with
    | idle => rfl
    | fetching got => rfl
    | ready image => rfl
    | answering accs => exact hstage

theorem refuseSale_cons (reason : Word) (slot : Nat) (rest : List Nat) (hfifo : s.issue.fifo = slot :: rest) :
    s.refuseSale c reason = s.modIssue fun u => { u with
      records := u.records.set slot .empty, stage := .answering
      accs := u.accs ++ [⟨c.win.saleWord slot 8, reason, .plain⟩, ⟨c.win.saleWord slot 0, Code.refused, .salePost slot⟩] } := by
  unfold refuseSale
  rw [hfifo]
  exact answerSale_cons (s.setRecord slot .empty) c _ _ slot rest hfifo

theorem issueNext_empty (hfifo : s.issue.fifo = []) : s.issueNext = s := by
  unfold issueNext
  rw [hfifo]
  cases s.cfg <;> rfl

/-- While a reload finishes the slots, the issue unit answers the slot in work, if it has not begun its answer or a ticket. -/
theorem issueNext_finishing (hcfg : s.cfg = some c) (hfinish : s.loader.stage.finishing = true)
    (hstage : s.issue.stage = .idle ∨ (∃ got, s.issue.stage = .fetching got) ∨ (∃ req, s.issue.stage = .ready req))
    (slot : Nat) (rest : List Nat) (hfifo : s.issue.fifo = slot :: rest) :
    s.issueNext = s.refuseSale c Code.reconfigured := by
  unfold issueNext
  rw [hcfg, hfifo, hfinish]
  rcases hstage with hstage | ⟨_, hstage⟩ | ⟨_, hstage⟩ <;> rw [hstage] <;> rfl

/-- The sale slot in work is answered, whatever its progress; a ticket has been waited for. -/
theorem finishSale_eq (hcfg : s.cfg = some c) (hfinish : s.loader.stage.finishing = true) (hticket : s.ticketInWork = false) :
    s.finishSale c = { s with issue :=
      match s.issue.fifo with
      | [] => s.issue
      | slot :: _ =>
        { s.issue with
          records := s.issue.records.set slot .empty, stage := .answering
          accs := (if s.issue.stage = .answering then s.issue.accs.filter fun x => !inRegion x.addr (c.win.sale + 16 * slot) 16
            else s.issue.accs) ++
            [⟨c.win.saleWord slot 8, Code.reconfigured, .plain⟩, ⟨c.win.saleWord slot 0, Code.refused, .salePost slot⟩] } } := by
  cases hfifo : s.issue.fifo with
  | nil =>
    unfold finishSale
    rw [hfifo]
    exact s.issueNext_empty hfifo
  | cons slot rest =>
    cases hstage : s.issue.stage with
    | idle =>
      unfold finishSale
      rw [hfifo, hstage]
      exact (s.issueNext_finishing c hcfg hfinish (.inl hstage) slot rest hfifo).trans (s.refuseSale_cons c _ slot rest hfifo)
    | fetching got =>
      unfold finishSale
      rw [hfifo, hstage]
      exact (s.issueNext_finishing c hcfg hfinish (.inr (.inl ⟨got, hstage⟩)) slot rest hfifo).trans
        (s.refuseSale_cons c _ slot rest hfifo)
    | ready req =>
      unfold finishSale
      rw [hfifo, hstage]
      exact (s.issueNext_finishing c hcfg hfinish (.inr (.inr ⟨req, hstage⟩)) slot rest hfifo).trans
        (s.refuseSale_cons c _ slot rest hfifo)
    | answering =>
      unfold finishSale
      rw [hfifo, hstage]
      exact (s.dropAnswer c.win slot).refuseSale_cons c _ slot rest hfifo
    | ticket k =>
      unfold ticketInWork at hticket
      rw [hstage] at hticket
      exact absurd hticket (by simp)

/-- The command in work is answered, but for one whose result is on its way; a command that its owner works at is given up. -/
theorem finishCommand_eq :
    s.finishCommand c =
      { s with
        rep :=
          match s.rep.command with
          | .idle => s.rep
          | .answering _ => s.rep
          | _ => s.rep.answered c Code.refused Code.reconfigured
        board :=
          match s.rep.command with
          | .owned _ => { s.board with noticeFetch := none }
          | _ => s.board
        panel :=
          match s.rep.command with
          | .owned _ => { s.panel with calMask := none }
          | _ => s.panel } := by
  unfold finishCommand
  cases hcommand : s.rep.command <;> rfl

end State

end Sys2Proof.Machine
end

section
/-! PROOFS. RELOAD_ACCEPTANCE, the end of its stages (R85, R198): the quotes are ended, and the new settings take effect. -/

namespace Sys2Proof.Machine

/-! ### Stage 3: the quotes (R85) -/

/-- A live quote becomes a voided one; any other record stands. -/
def QuoteRec.ended (r : QuoteRec) (why : VoidReason) : QuoteRec :=
  match r with
  | .live q => .voided q why
  | r => r

/-- The writes that show a live quote ended. -/
def QuoteRec.endWrites (r : QuoteRec) (w : Windows) (slot : Nat) (why : VoidReason) : List Acc :=
  match r with
  | .live _ => expiredWrites w slot why
  | _ => []

theorem QuoteRec.ended_of_dead (r : QuoteRec) (why : VoidReason) (h : ∀ q, r ≠ .live q) : r.ended why = r := by
  cases r with
  | live q => exact absurd rfl (h q)
  | _ => rfl

theorem QuoteRec.endWrites_of_dead (r : QuoteRec) (w : Windows) (slot : Nat) (why : VoidReason) (h : ∀ q, r ≠ .live q) :
    r.endWrites w slot why = [] := by
  cases r with
  | live q => exact absurd rfl (h q)
  | _ => rfl

/-- From `s` to `t` the records of the slots that `ends` names are ended and shown so, and nothing else changed. -/
structure State.QuotesEnded (s t : State) (c : Settings) (why : VoidReason) (slots : List Nat) : Prop where
  records : ∀ slot, t.issue.records.getD slot .empty =
    if slot ∈ slots then (s.issue.records.getD slot .empty).ended why else s.issue.records.getD slot .empty
  state : t = { s with issue := { s.issue with
    records := t.issue.records
    accs := s.issue.accs ++ slots.flatMap fun slot => (s.issue.records.getD slot .empty).endWrites c.win slot why } }

namespace State

variable (s : State) (c : Settings)

/-- The void of an idle slot ends its quote, if that is live. -/
theorem voidSlot_quotesEnded (hcfg : s.cfg = some c) (slot : Nat) (why : VoidReason) (hidle : s.saleIdle slot = true) :
    s.QuotesEnded (s.voidSlot slot why) c why [slot] := by
  by_cases hlive : ∃ q, s.issue.records.getD slot .empty = .live q
  · obtain ⟨q, hq⟩ := hlive
    rw [s.voidSlot_live c hcfg slot why q hq, if_pos hidle]
    refine ⟨fun other => ?_, ?_⟩
    · change (s.issue.records.set slot (.voided q why)).getD other .empty = _
      by_cases hsame : other = slot
      · subst hsame
        have hlen : other < s.issue.records.length := lt_length_of_getD_ne (d := .empty) (by rw [hq]; exact nofun)
        rw [if_pos (List.mem_singleton.mpr rfl), hq, List.getD_eq_getElem?_getD, List.getElem?_set_self hlen]
        rfl
      · rw [if_neg (fun h => hsame (List.mem_singleton.mp h)), List.getD_eq_getElem?_getD,
          List.getElem?_set_ne (Ne.symm hsame), ← List.getD_eq_getElem?_getD]
    · rw [List.flatMap_singleton, hq]
      rfl
  · have hdead : ∀ q, s.issue.records.getD slot .empty ≠ .live q := fun q hq => hlive ⟨q, hq⟩
    rw [s.voidSlot_dead slot why hdead]
    refine ⟨fun other => ?_, ?_⟩
    · split
      next hmem =>
        rw [List.mem_singleton.mp hmem, QuoteRec.ended_of_dead _ _ hdead]
      next => rfl
    · rw [List.flatMap_singleton, QuoteRec.endWrites_of_dead _ _ _ _ hdead, List.append_nil]

/-- Ending the quotes of different slots one after another ends them all. -/
theorem QuotesEnded.trans {s u t : State} {c : Settings} {why : VoidReason} {xs ys : List Nat} (hsu : s.QuotesEnded u c why xs)
    (hut : u.QuotesEnded t c why ys) (hdisjoint : ∀ slot ∈ xs, slot ∉ ys) : s.QuotesEnded t c why (xs ++ ys) := by
  have hkept : ∀ slot ∈ ys, u.issue.records.getD slot .empty = s.issue.records.getD slot .empty := fun slot hslot => by
    rw [hsu.records, if_neg (fun h => hdisjoint slot h hslot)]
  refine ⟨fun slot => ?_, ?_⟩
  · rw [hut.records, hsu.records]
    by_cases hx : slot ∈ xs
    · rw [if_neg (hdisjoint slot hx), if_pos hx, if_pos (List.mem_append_left ys hx)]
    · by_cases hy : slot ∈ ys
      · rw [if_pos hy, if_neg hx, if_pos (List.mem_append_right xs hy)]
      · rw [if_neg hy, if_neg hx, if_neg (by simp [hx, hy])]
  · have hwrites : (ys.flatMap fun slot => (u.issue.records.getD slot .empty).endWrites c.win slot why) =
        ys.flatMap fun slot => (s.issue.records.getD slot .empty).endWrites c.win slot why :=
      flatMap_eq_of_mem fun slot hslot => by rw [hkept slot hslot]
    have hstate := hut.state
    rw [hwrites, hsu.state] at hstate
    rw [List.flatMap_append, ← List.append_assoc]
    exact hstate

end State

end Sys2Proof.Machine
end

section
/-! PROOFS. RELOAD_ACCEPTANCE settled (R85, R191, R194, R198). -/

namespace Sys2Proof.Machine

namespace State

variable (s : State) (c : Settings)

/-! ### Stages 2 and 3 -/

/-- The four sale slots' quotes are ended, each slot being idle. -/
theorem endQuotes_quotesEnded (hcfg : s.cfg = some c) (hidle : ∀ slot, slot < 4 → s.path.sale.getD slot .clear = .clear) :
    s.QuotesEnded s.endQuotes c .reconfigured [0, 1, 2, 3] := by
  have hvoid (u : State) (slot : Nat) (hslot : slot < 4) (hu : Inner s u) :
      u.QuotesEnded (u.voidSlot slot .reconfigured) c .reconfigured [slot] :=
    u.voidSlot_quotesEnded c (hu.cfg.trans hcfg) slot _ (by rw [saleIdle, hu.path, hidle slot hslot]; rfl)
  have h0 : Inner s (s.voidSlot 0 .reconfigured) := .voidSlot _ _ (.refl s)
  have h1 := h0.voidSlot 1 .reconfigured
  have h2 := h1.voidSlot 2 .reconfigured
  exact (((hvoid s 0 (by decide) (.refl s)).trans (hvoid _ 1 (by decide) h0) (by decide)).trans
    (hvoid _ 2 (by decide) h1) (by decide)).trans (hvoid _ 3 (by decide) h2) (by decide)

theorem endQuotes_dead (hdead : ∀ (slot : Nat) (q : Quote), s.issue.records.getD slot .empty ≠ .live q) : s.endQuotes = s := by
  unfold endQuotes
  induction [0, 1, 2, 3] with
  | nil => rfl
  | cons slot rest ih => rw [List.foldl_cons, s.voidSlot_dead slot _ (hdead slot), ih]

/-- Stage 2 with nothing to finish only enters it. -/
theorem beginFinish_of_finished (next : Settings) (hcfg : s.cfg = some c) (hintake : s.intake.fifo = []) (hissue : s.issue.fifo = [])
    (hcommand : s.rep.command = .idle) (hticket : s.ticketInWork = false) :
    s.beginFinish c next = s.modLoader fun l => { l with stage := .reloadFinish next } := by
  have hjobs (u : State) (hu : u.cfg = some c) (hfinish : u.loader.stage.finishing = true) (hwork : u.ticketInWork = false)
      (hu1 : u.intake.fifo = []) (hu2 : u.issue.fifo = []) (hu3 : u.rep.command = .idle) :
      ((u.intakeNext).finishSale c).finishCommand c = u := by
    have hnext : u.intakeNext = u := by
      rw [u.intakeNext_finishing c hu hfinish, hu1]
      rfl
    have hsale : u.finishSale c = u := by
      rw [u.finishSale_eq c hu hfinish hwork, hu2]
    rw [hnext, hsale, finishCommand, hu3]
  exact hjobs _ hcfg rfl hticket hintake hissue hcommand

theorem slotsFinished_iff :
    s.slotsFinished = true ↔
      s.intake.fifo = [] ∧ s.issue.fifo = [] ∧ s.rep.command = .idle ∧ s.path.command = .clear ∧ s.forwarding = false := by
  unfold slotsFinished
  simp only [Bool.and_eq_true, List.isEmpty_iff, beq_iff_eq, Bool.not_eq_true', and_assoc]

theorem goOnFinish_unfinished (next : Settings) (h : s.slotsFinished = false) : s.goOnFinish c next = s := by
  unfold goOnFinish
  rw [h]
  rfl

theorem goOnFinish_writes (next : Settings) (h : s.slotsFinished = true) (haccs : s.endQuotes.issue.accs ≠ []) :
    s.goOnFinish c next = s.endQuotes := by
  unfold goOnFinish
  rw [if_pos h]
  exact if_neg fun he => haccs (List.isEmpty_iff.mp he)

theorem goOnFinish_accepts (next : Settings) (h : s.slotsFinished = true) (haccs : s.endQuotes.issue.accs = []) :
    s.goOnFinish c next = ((s.endQuotes.reloadClear).reloadSettings c next).acceptLoad := by
  unfold goOnFinish
  rw [if_pos h]
  exact if_pos (List.isEmpty_iff.mpr haccs)

/-- Stage 2 leaves no command waiting for its fetch, its owner or the reload, and finishes none that was none. -/
theorem finishCommand_idle_iff : (s.finishCommand c).rep.command = .idle ↔ s.rep.command = .idle := by
  rw [finishCommand_eq]
  cases hcommand : s.rep.command <;> simp [hcommand, ReportUnit.answered]

/-! ### Stages 4 to 7 -/

/-- Stages 4 to 6 leave the selection at rest. -/
theorem reloadClear_rests : s.reloadClear.Rests := ⟨rfl, rfl, rfl⟩

theorem reloadClear_kept : s.reloadClear.bat = s.bat ∧ s.reloadClear.link = s.link ∧ s.reloadClear.loader = s.loader := by
  have hclear : Inner s s.annClear := .annClear (.refl s)
  simp [reloadClear, reloadPanel, recompose, moveReport, hclear.bat, hclear.link, hclear.loader]

/-- What stage 7 leaves: the settings take effect, and the volume is that of the mode. -/
theorem reloadSettings_spec (next : Settings) (hrests : s.Rests) (t : State) (ht : t = s.reloadSettings c next) :
    t.cfg = some next ∧ t.Rests ∧ t.bat = (s.bat.atHour next.proj.hour).atGeometry next.geometry ∧
    t.link = { s.link with
      receiver := .hunt
      history := if c.link.haltId = next.link.haltId then s.link.history else none
      lastReply := if c.link.haltId = next.link.haltId then s.link.lastReply else none
      chainPos := if c.chain = next.chain then s.link.chainPos else some next.chain } ∧
    t.ann.volume = volumeOf (some next) t.act.mode ∧ t.loader = s.loader := by
  have hrests0 : (s.setCfg (some next)).Rests := hrests.congr rfl rfl
  obtain ⟨k, hhour⟩ := (s.setCfg (some next)).changeHour_inner next next.proj.hour
  have hrests1 := hrests0.changeHour next next.proj.hour
  unfold reloadSettings at ht
  dsimp only at ht
  generalize (s.setCfg (some next)).changeHour next next.proj.hour = u at hhour hrests1 ht
  have hgeometry : Inner { u with bat := u.bat.atGeometry next.geometry } ((u.takeGeometry next).writeMirror).lowAtAcceptance := by
    rw [takeGeometry_eq]
    exact .lowAtAcceptance (.writeMirror (.refl _))
  have hrests2 := (hrests1.takeGeometry next).writeMirror.lowAtAcceptance
  generalize ((u.takeGeometry next).writeMirror).lowAtAcceptance = v at hgeometry hrests2 ht
  have hlink : Inner (v.reloadLink c next) (((v.reloadLink c next).annSkip next).evalAll next).recomputeList :=
    .recomputeList (.evalAll next (.annSkip next (.refl _)))
  have hrests3 : (v.reloadLink c next).Rests := hrests2.congr rfl rfl
  have hrests4 := ((hrests3.annSkip next).evalAll next).recomputeList
  generalize (((v.reloadLink c next).annSkip next).evalAll next).recomputeList = w at hlink hrests4 ht
  subst ht
  have hvlink : v.link = s.link := hgeometry.link.trans hhour.link
  refine ⟨hlink.cfg.trans (hgeometry.cfg.trans hhour.cfg), hrests4.congr rfl rfl,
    hlink.bat.trans (hgeometry.bat.trans (congrArg (Battery.atGeometry · next.geometry) hhour.bat)), ?_, rfl,
    hlink.loader.trans (hgeometry.loader.trans hhour.loader)⟩
  refine hlink.link.trans ?_
  change ({ v.link with
    receiver := .hunt
    history := if c.link.haltId = next.link.haltId then v.link.history else none
    lastReply := if c.link.haltId = next.link.haltId then v.link.lastReply else none
    chainPos := if c.chain = next.chain then v.link.chainPos else some next.chain } : Link) = _
  rw [hvlink]

end State

end Sys2Proof.Machine
end

section
/-! PROOFS. RELOAD_ACCEPTANCE (R26, R85, R173, R175, R191, R194, R198). -/

namespace Sys2Proof.Machine

namespace State

variable (s : State) (c : Settings)

/-- Stage 2: the slot in work of the intake job, that of the issue unit and the command are answered. -/
theorem beginFinish_eq (next : Settings) (hcfg : s.cfg = some c) (hticket : s.ticketInWork = false) :
    s.beginFinish c next =
      { s with
        loader := { s.loader with stage := .reloadFinish next }
        intake := { s.intake with stage :=
          match s.intake.fifo, s.intake.stage with
          | [], st => st
          | _ :: _, .answering accs => .answering accs
          | slot :: _, _ => .answering
            [⟨c.win.intake + 16 * slot + 13, Code.reconfigured, .plain⟩, ⟨c.win.intake + 16 * slot + 14, Code.noEntry, .plain⟩,
             ⟨c.win.intake + 16 * slot + 15, Code.noEntry, .plain⟩, ⟨c.win.intake + 16 * slot + 0, Code.refused, .intakePost slot⟩] }
        issue :=
          match s.issue.fifo with
          | [] => s.issue
          | slot :: _ =>
            { s.issue with
              records := s.issue.records.set slot .empty, stage := .answering
              accs := (if s.issue.stage = .answering then
                  s.issue.accs.filter fun x => !inRegion x.addr (c.win.sale + 16 * slot) 16
                else s.issue.accs) ++
                [⟨c.win.sale + 16 * slot + 8, Code.reconfigured, .plain⟩,
                 ⟨c.win.sale + 16 * slot + 0, Code.refused, .salePost slot⟩] }
        rep :=
          match s.rep.command with
          | .idle => s.rep
          | .answering _ => s.rep
          | _ => s.rep.answered c Code.refused Code.reconfigured
        board :=
          match s.rep.command with
          | .owned _ => { s.board with noticeFetch := none }
          | _ => s.board
        panel :=
          match s.rep.command with
          | .owned _ => { s.panel with calMask := none }
          | _ => s.panel } := by
  have hstages (u : State) (hu : u.cfg = some c) (hfinish : u.loader.stage.finishing = true) (hfree : u.ticketInWork = false) :=
    And.intro (u.intakeNext_finishing c hu hfinish)
      (finishSale_eq (u.modIntake fun j => { j with stage :=
        match u.intake.fifo, u.intake.stage with
        | [], st => st
        | _ :: _, .answering accs => .answering accs
        | slot :: _, _ => .answering (intakeWrites c.win slot Code.reconfigured Code.noEntry Code.noEntry Code.refused) })
        c hu hfinish hfree)
  obtain ⟨hintake, hsale⟩ := hstages (s.modLoader fun l => { l with stage := .reloadFinish next }) hcfg rfl hticket
  exact (congrArg (fun u => (State.finishSale u c).finishCommand c) hintake).trans
    ((congrArg (fun u => State.finishCommand u c) hsale).trans (finishCommand_eq _ c))

/-- What stage 2 has to finish it does not finish at once: the answers have to be written. -/
theorem beginFinish_unfinished (next : Settings) (hcfg : s.cfg = some c) (hticket : s.ticketInWork = false)
    (hwork : s.intake.fifo ≠ [] ∨ s.issue.fifo ≠ [] ∨ s.rep.command ≠ .idle ∨ s.path.command ≠ .clear ∨ s.forwarding = true) :
    (s.beginFinish c next).slotsFinished = false := by
  refine Bool.eq_false_iff.mpr fun hdone => ?_
  obtain ⟨hintake, hissue, hcommand, hmark, hlink⟩ := (slotsFinished_iff _).mp hdone
  rw [s.beginFinish_eq c next hcfg hticket] at hintake hissue hcommand hmark hlink
  rcases hwork with hw | hw | hw | hw | hw
  · exact hw hintake
  · cases hfifo : s.issue.fifo with
    | nil => exact hw hfifo
    | cons slot rest => simp [hfifo] at hissue
  · cases hwas : s.rep.command with
    | idle => exact hw hwas
    | _ => simp [hwas, ReportUnit.answered] at hcommand
  · exact hw hmark
  · exact absurd (hw.symm.trans hlink) (by simp)

/-! ### The statement's cases -/

/-- With every slot idle and nothing to finish, a quote to end or a write that waits keeps the reload in its finishing stage. -/
theorem goOnTicket_ends (next : Settings) (hcfg : s.cfg = some c) (hticket : s.ticketInWork = false)
    (hholds : journalFails s.bat next = false) (hfinished : s.slotsFinished = true)
    (hidle : ∀ slot, slot < 4 → s.path.sale.getD slot .clear = .clear)
    (hwork : s.issue.accs ≠ [] ∨ ∃ slot q, slot < 4 ∧ s.issue.records.getD slot .empty = .live q) :
    ∃ t, s.goOnTicket c next = t ∧
      (s.modLoader fun l => { l with stage := .reloadFinish next }).QuotesEnded t c .reconfigured [0, 1, 2, 3] := by
  obtain ⟨hintake, hissue, hcommand, -, -⟩ := s.slotsFinished_iff.mp hfinished
  have hended := endQuotes_quotesEnded (s.modLoader fun l => { l with stage := .reloadFinish next }) c hcfg hidle
  refine ⟨_, ?_, hended⟩
  rw [s.goOnTicket_finishes c next hticket hholds, s.beginFinish_of_finished c next hcfg hintake hissue hcommand hticket]
  refine goOnFinish_writes _ c next hfinished ?_
  rw [hended.state]
  rcases hwork with haccs | ⟨slot, q, hslot, hlive⟩
  · exact fun hempty => haccs (List.append_eq_nil_iff.mp hempty).1
  · intro hempty
    have hwrites := List.flatMap_eq_nil_iff.mp (List.append_eq_nil_iff.mp hempty).2 slot (by
      have : slot = 0 ∨ slot = 1 ∨ slot = 2 ∨ slot = 3 := by omega
      simpa using this)
    rw [modLoader_issue, hlive] at hwrites
    exact absurd hwrites (List.cons_ne_nil _ _)

/-- With nothing left to write the new settings take effect at once. -/
theorem goOnTicket_accepts (next : Settings) (hcfg : s.cfg = some c) (hticket : s.ticketInWork = false)
    (hholds : journalFails s.bat next = false) (hfinished : s.slotsFinished = true) (haccs : s.issue.accs = [])
    (hdead : ∀ (slot : Nat) (q : Quote), s.issue.records.getD slot .empty ≠ .live q) :
    s.goOnTicket c next =
      (((s.modLoader fun l => { l with stage := .reloadFinish next }).reloadClear).reloadSettings c next).acceptLoad := by
  obtain ⟨hintake, hissue, hcommand, -, -⟩ := s.slotsFinished_iff.mp hfinished
  have hquotes := endQuotes_dead (s.modLoader fun l => { l with stage := .reloadFinish next }) hdead
  rw [s.goOnTicket_finishes c next hticket hholds, s.beginFinish_of_finished c next hcfg hintake hissue hcommand hticket]
  refine (goOnFinish_accepts (s.modLoader fun l => { l with stage := .reloadFinish next }) c next hfinished
    (by rw [hquotes]; exact haccs)).trans ?_
  rw [hquotes]

/-- What the acceptance of a reload leaves (R198). -/
theorem reload_accepted_spec (next : Settings) :
    let t := (((s.modLoader fun l => { l with stage := .reloadFinish next }).reloadClear).reloadSettings c next).acceptLoad
    t.cfg = some next ∧ t.mem = s.mem ∧ t.path = s.path ∧
      t.sel.state = .idle ∧ t.sel.cursor = none ∧ t.panel.tracker = none ∧ t.bat.hour = next.proj.hour ∧
      t.bat.geometry = some next.geometry ∧
      t.link = { s.link with
        receiver := .hunt
        history := if c.link.haltId = next.link.haltId then s.link.history else none
        lastReply := if c.link.haltId = next.link.haltId then s.link.lastReply else none
        chainPos := if c.chain = next.chain then s.link.chainPos else some next.chain } ∧
      t.ann.volume = (match t.act.mode with
        | .active => next.ann.volActive
        | .quiet => next.ann.volQuiet
        | .dormant => next.ann.volDormant) ∧
      t.loader = { s.loader with
        stage := .idle, accs := s.loader.accs ++ loadWrites Code.noReason Code.accepted .accepted } := by
  obtain ⟨-, hlink, hloader⟩ := (s.modLoader fun l => { l with stage := .reloadFinish next }).reloadClear_kept
  have hrests := (s.modLoader fun l => { l with stage := .reloadFinish next }).reloadClear_rests
  have hmem := (s.modLoader fun l => { l with stage := .reloadFinish next }).reloadClear_memory
  have hpath := (s.modLoader fun l => { l with stage := .reloadFinish next }).reloadClear_path
  generalize (s.modLoader fun l => { l with stage := .reloadFinish next }).reloadClear = v at hlink hloader hrests hmem hpath ⊢
  obtain ⟨hcfg', hrests', hbat', hlink', hvolume, hloader'⟩ := v.reloadSettings_spec c next hrests _ rfl
  have hmem' := v.reloadSettings_memory c next
  have hpath' := v.reloadSettings_path c next
  generalize v.reloadSettings c next = w at hcfg' hrests' hbat' hlink' hvolume hloader' hmem' hpath' ⊢
  refine ⟨hcfg', hmem'.trans hmem, hpath'.trans hpath, hrests'.state, hrests'.cursor, hrests'.tracker,
    congrArg Battery.hour hbat', congrArg Battery.geometry hbat', ?_, ?_, ?_⟩
  · rw [hlink] at hlink'
    exact hlink'
  · refine hvolume.trans ?_
    change _ = match w.act.mode with | .active => _ | .quiet => _ | .dormant => _
    unfold volumeOf
    cases w.act.mode <;> rfl
  · change ({ w.loader with
      stage := .idle, accs := w.loader.accs ++ loadWrites Code.noReason Code.accepted .accepted } : Loader) = _
    rw [hloader', hloader]
    rfl

/-- The part cycle in which a reload goes on from its wait for a ticket. -/
theorem exec_partCycle_ticket (next : Settings) (late : List Nat) (r : Requester) (x : Access) (h : s.takesCycle r x)
    (hcfg : ((s.landed x).served r (s.fetched x)).cfg = some c)
    (hstage : ((s.landed x).served r (s.fetched x)).loader.stage = .reloadTicket next late) :
    exec (.partCycle none) s = .next ((((s.landed x).served r (s.fetched x)).setHold 0).goOnTicket c next) := by
  rw [exec_partCycle_turn s r x h]
  refine congrArg Host.Outcome.next ?_
  have hcfg' : (((s.landed x).served r (s.fetched x)).setHold 0).cfg = some c := hcfg
  have hstage' : (((s.landed x).served r (s.fetched x)).setHold 0).loader.stage = .reloadTicket next late := hstage
  unfold settleLoad
  rw [hcfg', hstage']

end State

/-- Settles O36: by the stages of R198, each of which goes on to the next as far as it can. -/
theorem reloadAcceptance : Obligations.ReloadAcceptance := by
  unfold Obligations.ReloadAcceptance
  intro s c got hcfg hstage haccept
  have hexec := s.exec_reloadAcceptance c got hcfg hstage haccept
  refine ⟨fun hticket => ?_, fun hticket hfails => ?_, fun hticket hholds hwork => ?_,
    fun hticket hholds hfinished hidle hwork => ?_, fun hticket hholds hfinished haccs hdead => ?_, ?_⟩
  · rw [hexec]
    exact congrArg Host.Outcome.next (State.goOnTicket_waits _ c _ hticket)
  · rw [hexec, s.goOnTicket_modLoader c _ _ hticket, s.goOnTicket_rejects c _ hticket hfails, s.abandonReload_eq c hcfg]
    cases hcommand : s.rep.command <;> rfl
  · rw [hexec, s.goOnTicket_modLoader c _ _ hticket, s.goOnTicket_finishes c _ hticket hholds,
      State.goOnFinish_unfinished _ c _ (s.beginFinish_unfinished c _ hcfg hticket hwork), s.beginFinish_eq c _ hcfg hticket] <;> rfl
  · obtain ⟨t, ht, hrecords, hstate⟩ := s.goOnTicket_ends c (readSettings got) hcfg hticket hholds hfinished hidle hwork
    refine ⟨t, ?_, fun slot hslot => ?_, ?_⟩
    · rw [hexec, s.goOnTicket_modLoader c _ _ hticket, ht]
    · have hmem : slot ∈ [0, 1, 2, 3] := by
        have : slot = 0 ∨ slot = 1 ∨ slot = 2 ∨ slot = 3 := by omega
        simpa using this
      rw [hrecords slot, if_pos hmem, State.modLoader_issue]
      cases s.issue.records.getD slot .empty <;> rfl
    · refine hstate.trans (congrArg (fun w => ({ s with
        loader := { s.loader with stage := .reloadFinish (readSettings got) }
        issue := { s.issue with records := t.issue.records, accs := s.issue.accs ++ w } } : State)) ?_)
      refine flatMap_eq_of_mem (l := [0, 1, 2, 3]) fun slot _ => ?_
      rw [State.modLoader_issue]
      cases s.issue.records.getD slot .empty <;> rfl
  · refine ⟨_, ?_, s.reload_accepted_spec c (readSettings got)⟩
    rw [hexec, s.goOnTicket_modLoader c _ _ hticket,
      s.goOnTicket_accepts c (readSettings got) hcfg hticket hholds hfinished haccs hdead]
  · intro r x u late hturn hs hlate
    have hcfg' : ((u.landed x).served r (u.fetched x)).cfg = some c := by
      rw [hs] at hcfg
      exact hcfg
    have hcycle := u.exec_partCycle_ticket c (readSettings got) late r x hturn hcfg' hlate
    refine ⟨fun hticket => ?_, fun hticket => ?_⟩
    · rw [hs] at hticket
      rw [hcycle]
      exact congrArg Host.Outcome.next (State.goOnTicket_waits _ c _ hticket)
    · rw [hcycle, hexec, s.goOnTicket_modLoader c _ _ hticket]
      rw [hs] at hticket ⊢
      exact congrArg Host.Outcome.next (State.goOnTicket_modLoader
        (((u.landed x).served r (u.fetched x)).setHold 0) c (readSettings got) (.fetched got) hticket).symm

end Sys2Proof.Machine
end

section
/-! PROOFS. DESCRIPTOR_REJECTION and FIRST_ACCEPTANCE (R192 to R197): the tests of a fetched descriptor, and what the first
acceptance takes at once. -/

namespace Sys2Proof.Machine

/-! ### The tests of a descriptor's words (R194) -/

theorem descriptorFault_format (d : List Word) (h : dnat d 1 ≠ 1) : descriptorFault d = some Code.badFormat := if_pos h

theorem descriptorFault_length (d : List Word) (hformat : dnat d 1 = 1) (h : ¬ (256 ≤ dnat d 2 ∧ dnat d 2 ≤ 2048)) :
    descriptorFault d = some Code.badLength :=
  (if_neg (not_not_intro hformat)).trans (if_pos h)

/-- With format and length in order, the check word, the windows and the values are tested in turn. -/
theorem descriptorFault_rest (d : List Word) (hformat : dnat d 1 = 1) (hlow : 256 ≤ dnat d 2) (hhigh : dnat d 2 ≤ 2048) :
    descriptorFault d =
      if ¬ checkOk d then some Code.badCheck
      else if ¬ windowsOk (readWindows d) then some Code.badWindow
      else if ¬ valuesOk d then some Code.badValue
      else none :=
  (if_neg (not_not_intro hformat)).trans (if_neg (not_not_intro ⟨hlow, hhigh⟩))

namespace State

variable (s : State)

theorem rejection_of_fault (got : List Word) (r : Word) (h : descriptorFault got = some r) : s.rejection got = some r := by
  unfold rejection
  rw [h]

theorem rejection_of_no_fault (got : List Word) (h : descriptorFault got = none) :
    s.rejection got =
      if s.cfg = none ∧ journalFails s.bat (readSettings got) = true then some Code.journalBusy else none := by
  unfold rejection
  rw [h]
  exact ite_congr_iff (by rw [Bool.and_eq_true, Option.isNone_iff_eq_none]) rfl rfl

theorem rejection_spec (got : List Word) :
    (dnat got 1 ≠ 1 → s.rejection got = some 0x40) ∧
    (dnat got 1 = 1 → ¬ (256 ≤ dnat got 2 ∧ dnat got 2 ≤ 2048) → s.rejection got = some 0x41) ∧
    (dnat got 1 = 1 → 256 ≤ dnat got 2 → dnat got 2 ≤ 2048 →
      (checkOk got = false → s.rejection got = some 0x42) ∧
      (checkOk got = true → windowsOk (readWindows got) = false → s.rejection got = some 0x43) ∧
      (checkOk got = true → windowsOk (readWindows got) = true → valuesOk got = false → s.rejection got = some 0x44) ∧
      (checkOk got = true → windowsOk (readWindows got) = true → valuesOk got = true →
        s.rejection got = if s.cfg = none ∧ journalFails s.bat (readSettings got) = true then some 0x45 else none)) := by
  refine ⟨fun h => s.rejection_of_fault got _ (descriptorFault_format got h),
    fun hformat h => s.rejection_of_fault got _ (descriptorFault_length got hformat h), fun hformat hlow hhigh => ?_⟩
  have hfault := descriptorFault_rest got hformat hlow hhigh
  refine ⟨fun hcheck => s.rejection_of_fault got _ (hfault.trans (by rw [hcheck]; rfl)),
    fun hcheck hwindows => s.rejection_of_fault got _ (hfault.trans (by rw [hcheck, hwindows]; rfl)),
    fun hcheck hwindows hvalues => s.rejection_of_fault got _ (hfault.trans (by rw [hcheck, hwindows, hvalues]; rfl)),
    fun hcheck hwindows hvalues => s.rejection_of_no_fault got (hfault.trans (by rw [hcheck, hwindows, hvalues]; rfl))⟩

theorem exec_descriptorRejection (got : List Word) (r : Word) (hstage : s.loader.stage = .fetched got)
    (hreject : s.rejection got = some r) : exec .descriptorRejection s = .next (s.rejectLoad r) := by
  change execDescriptorRejection s = _
  unfold execDescriptorRejection
  rw [hstage]
  dsimp only
  rw [hreject]

/-! ### The first acceptance, stages 1 and 2 (R38, R81, R83, R197) -/

theorem exec_firstAcceptance (got : List Word) (hstage : s.loader.stage = .fetched got) (haccept : s.rejection got = none)
    (hcfg : s.cfg = none) : exec .firstAcceptance s = .next (s.takeSettings (readSettings got)) := by
  change execFirstAcceptance s = _
  unfold execFirstAcceptance
  rw [hstage, hcfg]
  dsimp only
  rw [haccept]

end State

theorem Inner.rewriteUnsent {s t : State} (h : Inner s t) : Inner s t.rewriteUnsent := by
  unfold State.rewriteUnsent
  split
  · exact h.writeStates _ _ _
  · exact h

namespace State

variable (s : State)

/-- The settings taken at the first acceptance reach the battery domain, the clock's phase, the departure side and the loader. -/
theorem takeSettings_spec (c : Settings) (t : State) (ht : t = s.takeSettings c) :
    t.cfg = some c ∧ t.loader = { s.loader with stage := .scanning 0 } ∧ t.mem = s.mem ∧ t.path = s.path ∧ t.power = s.power ∧
    t.bat = (s.bat.atHour c.proj.hour).atGeometry c.geometry := by
  obtain ⟨k, hhour⟩ := (s.setCfg (some c)).changeHour_inner c c.proj.hour
  unfold takeSettings at ht
  generalize (s.setCfg (some c)).changeHour c c.proj.hour = u at hhour ht
  have hgeometry : Inner { u with bat := u.bat.atGeometry c.geometry }
      (((u.takeGeometry c).rewriteUnsent).writeMirror).lowAtAcceptance := by
    rw [takeGeometry_eq]
    exact .lowAtAcceptance (.writeMirror (.rewriteUnsent (.refl _)))
  generalize (((u.takeGeometry c).rewriteUnsent).writeMirror).lowAtAcceptance = v at hgeometry ht
  subst ht
  refine ⟨hgeometry.cfg.trans hhour.cfg, ?_, hgeometry.mem.trans hhour.mem, hgeometry.path.trans hhour.path,
    hgeometry.power.trans hhour.power, hgeometry.bat.trans (congrArg (Battery.atGeometry · c.geometry) hhour.bat)⟩
  exact congrArg (fun l : Loader => { l with stage := LoaderStage.scanning 0 }) (hgeometry.loader.trans hhour.loader)

end State

end Sys2Proof.Machine
end

section
/-! PROOFS. The loader beside the other requesters (R182): none of them goes on with a load or queues its writes. -/

namespace Sys2Proof.Machine

/-- What the loader has in work: its stage and the writes it has waiting. -/
def Loader.work (l : Loader) : LoaderStage × List Acc := (l.stage, l.accs)

namespace State

variable (s : State)

/-! ### What leaves the loader as it is -/

@[simp] theorem raise_loader (f : Flag) : (s.raise f).loader = s.loader := (Inner.raise f (.refl s)).loader

@[simp] theorem count_loader (c : Counter) (n : Nat) : (s.count c n).loader = s.loader := (Inner.count c n (.refl s)).loader

@[simp] theorem setRecord_loader (slot : Nat) (r : QuoteRec) : (s.setRecord slot r).loader = s.loader := rfl

@[simp] theorem issueWrites_loader (accs : List Acc) : (s.issueWrites accs).loader = s.loader := rfl

@[simp] theorem answerSale_loader (c : Settings) (results : List (Nat × Word)) (post : Word) :
    (s.answerSale c results post).loader = s.loader := (Inner.answerSale c results post (.refl s)).loader

@[simp] theorem refuseSale_loader (c : Settings) (v : Word) : (s.refuseSale c v).loader = s.loader :=
  (Inner.refuseSale c v (.refl s)).loader

@[simp] theorem testLow_loader (g : Geometry) (before : Nat) : (s.testLow g before).loader = s.loader :=
  (Inner.testLow g before (.refl s)).loader

@[simp] theorem answerIntake_loader (c : Settings) (im : Image) (outcome : Word) : (s.answerIntake c im outcome).loader = s.loader := by
  unfold answerIntake
  split <;> rfl

@[simp] theorem intakeFetched_loader (c : Settings) (image : List Word) : (s.intakeFetched c image).loader = s.loader := by
  unfold intakeFetched
  split <;> simp

@[simp] theorem intakeNext_loader : s.intakeNext.loader = s.loader := by
  unfold intakeNext
  split
  · dsimp only
    split
    · split
      · rfl
      · split <;> rfl
    · split <;> rfl
    · split <;> rfl
    · rfl
  · rfl

@[simp] theorem issueNext_loader : s.issueNext.loader = s.loader := by
  unfold issueNext
  split
  · split
    · split
      · simp
      · split <;> rfl
    · split <;> simp
    · split <;> simp
    · rfl
    · rfl
  · rfl

@[simp] theorem issueGoOn_loader : s.issueGoOn.loader = s.loader := by
  unfold issueGoOn
  split <;> simp

@[simp] theorem setBuild_loader (b : ReplyBuild) : (s.setBuild b).loader = s.loader := rfl

@[simp] theorem reply_loader (kind : Byte) (payload : List Word) : (s.reply kind payload).loader = s.loader := by
  unfold reply
  split <;> rfl

@[simp] theorem replyAck_loader (status : Word) (outcomes : List Nat) : (s.replyAck status outcomes).loader = s.loader :=
  s.reply_loader _ _

@[simp] theorem goOnJournal_loader (todo : List Nat) (got : List Word) : (s.goOnJournal todo got).loader = s.loader := by
  unfold goOnJournal
  split <;> simp

@[simp] theorem decideForward_loader (c : Settings) (pos : Nat) (payload entry : List Word) :
    (s.decideForward c pos payload entry).loader = s.loader := by
  unfold decideForward
  split <;> simp

@[simp] theorem forwardDone_loader (next : Nat) : (s.forwardDone next).loader = s.loader := by
  simp [forwardDone]

@[simp] theorem linkServed_loader (c : Settings) (w : Word) : (s.linkServed c w).loader = s.loader := by
  unfold linkServed
  split
  · simp
  · split <;> simp
  · split <;> simp
  · rfl

@[simp] theorem commandRefused_loader (c : Settings) (v : Word) : (s.commandRefused c v).loader = s.loader := rfl

@[simp] theorem wordLanded_loader (o : Nat) (v : Word) : (s.wordLanded o v).loader = s.loader := by
  unfold wordLanded
  dsimp only
  split
  · rfl
  · split
    · rfl
    · split <;> rfl

@[simp] theorem commandLanded_loader : s.commandLanded.loader = s.loader := rfl

@[simp] theorem takeProbe_loader (c : Settings) (w : Word) : (s.takeProbe c w).loader = s.loader := by
  unfold takeProbe
  dsimp only
  split <;> simp [restartCommand]

@[simp] theorem blockServed_loader (c : Settings) (w : Word) : (s.blockServed c w).loader = s.loader := by
  unfold blockServed
  split
  · rfl
  · split <;> simp

@[simp] theorem reportServed_loader (c : Settings) (w : Word) : (s.reportServed c w).loader = s.loader := by
  unfold reportServed
  split
  · rfl
  · split <;> rfl
  · rfl
  · simp
  · simp
  · simp
  · simp

@[simp] theorem intakeLanded_loader (slot : Nat) : (s.intakeLanded slot).loader = s.loader := by
  simp [intakeLanded]

@[simp] theorem showVoided_loader (slot : Nat) : (s.showVoided slot).loader = s.loader := by
  unfold showVoided
  split <;> rfl

@[simp] theorem saleLanded_loader (slot : Nat) : (s.saleLanded slot).loader = s.loader := by
  simp [saleLanded]

@[simp] theorem land_loaderWork (g : Landing) : (s.land g).loader.work = s.loader.work := by
  cases g with
  | plain => rfl
  | intakePost slot => exact congrArg Loader.work (s.intakeLanded_loader slot)
  | salePost slot => exact congrArg Loader.work (s.saleLanded_loader slot)
  | expiredReason _ => rfl
  | expiredPost _ => rfl
  | journalState => exact congrArg Loader.work s.commitTicket_loader
  | restartIntake _ => rfl
  | restartSale _ => rfl
  | accepted => rfl
  | rejected => rfl
  | commandPost => rfl
  | chainFull next => exact congrArg Loader.work (s.forwardDone_loader next)

@[simp] theorem issueServed_loaderWork (w : Word) : (s.issueServed w).loader.work = s.loader.work := by
  unfold issueServed
  split
  · simp
  · rfl
  · rfl

@[simp] theorem intakeServed_loaderWork (c : Settings) (w : Word) : (s.intakeServed c w).loader.work = s.loader.work := by
  unfold intakeServed
  split
  · dsimp only
    split <;> simp
  · simp
  · rfl
  · rfl
  · rfl

@[simp] theorem annServed_loader (w : Word) : (s.annServed w).loader = s.loader := (Inner.annServed w (.refl s)).loader

@[simp] theorem composerServed_loader (w : Word) : (s.composerServed w).loader = s.loader := (Inner.composerServed w (.refl s)).loader
/-- A loader with no write and no word waiting stands. -/
theorem loaderServed_firstReport (w : Word) (haccs : s.loader.accs = []) (hstage : s.loader.stage = .firstReport) :
    s.loaderServed w = s := by
  unfold loaderServed
  rw [haccs, hstage]

/-- While the first write of the report block is waited for, no requester's word changes what the loader has in work. -/
theorem served_loaderWork (r : Requester) (w : Word) (haccs : s.loader.accs = []) (hstage : s.loader.stage = .firstReport) :
    (s.served r w).loader.work = (.firstReport, []) := by
  have hwork : s.loader.work = (.firstReport, []) := Prod.ext hstage haccs
  rw [← hwork]
  unfold served
  split
  · rfl
  · rfl
  · simp
  · simp
  · simp
  · simp
  · rw [s.loaderServed_firstReport w haccs hstage]
  · simp
  · simp
  · rfl
  · rfl
  · rfl

end State

end Sys2Proof.Machine
end

section
/-! PROOFS. FIRST_ACCEPTANCE, stage 4 (R87, R88, R128, R134, R135, R155, R170, R183, R197): the jobs start. -/

namespace Sys2Proof.Machine

/-- Text without a strip does not scroll, whatever the mode (R125). -/
theorem TextScreen.startScroll_of_empty (t : TextScreen) (now period : Nat) (h : t.strip = []) : t.startScroll now period = t := by
  unfold TextScreen.startScroll scrolls
  rw [h]
  rfl

/-- Both screens' text as a full recompose leaves it (R128). -/
def TextScreen.fresh : TextScreen := { TextScreen.initial with marks := List.replicate 5 true }

theorem TextScreen.fresh_strip : TextScreen.fresh.strip = [] := rfl

namespace State

variable (s : State) (c : Settings)

/-! ### Calibration at the start leaves the mode (R88) -/

theorem reseedChan_act (p : PanelParams) (ch : Nat) : (s.reseedChan p ch).act = s.act := rfl

theorem wetEnd_act (p : PanelParams) : (s.wetEnd p).act = s.act := by
  unfold wetEnd
  generalize [1, 2, 3, 4, 5, 6] = l
  induction l generalizing s with
  | nil => rfl
  | cons ch rest ih =>
    refine (ih _).trans ?_
    dsimp only
    split
    · exact s.reseedChan_act p ch
    · rfl

theorem releaseChan_act (p : PanelParams) (ch : Nat) : (s.releaseChan p ch).act = s.act := by
  unfold releaseChan
  dsimp only
  split
  · rw [selEvent_absence]
    rfl
  · split
    · rw [wetEnd_act]
      rfl
    · split <;> rfl

theorem startCal_act (p : PanelParams) (ch : Nat) : (s.startCal p ch).act = s.act := by
  unfold startCal
  dsimp only
  split
  · exact s.releaseChan_act p ch
  · rfl

theorem startCals_act (p : PanelParams) (l : List Nat) : (l.foldl (fun s ch => s.startCal p ch) s).act = s.act := by
  induction l generalizing s with
  | nil => rfl
  | cons ch rest ih => exact (ih _).trans (s.startCal_act p ch)

theorem startCals_front (p : PanelParams) (l : List Nat) : Front s (l.foldl (fun s ch => s.startCal p ch) s) :=
  Front.foldl (fun _ ch h => h.startCal p ch) (.refl s)

theorem mem_channels (ch : Nat) (h : ch < 8) : ch ∈ [0, 1, 2, 3, 4, 5, 6, 7] := by
  have : ch = 0 ∨ ch = 1 ∨ ch = 2 ∨ ch = 3 ∨ ch = 4 ∨ ch = 5 ∨ ch = 6 ∨ ch = 7 := by omega
  simpa using this

/-- Every channel starts its calibration, and the first round is due; the mode and the other units stand. -/
theorem startPanel_spec (p : PanelParams) :
    Front s (s.startPanel p) ∧ (s.startPanel p).act = s.act ∧
    (s.startPanel p).panel.lastRound = none ∧ (s.startPanel p).panel.roundNo = 0 ∧
    ∀ ch x, ch < 8 → s.panel.chans[ch]? = some x → (s.startPanel p).panel.chans[ch]? = some x.calibrating := by
  have hchans (ch : Nat) (x : Channel) (hch : ch < 8) (hx : s.panel.chans[ch]? = some x) :=
    s.startCals_named p [0, 1, 2, 3, 4, 5, 6, 7] (by decide) (by decide) ch (mem_channels ch hch) x hx
  have hact := s.startCals_act p [0, 1, 2, 3, 4, 5, 6, 7]
  have hfront := s.startCals_front p [0, 1, 2, 3, 4, 5, 6, 7]
  unfold startPanel
  generalize [0, 1, 2, 3, 4, 5, 6, 7].foldl (fun s ch => s.startCal p ch) s = u at hchans hact hfront ⊢
  exact ⟨hfront.modPanel _, hact, rfl, rfl, hchans⟩

/-! ### The mode at the start (R135) -/

theorem ceiling_ne_dormant (a : Activity) : a.ceiling ≠ .dormant := by
  unfold Activity.ceiling
  split <;> exact nofun

/-- The mode that activity begins in, and its step time. -/
theorem startActivity_act (hcfg : s.cfg = some c) :
    s.startActivity.act.mode = (if s.act.supplyLow = true then .quiet else .active) ∧
    s.startActivity.act.deadline =
      some (s.clk.upSec + if s.act.supplyLow = true then c.times.dormant else c.times.quiet) := by
  have hact : s.startActivity.act = { s.act with mode := s.act.ceiling, deadline := s.stepAhead s.act.ceiling } := by
    unfold startActivity
    exact congrArg (fun a : Activity => { a with deadline := s.stepAhead s.act.ceiling }) (s.setMode_act s.act.ceiling)
  rw [hact]
  refine ⟨rfl, ?_⟩
  change s.stepAhead s.act.ceiling = _
  unfold Activity.ceiling stepAhead dormantAhead
  rw [hcfg]
  cases s.act.supplyLow <;> rfl

theorem startActivity_front : Front s s.startActivity := .setDeadline _ (.setMode _ (.refl s))

/-- The mode at the start reaches no text that does not scroll. -/
theorem startActivity_board (ha : s.board.a.strip = []) (hb : s.board.b.strip = []) : s.startActivity.board = s.board := by
  have hmode (u : State) (old new : Mode) (hnew : new ≠ .dormant) (hua : u.board.a.strip = []) (hub : u.board.b.strip = []) :
      (u.boardMode old new).board = u.board := by
    unfold boardMode
    split
    next => exact absurd rfl hnew
    all_goals
      split
      · rw [modBoard_board, TextScreen.startScroll_of_empty _ _ _ hua, TextScreen.startScroll_of_empty _ _ _ hub]
      · rfl
  unfold startActivity setDeadline setMode
  split
  · rfl
  · exact hmode (s.modAct fun a => { a with mode := s.act.ceiling }) s.act.mode s.act.ceiling (ceiling_ne_dormant _) ha hb

theorem startActivity_panel :
    s.startActivity.panel.chans = s.panel.chans ∧ s.startActivity.panel.lastRound = s.panel.lastRound ∧
    s.startActivity.panel.roundNo = s.panel.roundNo := by
  have hpanel : (s.setMode s.act.ceiling).panel = s.panel := by
    unfold setMode
    split
    · rfl
    · rw [modAnn_panel, modPanel_panel, if_neg (ceiling_ne_dormant _), (boardMode_sel _ _).2]
      rfl
  have hsame : s.startActivity.panel = s.panel := hpanel
  rw [hsame]
  exact ⟨rfl, rfl, rfl⟩

end State

end Sys2Proof.Machine
end

section
/-! PROOFS. FIRST_ACCEPTANCE, stages 3 and 4 (R183, R197): the slots are examined, and the jobs start. -/

namespace Sys2Proof.Machine

namespace State

variable (s : State) (c : Settings)

/-! ### The jobs start (R197, stage 4) -/

theorem recompose_spec :
    Front s s.recompose ∧ s.recompose.act = s.act ∧ s.recompose.panel = s.panel ∧
    s.recompose.board.a = TextScreen.fresh ∧ s.recompose.board.b = TextScreen.fresh ∧
    s.recompose.board.build = none ∧ s.recompose.board.render = none := by
  unfold recompose
  generalize hfresh : ({ TextScreen.initial with marks := List.replicate 5 true } : TextScreen) = f
  obtain rfl : TextScreen.fresh = f := hfresh
  generalize TextScreen.fresh = f
  exact ⟨.modBoard _ (.refl s), rfl, rfl, rfl, rfl, rfl, rfl⟩

/-- The intake job and the issue unit go on to the slots posted meanwhile. -/
theorem intakeNext_issueNext_firstReport (hcfg : s.cfg = some c) (hstage : s.loader.stage = .firstReport) :
    s.intakeNext.issueNext =
      { s with
        intake := { s.intake with
          stage := if s.intake.stage = .idle ∧ s.intake.fifo ≠ [] then .fetching [] else s.intake.stage }
        issue := { s.issue with
          stage := if s.issue.stage = .idle ∧ s.issue.fifo ≠ [] then .fetching [] else s.issue.stage } } := by
  have hissue (u : State) (hu : u.cfg = some c) (hreport : u.loader.stage = .firstReport) :
      u.issueNext = u.modIssue fun x => { x with
        stage := if u.issue.stage = .idle ∧ u.issue.fifo ≠ [] then .fetching [] else u.issue.stage } := by
    have hgoOn : u.issueGoOn = u.issueNext := by
      unfold issueGoOn
      rw [hreport]
      rfl
    rw [← hgoOn]
    exact u.issueGoOn_of_loader_idle c hu (.inr hreport)
  rw [s.intakeNext_of_loader_idle c hcfg (.inr hstage)]
  exact hissue _ hcfg hstage

/-- The announcer, the screens, the link, the report unit and the loader as the jobs start, before the slots are gone on with. -/
def startedUnits (volume : Nat) : State :=
  { s with
    ann := { s.ann with volume := volume }
    scrA := s.scrA.start (c.latch .a s.act.mode)
    scrB := s.scrB.start (c.latch .b s.act.mode)
    link := { s.link with receiver := .hunt, chainPos := some c.chain }
    rep := { s.rep with
      written := List.replicate 64 none
      extra := if s.path.command = .clear then [1, 2, 3, 4, 5, 6, 7, 8, 9, 10, 11, 12, 31]
        else skipCommand [1, 2, 3, 4, 5, 6, 7, 8, 9, 10, 11, 12, 31]
      probe := true }
    loader := { s.loader with stage := .firstReport } }

theorem startReport_eq :
    s.startReport = { s with rep := { s.rep with
      written := List.replicate 64 none
      extra := if s.path.command = .clear then [1, 2, 3, 4, 5, 6, 7, 8, 9, 10, 11, 12, 31]
        else skipCommand [1, 2, 3, 4, 5, 6, 7, 8, 9, 10, 11, 12, 31]
      probe := true } } := rfl

theorem startLink_eq :
    s.startLink c = { s with link := { s.link with receiver := .hunt, chainPos := some c.chain } } := rfl

theorem startScreens_eq :
    s.startScreens c = { s with scrA := s.scrA.start (c.latch .a s.act.mode), scrB := s.scrB.start (c.latch .b s.act.mode) } := rfl

theorem startedUnits_eq (volume : Nat) :
    ((((s.modAnn fun n => { n with volume := volume }).startScreens c).startLink c).startReport).modLoader
      (fun l => { l with stage := .firstReport }) = s.startedUnits c volume := by
  rw [startReport_eq, startLink_eq, startScreens_eq]
  rfl

/-- The state in which the jobs start, with the calibrations, the recompose and the mode behind it. -/
theorem startJobs_spec (hcfg : s.cfg = some c) (haccs : s.loader.accs = []) (t : State) (ht : t = s.startJobs c) :
    t.mem = s.mem ∧ t.cfg = s.cfg ∧ t.bat = s.bat ∧ t.table = s.table ∧
    (∀ ch x, ch < 8 → s.panel.chans[ch]? = some x → t.panel.chans[ch]? = some x.calibrating) ∧
    t.panel.lastRound = none ∧ t.panel.roundNo = 0 ∧
    t.board.a = TextScreen.fresh ∧ t.board.b = TextScreen.fresh ∧ t.board.build = none ∧ t.board.render = none ∧
    t.act.mode = (if s.act.supplyLow = true then .quiet else .active) ∧
    t.act.deadline = some (s.clk.upSec + if s.act.supplyLow = true then c.times.dormant else c.times.quiet) ∧
    t.ann.volume = (if s.act.supplyLow = true then c.ann.volQuiet else c.ann.volActive) ∧
    t.scrA = s.scrA.start (c.latch .a t.act.mode) ∧ t.scrB = s.scrB.start (c.latch .b t.act.mode) ∧
    t.link = { s.link with receiver := .hunt, chainPos := some c.chain } ∧
    t.rep.written = List.replicate 64 none ∧ t.rep.probe = true ∧
    t.intake = { s.intake with
      stage := if s.intake.stage = .idle ∧ s.intake.fifo ≠ [] then .fetching [] else s.intake.stage } ∧
    t.issue = { s.issue with stage := if s.issue.stage = .idle ∧ s.issue.fifo ≠ [] then .fetching [] else s.issue.stage } ∧
    t.loader = { s.loader with stage := .firstReport, accs := [] } := by
  obtain ⟨hpanel, hpact, hlast, hround, hchans⟩ := s.startPanel_spec c.panel
  unfold startJobs at ht
  generalize s.startPanel c.panel = u at hpanel hpact hlast hround hchans ht
  obtain ⟨hcompose, hcact, hcpanel, ha, hb, hbuild, hrender⟩ := u.recompose_spec
  generalize u.recompose = v at hcompose hcact hcpanel ha hb hbuild hrender ht
  have hvcfg : v.cfg = some c := hcompose.cfg.trans (hpanel.cfg.trans hcfg)
  have hboard := v.startActivity_board (by rw [ha]; exact TextScreen.fresh_strip) (by rw [hb]; exact TextScreen.fresh_strip)
  obtain ⟨hmode, hdeadline⟩ := v.startActivity_act c hvcfg
  obtain ⟨hchans', hlast', hround'⟩ := v.startActivity_panel
  have hstart : Front s v.startActivity := hpanel.trans (hcompose.trans v.startActivity_front)
  have hsupply : v.act.supplyLow = s.act.supplyLow := by rw [hcact, hpact]
  have hceiling : v.act.ceiling = if s.act.supplyLow = true then .quiet else .active := by rw [← hsupply]; rfl
  have hclk : v.clk = s.clk := hcompose.clk.trans hpanel.clk
  have hvolume : volumeOf s.cfg s.act.ceiling = if s.act.supplyLow = true then c.ann.volQuiet else c.ann.volActive := by
    unfold Activity.ceiling
    rw [hcfg]
    cases s.act.supplyLow <;> rfl
  rw [hsupply] at hmode hdeadline
  rw [hclk] at hdeadline
  rw [hcpanel] at hchans' hlast' hround'
  generalize v.startActivity = w at hboard hmode hdeadline hchans' hlast' hround' hstart ht
  rw [w.startedUnits_eq c, intakeNext_issueNext_firstReport (w.startedUnits c (volumeOf s.cfg s.act.ceiling)) c (hstart.cfg.trans hcfg) rfl] at ht
  subst ht
  refine ⟨hstart.mem, hstart.cfg, hstart.bat, hstart.table, fun ch x hch hx => ?_, hlast'.trans hlast, hround'.trans hround,
    (congrArg Board.a hboard).trans ha, (congrArg Board.b hboard).trans hb, (congrArg Board.build hboard).trans hbuild,
    (congrArg Board.render hboard).trans hrender, hmode, hdeadline, hvolume, ?_, ?_, ?_, rfl, rfl, ?_, ?_, ?_⟩
  · exact (congrArg (·[ch]?) hchans').trans (hchans ch x hch hx)
  · exact congrArg (Scan.start · (c.latch .a w.act.mode)) hstart.scrA
  · exact congrArg (Scan.start · (c.latch .b w.act.mode)) hstart.scrB
  · exact congrArg (fun k : Link => { k with receiver := .hunt, chainPos := some c.chain }) hstart.link
  · exact congrArg (fun j : Intake => { j with
      stage := if j.stage = IntakeStage.idle ∧ j.fifo ≠ [] then IntakeStage.fetching [] else j.stage }) hstart.intake
  · exact congrArg (fun u : IssueUnit => { u with
      stage := if u.stage = SaleStage.idle ∧ u.fifo ≠ [] then SaleStage.fetching [] else u.stage }) hstart.issue
  · rw [← haccs]
    exact congrArg (fun l : Loader => { l with stage := LoaderStage.firstReport }) hstart.loader

end State

end Sys2Proof.Machine
end

section
/-! PROOFS. FIRST_ACCEPTANCE, stages 3 to 5 (R183, R197): the slots are examined one by one, and the load is accepted when the report
block stands. -/

namespace Sys2Proof.Machine

namespace State

variable (s : State) (c : Settings)

/-! ### The slots (R197, stage 3) -/

/-- Slot `n` is idle: intake slots 0 to 15, then sale slots 0 to 3. -/
theorem scanIdle_iff (n : Nat) :
    s.scanIdle n = true ↔
      if n < 16 then s.path.intake.getD n .clear = .clear else s.path.sale.getD (n - 16) .clear = .clear := by
  unfold scanIdle saleIdle
  split <;> exact beq_iff_eq

/-- The loader that examines the slots reads the post word of the next one. -/
theorem scan_turn (n a : Nat) (hcfg : s.cfg = some c) (hstage : s.loader.stage = .scanning n) (haccs : s.loader.accs = [])
    (h : s.turnOf .loader (.read a)) : n < 20 ∧ a = c.win.scanWord n := by
  have hwants : s.loaderWants = some (.read a) := h.1
  unfold loaderWants at hwants
  rw [haccs, hstage, hcfg] at hwants
  dsimp only at hwants
  split at hwants
  next hn => exact ⟨hn, (Access.read.inj (Option.some.inj hwants)).symm⟩
  next => exact absurd hwants nofun

/-- The part cycle that reads a slot's post word. -/
theorem exec_partCycle_scan (n a : Nat) (hcfg : s.cfg = some c) (hstage : s.loader.stage = .scanning n) (haccs : s.loader.accs = [])
    (h : s.takesCycle .loader (.read a)) :
    exec (.partCycle none) s = .next ((s.scanSlot c n (s.peek a)).setHold 0).settleLoad := by
  rw [exec_partCycle_turn s .loader _ h]
  have hserved (w : Word) : s.loaderServed w = s.scanSlot c n w := by
    unfold loaderServed
    rw [haccs, hstage, hcfg]
  exact congrArg (fun t => Host.Outcome.next (t.setHold 0).settleLoad) (hserved _)

/-- The examination goes on while slots or writes are left. -/
theorem settleLoad_scanning (n : Nat) (hcfg : s.cfg = some c) (hstage : s.loader.stage = .scanning n)
    (hleft : n ≠ 20 ∨ s.loader.accs ≠ []) : s.settleLoad = s := by
  unfold settleLoad
  rw [hcfg, hstage]
  refine if_neg fun h => ?_
  rcases hleft with hn | haccs
  · exact hn h.1
  · exact haccs (List.isEmpty_iff.mp h.2)

theorem settleLoad_scanned (hcfg : s.cfg = some c) (hstage : s.loader.stage = .scanning 20) (haccs : s.loader.accs = []) :
    s.settleLoad = s.startJobs c := by
  unfold settleLoad
  rw [hcfg, hstage]
  exact if_pos ⟨rfl, List.isEmpty_iff.mpr haccs⟩

theorem scanSlot_intake (n : Nat) (w : Word) (hbusy : w = Code.busy) (hidle : s.scanIdle n = true) (hn : n < 16) :
    s.scanSlot c n w =
      { s with
        path := { s.path with intake := s.path.intake.set n .restart }
        loader := { s.loader with
          stage := .scanning (n + 1)
          accs := s.loader.accs ++
            [⟨c.win.intake + 16 * n + 13, Code.restart, .plain⟩, ⟨c.win.intake + 16 * n + 14, Code.noEntry, .plain⟩,
             ⟨c.win.intake + 16 * n + 15, Code.noEntry, .plain⟩, ⟨c.win.intake + 16 * n + 0, Code.refused, .restartIntake n⟩] } } := by
  unfold scanSlot restartSlot
  dsimp only
  rw [if_pos ⟨hbusy, hidle⟩, if_pos hn]
  rfl

theorem scanSlot_sale (n : Nat) (w : Word) (hbusy : w = Code.busy) (hidle : s.scanIdle n = true) (hn : 16 ≤ n) :
    s.scanSlot c n w =
      { s with
        path := { s.path with sale := s.path.sale.set (n - 16) .restart }
        loader := { s.loader with
          stage := .scanning (n + 1)
          accs := s.loader.accs ++
            [⟨c.win.sale + 16 * (n - 16) + 8, Code.restart, .plain⟩,
             ⟨c.win.sale + 16 * (n - 16) + 0, Code.refused, .restartSale (n - 16)⟩] } } := by
  unfold scanSlot restartSlot
  dsimp only
  rw [if_pos ⟨hbusy, hidle⟩, if_neg (Nat.not_lt.mpr hn)]
  rfl

theorem scanSlot_stands (n : Nat) (w : Word) (hother : ¬ (w = Code.busy ∧ s.scanIdle n = true)) :
    s.scanSlot c n w = s.modLoader fun l => { l with stage := .scanning (n + 1) } := by
  unfold scanSlot
  dsimp only
  rw [if_neg hother]

/-! ### The first write of the report block (R183, R197) -/

/-- The block stands: nothing is left of its first write, and the command word has its answer. -/
theorem firstWritten_iff :
    s.firstWritten = true ↔
      s.rep.extra = [] ∧ s.path.command ≠ .restart ∧
        ∀ o, o = 0 ∨ 13 ≤ o ∧ o ≤ 26 ∨ o = 30 ∨ 32 ≤ o ∧ o ≤ 63 → s.rep.written.getD o none ≠ none := by
  unfold firstWritten
  rw [Bool.and_eq_true, Bool.and_eq_true, List.isEmpty_iff, bne_iff_ne, List.all_eq_true, and_assoc]
  refine and_congr_right fun _ => and_congr_right fun _ => ?_
  constructor
  · intro hall o ho
    have hword := hall o (List.mem_range.mpr (by omega))
    rw [(partWritten_iff o).mpr ho] at hword
    exact Option.isSome_iff_ne_none.mp hword
  · intro hall o _
    cases hpart : partWritten o with
    | false => rfl
    | true => exact Option.isSome_iff_ne_none.mpr (hall o ((partWritten_iff o).mp hpart))

theorem acceptLoad_of_free (haccs : s.loader.accs = []) :
    s.acceptLoad = { s with loader := { s.loader with
      stage := .idle, accs := [⟨0x403, 0, .plain⟩, ⟨0x400, Code.accepted, .accepted⟩] } } :=
  congrArg (fun accs => ({ s with loader := { s.loader with
    stage := .idle, accs := accs ++ loadWrites Code.noReason Code.accepted .accepted } } : State)) haccs

/-- While the first write of the report block is waited for, the load is accepted exactly when it stands. -/
theorem settleLoad_firstReport (hcfg : s.cfg = some c) (hstage : s.loader.stage = .firstReport) (haccs : s.loader.accs = []) :
    (s.firstWritten = false → s.settleLoad = s) ∧
    (s.firstWritten = true → s.settleLoad = { s with loader := { s.loader with
      stage := .idle, accs := [⟨0x403, 0, .plain⟩, ⟨0x400, Code.accepted, .accepted⟩] } }) := by
  have hform : s.settleLoad = if s.firstWritten = true then s.acceptLoad else s := by
    unfold settleLoad
    rw [hcfg, hstage]
  rw [hform]
  refine ⟨fun hwaits => if_neg (by simp [hwaits]), fun hstands => ?_⟩
  rw [if_pos hstands]
  exact s.acceptLoad_of_free haccs

/-- A part cycle while the first write of the report block is waited for. -/
theorem exec_partCycle_firstReport (r : Requester) (x : Access) (hcfg : s.cfg = some c) (h : s.takesCycle r x)
    (hstage : s.loader.stage = .firstReport) (haccs : s.loader.accs = []) :
    ∃ u t : State, u = ((s.landed x).served r (s.fetched x)).setHold 0 ∧ exec (.partCycle none) s = .next t ∧
      (u.firstWritten = false → t = u) ∧
      (u.firstWritten = true → t = { u with loader := { u.loader with
        stage := .idle, accs := [⟨0x403, 0, .plain⟩, ⟨0x400, Code.accepted, .accepted⟩] } }) := by
  have hstill : Still s ((s.landed x).served r (s.fetched x)) := ((Still.refl s).landed x).served r _
  have hloader : (s.landed x).loader = s.loader := by cases x <;> rfl
  have hwork := (s.landed x).served_loaderWork r (s.fetched x) (by rw [hloader, haccs]) (by rw [hloader, hstage])
  obtain ⟨hstage', haccs'⟩ := Prod.mk.inj hwork
  exact ⟨_, _, rfl, exec_partCycle_turn s r x h,
    settleLoad_firstReport (((s.landed x).served r (s.fetched x)).setHold 0) c (hstill.cfg.trans hcfg) hstage' haccs'⟩

/-! ### The answer to a slot left busy (R197) -/

/-- The last write of a slot's RESTART answer. -/
theorem exec_partCycle_restart (n : Nat) (a : Acc) (hn : n < 20)
    (haccs : s.loader.accs = [a]) (h : s.takesCycle .loader (.write a.addr a.val)) (t : State)
    (ht : (((s.poke a.addr a.val).modLoader fun l => { l with accs := [] }).land a.land) = t)
    (hstays : t.loader.stage = .scanning n) : exec (.partCycle none) s = .next (t.setHold 0) := by
  have hserved : (s.landed (.write a.addr a.val)).served .loader (s.fetched (.write a.addr a.val)) = t :=
    (loaderServed_last (s.poke a.addr a.val) _ a haccs).trans ht
  rw [exec_partCycle_turn s .loader _ h, hserved]
  refine congrArg Host.Outcome.next ?_
  have hstays' : (t.setHold 0).loader.stage = .scanning n := hstays
  cases hcfg : (t.setHold 0).cfg with
  | none =>
    unfold settleLoad
    rw [hcfg]
  | some c => exact settleLoad_scanning _ c n hcfg hstays' (.inl (by omega))

end State

end Sys2Proof.Machine
end

section
/-! PROOFS. DESCRIPTOR_REJECTION and FIRST_ACCEPTANCE (R192 to R197). -/

namespace Sys2Proof.Machine

namespace State

variable (s : State) (c : Settings)

/-- What the examination of the last slot leaves: the jobs start. -/
theorem startJobs_scanned (hcfg : s.cfg = some c) (haccs : s.loader.accs = []) (t : State) (ht : t = s.startJobs c) :
    t.mem = s.mem ∧ t.cfg = s.cfg ∧ t.bat = s.bat ∧ t.table = s.table ∧
    (∀ ch x, ch < 8 → s.panel.chans[ch]? = some x →
      ∃ y, t.panel.chans[ch]? = some y ∧ y.state = .calibrating ∧ y.gain = 0 ∧ y.calStep = 0 ∧ y.debounce = 0) ∧
    t.panel.lastRound = none ∧ t.panel.roundNo = 0 ∧
    t.board.a = { TextScreen.initial with marks := List.replicate 5 true } ∧ t.board.b = t.board.a ∧
    t.board.build = none ∧ t.board.render = none ∧
    t.act.mode = (if s.act.supplyLow = true then .quiet else .active) ∧
    t.act.deadline = some (s.clk.upSec + if s.act.supplyLow = true then c.times.dormant else c.times.quiet) ∧
    t.ann.volume = (if s.act.supplyLow = true then c.ann.volQuiet else c.ann.volActive) ∧
    (t.scrA.scanning = true ∧ t.scrA.pos = .blanking ∧ t.scrA.fetch = some 0 ∧ t.scrA.fill = [] ∧
     t.scrA.latched.map Latched.base = some c.win.frameA) ∧
    (t.scrB.scanning = true ∧ t.scrB.pos = .blanking ∧ t.scrB.fetch = some 0 ∧ t.scrB.fill = [] ∧
     t.scrB.latched.map Latched.base = some c.win.frameB) ∧
    t.link = { s.link with receiver := .hunt, chainPos := some c.chain } ∧
    t.rep.written = List.replicate 64 none ∧ t.rep.probe = true ∧
    t.intake = { s.intake with
      stage := if s.intake.stage = .idle ∧ s.intake.fifo ≠ [] then .fetching [] else s.intake.stage } ∧
    t.issue = { s.issue with stage := if s.issue.stage = .idle ∧ s.issue.fifo ≠ [] then .fetching [] else s.issue.stage } ∧
    t.loader = { s.loader with stage := .firstReport, accs := [] } := by
  obtain ⟨hmem, hcfg', hbat, htable, hchans, hlast, hround, ha, hb, hbuild, hrender, hmode, hdeadline, hvolume, hscrA, hscrB,
    hlink, hwritten, hprobe, hintake, hissue, hloader⟩ := s.startJobs_spec c hcfg haccs t ht
  refine ⟨hmem, hcfg', hbat, htable, fun ch x hch hx => ⟨_, hchans ch x hch hx, rfl, rfl, rfl, rfl⟩, hlast, hround, ha,
    hb.trans ha.symm, hbuild, hrender, hmode, hdeadline, hvolume, ?_, ?_, hlink, hwritten, hprobe, hintake, hissue, hloader⟩
  · rw [hscrA]
    exact ⟨rfl, rfl, rfl, rfl, rfl⟩
  · rw [hscrB]
    exact ⟨rfl, rfl, rfl, rfl, rfl⟩

end State

/-- Settles O35: by the tests of R194 in their order, and by the stages of R197. -/
theorem descriptorRejectedOrFirstAccepted : Obligations.DescriptorRejectedOrFirstAccepted := by
  unfold Obligations.DescriptorRejectedOrFirstAccepted
  refine ⟨fun s got hstage => ?_, ?_, ?_, ?_⟩
  · obtain ⟨hformat, hlength, hrest⟩ := s.rejection_spec got
    refine ⟨fun r hreject => s.exec_descriptorRejection got r hstage hreject, hformat, hlength, hrest, fun haccept hcfg => ?_⟩
    exact ⟨_, s.exec_firstAcceptance got hstage haccept hcfg, s.takeSettings_spec (readSettings got) _ rfl⟩
  · intro s c n a hmain hreset hwaiting hcfg hstage haccs hturn idle base
    have hidle : s.scanIdle n = true ↔ idle := s.scanIdle_iff n
    obtain ⟨hn20, haddr⟩ := s.scan_turn c n a hcfg hstage haccs hturn
    have hexec := s.exec_partCycle_scan c n a hcfg hstage haccs ⟨hmain, hreset, hwaiting, hturn⟩
    refine ⟨haddr, fun hbusy hid hn => ?_, fun hbusy hid hn => ?_, fun hother hn => ?_, fun hother hn => ?_⟩
    · have hbase : base = c.win.intake + 16 * n := if_pos hn
      rw [hexec, hbase, s.scanSlot_intake c n _ hbusy (hidle.mpr hid) hn, haccs]
      exact congrArg Host.Outcome.next (State.settleLoad_scanning _ c (n + 1) hcfg rfl (.inr (List.cons_ne_nil _ _)))
    · have hbase : base = c.win.sale + 16 * (n - 16) := if_neg (Nat.not_lt.mpr hn)
      rw [hexec, hbase, s.scanSlot_sale c n _ hbusy (hidle.mpr hid) hn, haccs]
      exact congrArg Host.Outcome.next (State.settleLoad_scanning _ c (n + 1) hcfg rfl (.inr (List.cons_ne_nil _ _)))
    · rw [hexec, s.scanSlot_stands c n _ (fun h => hother ⟨h.1, hidle.mp h.2⟩)]
      exact congrArg Host.Outcome.next (State.settleLoad_scanning _ c (n + 1) hcfg rfl (.inl (by omega)))
    · subst hn
      rw [hexec, s.scanSlot_stands c 19 _ (fun h => hother ⟨h.1, hidle.mp h.2⟩)]
      exact ⟨_, congrArg Host.Outcome.next (State.settleLoad_scanned _ c hcfg rfl haccs),
        State.startJobs_scanned ((s.modLoader fun l => { l with stage := .scanning (19 + 1) }).setHold 0) c hcfg haccs _ rfl⟩
  · intro s c r x hcfg hturn hstage haccs
    obtain ⟨u, t, hu, hexec, hwaits, hstands⟩ := s.exec_partCycle_firstReport c r x hcfg hturn hstage haccs
    refine ⟨u, t, hu, hexec, fun hnot => hwaits ?_, fun hwhole => hstands (u.firstWritten_iff.mpr hwhole)⟩
    exact Bool.eq_false_iff.mpr fun h => hnot (u.firstWritten_iff.mp h)
  · intro s n a slot hmain hreset hwaiting hstage hn haccs hturn
    have hexec := s.exec_partCycle_restart n a hn haccs ⟨hmain, hreset, hwaiting, hturn⟩
    refine ⟨fun hland => ?_, fun hland => ?_⟩
    · exact hexec _ (congrArg (State.land _) hland) hstage
    · exact hexec _ (congrArg (State.land _) hland) hstage

end Sys2Proof.Machine
end

section
/-! PROOFS. The sample round's steps on the channels (R87, R88, R90, R91, R94, R95): each step maps the channels it names one by one. -/

namespace Sys2Proof.Machine

/-! ### One channel -/

/-- A sample of one channel: a filter step or a calibration step (R88, R90). -/
def Channel.sampled (x : Channel) (p : PanelParams) (m : Mode) (r : Nat) : Channel :=
  match x.state with
  | .idle => x.filter p m r
  | .active => x.filter p m r
  | .calibrating => if x.calStep < 6 then x.tryBit p r else x.finalSample p r
  | .uncalibrated => x
  | .failed => x

/-- The sample ends the channel's calibration outside the band (R88). -/
def Channel.fails (x : Channel) (p : PanelParams) (r : Nat) : Bool :=
  x.state == .calibrating && decide (6 ≤ x.calStep) && !inBand p.target r

/-- A channel 1 to 6 as WET begins (R94). -/
def Channel.blocked (x : Channel) : Channel := if x.state = .active then x.released else { x with debounce := 0 }

/-- A channel 1 to 6 as WET ends (R95). -/
def Channel.dried (x : Channel) (p : PanelParams) : Channel :=
  if x.state = .idle then (if inBand p.target (x.filtered.tdiv 16) then x.reseeded else x.reseeded.calibrating) else x

/-- The threshold test of one of the channels 0 to 6: while WET the touch channels take no entry (R91, R94). -/
def Channel.tested (x : Channel) (p : PanelParams) (wet : Bool) (now ch : Nat) : Channel :=
  if ch ≠ 0 ∧ wet = true then { x with debounce := 0 } else (x.test p ch now).1

/-- The edge that test finds. -/
def Channel.edge (x : Channel) (p : PanelParams) (wet : Bool) (now ch : Nat) : Edge :=
  if ch ≠ 0 ∧ wet = true then .none else (x.test p ch now).2

namespace State

variable (s : State)

/-! ### Channels put in place one after another -/

/-- A channel put in place as it stands changes nothing. -/
theorem setChan_chan (ch : Nat) : s.setChan ch (s.chan ch) = s := by
  have hset : s.panel.chans.set ch (s.chan ch) = s.panel.chans := by
    by_cases hlen : ch < s.panel.chans.length
    · rw [s.chan_of_getElem? ch _ (List.getElem?_eq_getElem hlen), List.set_getElem_self]
    · exact List.set_eq_of_length_le (Nat.le_of_not_lt hlen)
  exact congrArg (fun l => s.modPanel fun p => { p with chans := l }) hset

/-- The channels of a list are mapped, each by its own function. -/
def mapChans (l : List Nat) (f : Nat → Channel → Channel) : State := l.foldl (fun s ch => s.setChan ch (f ch (s.chan ch))) s

/-- Nothing but the channels changes. -/
theorem mapChans_eq (l : List Nat) (f : Nat → Channel → Channel) :
    s.mapChans l f = s.modPanel fun p => { p with chans := (s.mapChans l f).panel.chans } := by
  unfold mapChans
  induction l generalizing s with
  | nil => rfl
  | cons ch rest ih => exact ih (s.setChan ch (f ch (s.chan ch)))

theorem mapChans_getElem? (l : List Nat) (f : Nat → Channel → Channel) (hnodup : l.Nodup) (k : Nat) :
    (s.mapChans l f).panel.chans[k]? =
      if k ∈ l then (s.panel.chans[k]?).map (f k) else s.panel.chans[k]? := by
  unfold mapChans
  induction l generalizing s with
  | nil => simp
  | cons ch rest ih =>
    obtain ⟨hout, hrest⟩ := List.nodup_cons.mp hnodup
    rw [List.foldl_cons, ih _ hrest]
    by_cases hsame : k = ch
    · subst hsame
      rw [if_neg hout, if_pos List.mem_cons_self]
      cases hx : s.panel.chans[k]? with
      | none =>
        rw [setChan_chans]
        exact List.getElem?_eq_none (by rw [List.length_set]; exact List.getElem?_eq_none_iff.mp hx)
      | some x => rw [s.chans_set_self k _ x hx, s.chan_of_getElem? k x hx]; rfl
    · rw [s.chans_set_getElem? ch k _ (Ne.symm hsame)]
      exact ite_congr_iff (by simp [hsame]) rfl rfl

/-- A channel that is not mapped keeps its record. -/
theorem chan_mapChans_of_not_mem (l : List Nat) (f : Nat → Channel → Channel) (hnodup : l.Nodup) (k : Nat) (hk : k ∉ l) :
    (s.mapChans l f).chan k = s.chan k :=
  s.chan_congr _ k (by rw [s.mapChans_getElem? l f hnodup, if_neg hk])

/-! ### Samples (R87, R88, R90) -/

/-- A sample puts the sampled channel in place, and counts a panel fault when its calibration fails. -/
theorem sampleChan_eq (p : PanelParams) (ch r : Nat) :
    s.sampleChan p ch r =
      if (s.chan ch).fails p r = true then (s.setChan ch ((s.chan ch).sampled p s.act.mode r)).panelFault
      else s.setChan ch ((s.chan ch).sampled p s.act.mode r) := by
  unfold sampleChan Channel.sampled Channel.fails
  dsimp only
  cases hstate : (s.chan ch).state with
  | uncalibrated => simp [s.setChan_chan ch]
  | idle => simp
  | active => simp
  | failed => simp [s.setChan_chan ch]
  | calibrating =>
    by_cases hstep : (s.chan ch).calStep < 6
    · simp [hstep, Nat.not_le.mpr hstep]
    · cases hband : inBand p.target r with
      | true => simp [hstep]
      | false => simp [hstep, Nat.le_of_not_lt hstep]

/-! ### The rain reference (R94, R95) -/

theorem block_eq : s.block = (s.mapChans [1, 2, 3, 4, 5, 6] fun _ x => x.blocked).clearTracker := rfl

theorem wetEnd_eq (p : PanelParams) : s.wetEnd p = s.mapChans [1, 2, 3, 4, 5, 6] fun _ x => x.dried p := by
  have hstep (u : State) (ch : Nat) :
      (if (u.chan ch).state = .idle then u.reseedChan p ch else u) = u.setChan ch ((u.chan ch).dried p) := by
    unfold Channel.dried
    split
    · rfl
    · rw [u.setChan_chan ch]
  unfold wetEnd mapChans
  simp only [hstep]

/-! ### Thresholds (R91) -/

theorem testChan_eq (p : PanelParams) (ch : Nat) :
    s.testChan p ch =
      (s.setChan ch ((s.chan ch).tested p s.wet s.nowSub ch), (s.chan ch).edge p s.wet s.nowSub ch) := by
  unfold testChan Channel.tested Channel.edge
  split <;> rfl

theorem wet_eq_of_chan {s t : State} (h : t.chan 7 = s.chan 7) : t.wet = s.wet := by
  have hactive (u : State) : u.wet = true ↔ (u.chan 7).state = .active := by
    rw [← Bool.not_eq_false, u.wet_false_iff, ne_eq, Classical.not_not]
  rw [Bool.eq_iff_iff, hactive, hactive, h]

/-- The tests of some channels, the rain reference not among them: each is tested, and its edge is found. -/
theorem testChans_eq (p : PanelParams) (l : List Nat) (hnodup : l.Nodup) (h7 : 7 ∉ l) :
    s.testChans p l =
      (s.mapChans l (fun ch x => x.tested p s.wet s.nowSub ch), l.map fun ch => (ch, (s.chan ch).edge p s.wet s.nowSub ch)) := by
  induction l generalizing s with
  | nil => rfl
  | cons ch rest ih =>
    obtain ⟨hout, hrest⟩ := List.nodup_cons.mp hnodup
    obtain ⟨hne, h7'⟩ := not_or.mp (mt List.mem_cons.mpr h7)
    have hother (k : Nat) (hk : ch ≠ k) (x : Channel) : (s.setChan ch x).chan k = s.chan k :=
      s.chan_congr _ k (s.chans_set_getElem? ch k x hk)
    have hwet (x : Channel) : (s.setChan ch x).wet = s.wet := wet_eq_of_chan (hother 7 (Ne.symm hne) x)
    unfold testChans
    dsimp only
    rw [testChan_eq]
    dsimp only
    rw [ih _ hrest h7', hwet]
    refine Prod.ext rfl ?_
    refine congrArg (List.cons _) (List.map_congr_left fun k hk => ?_)
    rw [hother k (fun h => hout (h ▸ hk))]
    rfl

end State

end Sys2Proof.Machine
end

section
/-! PROOFS. The sample round up to its thresholds (R87, R88, R90, R91, R94, R95; R99, steps 1 to 3). -/

namespace Sys2Proof.Machine

/-- The report unit after `n` panel faults (R88). -/
def ReportUnit.faulted (r : ReportUnit) : Nat → ReportUnit
  | 0 => r
  | n + 1 => ((r.counted .panelFault 1).raised .panelFault).faulted n

/-- A channel 1 to 6 after the rain reference's test (R94, R95). -/
def Channel.rained (x : Channel) (p : PanelParams) (e : Edge) : Channel :=
  match e with
  | .enter => x.blocked
  | .leave => x.dried p
  | .none => x

namespace State

variable (s : State)

/-! ### Samples -/

theorem mapChans_rep (l : List Nat) (f : Nat → Channel → Channel) (r : ReportUnit) :
    ({ s with rep := r } : State).mapChans l f = { s.mapChans l f with rep := r } := by
  unfold mapChans
  induction l generalizing s with
  | nil => rfl
  | cons ch rest ih => exact ih (s.setChan ch (f ch (s.chan ch)))

theorem sampleChan_faulted (p : PanelParams) (ch r : Nat) :
    s.sampleChan p ch r =
      { s.setChan ch ((s.chan ch).sampled p s.act.mode r) with
        rep := s.rep.faulted (if (s.chan ch).fails p r = true then 1 else 0) } := by
  rw [sampleChan_eq]
  split <;> rfl

/-- Sampling some channels maps them, and counts the calibrations that fail. -/
theorem sampleChans_eq (p : PanelParams) (r : Nat → Nat) (l : List Nat) (hnodup : l.Nodup) :
    l.foldl (fun s ch => s.sampleChan p ch (r ch)) s =
      { s.mapChans l (fun ch x => x.sampled p s.act.mode (r ch)) with
        rep := s.rep.faulted (l.filter fun ch => (s.chan ch).fails p (r ch)).length } := by
  induction l generalizing s with
  | nil => rfl
  | cons ch rest ih =>
    obtain ⟨hout, hrest⟩ := List.nodup_cons.mp hnodup
    have hkept : ∀ k ∈ rest, (s.setChan ch ((s.chan ch).sampled p s.act.mode (r ch))).chan k = s.chan k := fun k hk =>
      s.chan_congr _ k (s.chans_set_getElem? ch k _ fun h => hout (h ▸ hk))
    have hfilter : (rest.filter fun k => ((s.setChan ch ((s.chan ch).sampled p s.act.mode (r ch))).chan k).fails p (r k)) =
        rest.filter fun k => (s.chan k).fails p (r k) :=
      List.filter_congr fun k hk => by rw [hkept k hk]
    rw [List.foldl_cons, sampleChan_faulted]
    refine (ih _ hrest).trans ?_
    rw [mapChans_rep]
    refine congrArg (fun q => ({ s.mapChans (ch :: rest) (fun ch x => x.sampled p s.act.mode (r ch)) with rep := q } : State)) ?_
    change (s.rep.faulted (if (s.chan ch).fails p (r ch) = true then 1 else 0)).faulted
      (rest.filter fun k => ((s.setChan ch ((s.chan ch).sampled p s.act.mode (r ch))).chan k).fails p (r k)).length = _
    rw [hfilter, List.filter_cons]
    split <;> rfl

/-! ### The rain reference (R94, R95) -/

/-- The test of the rain reference puts it in place, and maps the touch channels as WET begins or ends. -/
theorem testRain_eq (p : PanelParams) :
    s.testRain p =
      (let r := (s.chan 7).test p 7 s.nowSub
       let u := (s.setChan 7 r.1).mapChans [1, 2, 3, 4, 5, 6] fun _ x => x.rained p r.2
       if r.2 = .enter then u.clearTracker else u) := by
  have hstands (u : State) : u.mapChans [1, 2, 3, 4, 5, 6] (fun _ x => x) = u := by
    unfold mapChans
    simp only [setChan_chan, List.foldl_cons, List.foldl_nil]
  unfold testRain
  dsimp only
  cases (s.chan 7).test p 7 s.nowSub with
  | mk x e =>
    cases e with
    | none => exact (hstands _).symm
    | enter => exact block_eq _
    | leave => exact wetEnd_eq _ p

/-- The edge of the rain reference's test in a round that samples it. -/
def rainEdge (p : PanelParams) (counts : List Nat) : Edge :=
  (((s.chan 7).sampled p s.act.mode (clampCount (counts.getD 7 0))).test p 7 s.nowSub).2

/-- A channel 0 to 6 as its thresholds find it in a round that samples all eight (R99, steps 1 and 2). -/
def preTest (p : PanelParams) (counts : List Nat) (ch : Nat) (x : Channel) : Channel :=
  if ch = 0 then x.sampled p s.act.mode (clampCount (counts.getD ch 0))
  else (x.sampled p s.act.mode (clampCount (counts.getD ch 0))).rained p (s.rainEdge p counts)

/-- A channel after the samples, the rain reference and the thresholds of such a round (R99, steps 1 to 3). -/
def roundChan (p : PanelParams) (counts : List Nat) (wet : Bool) (ch : Nat) (x : Channel) : Channel :=
  if ch = 7 then ((x.sampled p s.act.mode (clampCount (counts.getD ch 0))).test p 7 s.nowSub).1
  else (s.preTest p counts ch x).tested p wet s.nowSub ch

/-! ### Channels there are not -/

theorem mapChans_length (l : List Nat) (f : Nat → Channel → Channel) :
    (s.mapChans l f).panel.chans.length = s.panel.chans.length := by
  unfold mapChans
  induction l generalizing s with
  | nil => rfl
  | cons ch rest ih => exact (ih _).trans (List.length_set ..)

/-- A mapped channel; one that there is not stays so, as the map takes it. -/
theorem chan_mapChans (l : List Nat) (f : Nat → Channel → Channel) (hnodup : l.Nodup) (k : Nat) (hk : k ∈ l)
    (hnone : f k Channel.initial = Channel.initial) : (s.mapChans l f).chan k = f k (s.chan k) := by
  have hmap := s.mapChans_getElem? l f hnodup k
  rw [if_pos hk] at hmap
  rw [chan, chan, List.getD_eq_getElem?_getD, List.getD_eq_getElem?_getD, hmap]
  cases s.panel.chans[k]? with
  | none => exact hnone.symm
  | some x => rfl

theorem chan_setChan_self (k : Nat) (f : Channel → Channel) (hnone : f Channel.initial = Channel.initial) :
    (s.setChan k (f (s.chan k))).chan k = f (s.chan k) :=
  s.chan_mapChans [k] (fun _ => f) (by simp) k List.mem_cons_self hnone

end State

theorem Channel.sampled_initial (p : PanelParams) (m : Mode) (r : Nat) : Channel.initial.sampled p m r = Channel.initial := rfl

theorem Channel.rained_initial (p : PanelParams) (e : Edge) : Channel.initial.rained p e = Channel.initial := by
  cases e <;> rfl

theorem Channel.tested_initial (p : PanelParams) (wet : Bool) (now ch : Nat) :
    Channel.initial.tested p wet now ch = Channel.initial := by
  unfold Channel.tested
  split <;> rfl

end Sys2Proof.Machine
end

section
/-! PROOFS. The sample round up to its thresholds, together (R99, steps 1 to 3). -/

namespace Sys2Proof.Machine

namespace State

variable (s : State)

/-- What the samples, the rain reference and the thresholds of a round that samples all eight leave of the panel unit. -/
structure RoundTested (p : PanelParams) (counts : List Nat) (u : State) (es : List (Nat × Edge)) : Prop where
  state : u = { s with
    panel := u.panel
    rep := s.rep.faulted ([0, 1, 2, 3, 4, 5, 6, 7].filter fun ch => (s.chan ch).fails p (clampCount (counts.getD ch 0))).length }
  panel : u.panel = { s.panel with
    chans := u.panel.chans, lastRound := some s.nowSub
    roundNo := if s.act.mode = .dormant then s.panel.roundNo + 1 else s.panel.roundNo
    tracker := if s.rainEdge p counts = .enter then none else s.panel.tracker
    touched := if s.rainEdge p counts = .enter then false else s.panel.touched }
  length : u.panel.chans.length = s.panel.chans.length
  chan : ∀ ch, ch < 8 → u.chan ch = s.roundChan p counts u.wet ch (s.chan ch)
  edges : es = [0, 1, 2, 3, 4, 5, 6].map fun ch => (ch, (s.preTest p counts ch (s.chan ch)).edge p u.wet s.nowSub ch)

/-- The samples of all eight channels. -/
theorem sampled_all (p : PanelParams) (counts : List Nat) :
    s.sampled p counts [0, 1, 2, 3, 4, 5, 6, 7] =
      { s.noteRound.mapChans [0, 1, 2, 3, 4, 5, 6, 7] (fun ch x => x.sampled p s.act.mode (clampCount (counts.getD ch 0))) with
        rep := s.rep.faulted
          ([0, 1, 2, 3, 4, 5, 6, 7].filter fun ch => (s.chan ch).fails p (clampCount (counts.getD ch 0))).length } :=
  s.noteRound.sampleChans_eq p (fun ch => clampCount (counts.getD ch 0)) _ (by decide)

theorem mem_touchChannels (ch : Nat) : ch ∈ [1, 2, 3, 4, 5, 6] ↔ 1 ≤ ch ∧ ch ≤ 6 := by
  simp only [List.mem_cons, List.not_mem_nil, or_false]
  omega

theorem mem_testedChannels (ch : Nat) : ch ∈ [0, 1, 2, 3, 4, 5, 6] ↔ ch < 7 := by
  simp only [List.mem_cons, List.not_mem_nil, or_false]
  omega

/-- What the test of the rain reference leaves of the panel unit, with the record and the edge it finds (R94, R95; R99, step 2). -/
structure RainTested (p : PanelParams) (u : State) (r : Channel × Edge) : Prop where
  state : u = { s with panel := u.panel }
  panel : u.panel = { s.panel with
    chans := u.panel.chans
    tracker := if r.2 = .enter then none else s.panel.tracker
    touched := if r.2 = .enter then false else s.panel.touched }
  length : u.panel.chans.length = s.panel.chans.length
  rain : u.chan 7 = r.1
  plate : u.chan 0 = s.chan 0
  touch : ∀ ch, 1 ≤ ch → ch ≤ 6 → u.chan ch = (s.chan ch).rained p r.2

theorem rainTested (p : PanelParams) : s.RainTested p (s.testRain p) ((s.chan 7).test p 7 s.nowSub) := by
  have hother (x : Channel) (ch : Nat) (hch : ch ≠ 7) : (s.setChan 7 x).chan ch = s.chan ch :=
    s.chan_congr _ ch (s.chans_set_getElem? 7 ch x (Ne.symm hch))
  have hrain : (s.setChan 7 ((s.chan 7).test p 7 s.nowSub).1).chan 7 = ((s.chan 7).test p 7 s.nowSub).1 :=
    s.chan_setChan_self 7 (fun x => (x.test p 7 s.nowSub).1) rfl
  rw [testRain_eq]
  dsimp only
  generalize (s.chan 7).test p 7 s.nowSub = r at hrain
  have hnodup : [1, 2, 3, 4, 5, 6].Nodup := by decide
  have hout (ch : Nat) (hch : ch ∉ [1, 2, 3, 4, 5, 6]) :=
    (s.setChan 7 r.1).chan_mapChans_of_not_mem [1, 2, 3, 4, 5, 6] (fun _ x => x.rained p r.2) hnodup ch hch
  have hin (ch : Nat) (hch : ch ∈ [1, 2, 3, 4, 5, 6]) :=
    (s.setChan 7 r.1).chan_mapChans [1, 2, 3, 4, 5, 6] (fun _ x => x.rained p r.2) hnodup ch hch (Channel.rained_initial p r.2)
  have hlength := ((s.setChan 7 r.1).mapChans_length [1, 2, 3, 4, 5, 6] (fun _ x => x.rained p r.2)).trans
    (List.length_set (as := s.panel.chans) (i := 7) (a := r.1))
  have hstate := (s.setChan 7 r.1).mapChans_eq [1, 2, 3, 4, 5, 6] (fun _ x => x.rained p r.2)
  generalize (s.setChan 7 r.1).mapChans [1, 2, 3, 4, 5, 6] (fun _ x => x.rained p r.2) = v at hout hin hlength hstate ⊢
  have hpanel : v.panel = { s.panel with chans := v.panel.chans } := congrArg State.panel hstate
  have hv : v = { s with panel := v.panel } := by
    rw [hpanel]
    exact hstate
  have hplate : v.chan 0 = s.chan 0 := (hout 0 (by decide)).trans (hother r.1 0 (by decide))
  have htouch (ch : Nat) (hlow : 1 ≤ ch) (hhigh : ch ≤ 6) : v.chan ch = (s.chan ch).rained p r.2 := by
    rw [hin ch ((mem_touchChannels ch).mpr ⟨hlow, hhigh⟩), hother r.1 ch (by omega)]
  have hseven : v.chan 7 = r.1 := (hout 7 (by decide)).trans hrain
  by_cases henter : r.2 = .enter
  · rw [if_pos henter]
    refine ⟨?_, ?_, hlength, hseven, hplate, htouch⟩
    · exact congrArg State.clearTracker hv
    · rw [if_pos henter, if_pos henter]
      exact congrArg (fun q : Panel => { q with tracker := none, touched := false }) hpanel
  · rw [if_neg henter]
    refine ⟨hv, ?_, hlength, hseven, hplate, htouch⟩
    rw [if_neg henter, if_neg henter]
    exact hpanel

/-- The thresholds come after the rain reference, which they leave as it is. -/
theorem roundTested (p : PanelParams) (counts : List Nat) :
    s.RoundTested p counts
      (((s.sampled p counts [0, 1, 2, 3, 4, 5, 6, 7]).testRain p).testChans p [0, 1, 2, 3, 4, 5, 6]).1
      (((s.sampled p counts [0, 1, 2, 3, 4, 5, 6, 7]).testRain p).testChans p [0, 1, 2, 3, 4, 5, 6]).2 := by
  have hsampled := s.sampled_all p counts
  have hmapped := s.noteRound.mapChans_eq [0, 1, 2, 3, 4, 5, 6, 7]
    (fun ch x => x.sampled p s.act.mode (clampCount (counts.getD ch 0)))
  have hchan : ∀ ch, ch < 8 → (s.sampled p counts [0, 1, 2, 3, 4, 5, 6, 7]).chan ch =
      (s.chan ch).sampled p s.act.mode (clampCount (counts.getD ch 0)) := fun ch hch => by
    rw [hsampled]
    exact s.noteRound.chan_mapChans _ (fun ch x => x.sampled p s.act.mode (clampCount (counts.getD ch 0))) (by decide) ch
      (mem_channels ch hch) (Channel.sampled_initial p _ _)
  have hlength : (s.sampled p counts [0, 1, 2, 3, 4, 5, 6, 7]).panel.chans.length = s.panel.chans.length := by
    rw [hsampled]
    exact s.noteRound.mapChans_length _ _
  rw [hmapped] at hsampled
  generalize s.sampled p counts [0, 1, 2, 3, 4, 5, 6, 7] = a at hsampled hchan hlength ⊢
  have hapanel : a.panel = { s.panel with
      chans := a.panel.chans, lastRound := some s.nowSub
      roundNo := if s.act.mode = .dormant then s.panel.roundNo + 1 else s.panel.roundNo } := by
    rw [hsampled]
    rfl
  have hastate : a = { s with panel := a.panel, rep := s.rep.faulted ([0, 1, 2, 3, 4, 5, 6, 7].filter fun ch =>
      (s.chan ch).fails p (clampCount (counts.getD ch 0))).length } := by
    rw [hsampled]
    rfl
  have hnow : a.nowSub = s.nowSub := by rw [hastate]; rfl
  have hrained := a.rainTested p
  rw [hchan 7 (by decide), hnow] at hrained
  obtain ⟨hbstate, hbpanel, hblength, hseven, hplate, htouch⟩ := hrained
  generalize a.testRain p = b at hbstate hbpanel hblength hseven hplate htouch ⊢
  have hbnow : b.nowSub = s.nowSub := by rw [hbstate]; exact hnow
  rw [b.testChans_eq p [0, 1, 2, 3, 4, 5, 6] (by decide) (by decide), hbnow]
  have hout := b.chan_mapChans_of_not_mem [0, 1, 2, 3, 4, 5, 6] (fun ch x => x.tested p b.wet s.nowSub ch) (by decide) 7 (by decide)
  have hin (ch : Nat) (hch : ch < 7) := b.chan_mapChans [0, 1, 2, 3, 4, 5, 6] (fun ch x => x.tested p b.wet s.nowSub ch) (by decide)
    ch ((mem_testedChannels ch).mpr hch) (Channel.tested_initial p _ _ _)
  have hclength := b.mapChans_length [0, 1, 2, 3, 4, 5, 6] (fun ch x => x.tested p b.wet s.nowSub ch)
  have hcstate := b.mapChans_eq [0, 1, 2, 3, 4, 5, 6] (fun ch x => x.tested p b.wet s.nowSub ch)
  dsimp only
  have hpre (ch : Nat) (hch : ch < 7) : b.chan ch = s.preTest p counts ch (s.chan ch) := by
    unfold preTest
    by_cases hzero : ch = 0
    · rw [if_pos hzero, hzero, hplate, hchan 0 (by decide)]
    · rw [if_neg hzero, htouch ch (by omega) (by omega), hchan ch (by omega)]
      rfl
  generalize hc : b.mapChans [0, 1, 2, 3, 4, 5, 6] (fun ch x => x.tested p b.wet s.nowSub ch) = d at hout hin hclength hcstate ⊢
  have hwet : d.wet = b.wet := wet_eq_of_chan hout
  have hdpanel : d.panel = { b.panel with chans := d.panel.chans } := congrArg State.panel hcstate
  refine ⟨?_, ?_, hclength.trans (hblength.trans hlength), fun ch hch => ?_, ?_⟩
  · have hd : d = { b with panel := d.panel } := by
      rw [hdpanel]
      exact hcstate
    rw [hd, hbstate, hastate]
  · rw [hdpanel, hbpanel, hapanel]
    rfl
  · unfold roundChan
    by_cases h7 : ch = 7
    · rw [if_pos h7, h7, hout, hseven]
    · rw [if_neg h7, hwet, ← hpre ch (by omega)]
      exact hin ch (by omega)
  · rw [hwet]
    exact List.map_congr_left fun ch hch => by rw [← hpre ch ((mem_testedChannels ch).mp hch)]

end State

end Sys2Proof.Machine
end

section
/-! PROOFS. One channel in a sample round (R88, R90, R91, R94, R95). -/

namespace Sys2Proof.Machine

namespace Channel

variable (x : Channel) (p : PanelParams)

/-! ### The threshold test (R91) -/

/-- The measure of a channel has passed the threshold that its state looks for. -/
def Passes (thr : Nat) : Prop := if x.state = .idle then (thr : Int) ≤ x.delta else x.delta < (thr : Int) - (thr / 4 : Nat)

/-- From `x` to `y` the threshold test has run at an uptime. -/
structure TestedTo (thr now : Nat) (y : Channel) : Prop where
  short : ¬ x.Passes thr → y.state = x.state ∧ y.debounce = 0 ∧ y.onset = x.onset
  waits : x.Passes thr → x.debounce + 1 < p.debounce → y.state = x.state ∧ y.debounce = x.debounce + 1 ∧ y.onset = x.onset
  changes : x.Passes thr → p.debounce ≤ x.debounce + 1 →
    y.debounce = 0 ∧ (x.state = .idle → y.state = .active ∧ y.onset = some now) ∧ (x.state = .active → y.state = .idle ∧ y.onset = x.onset)

/-- The test leaves what the filters and the calibration made of the channel. -/
theorem test_keeps (ch now : Nat) :
    (x.test p ch now).1.gain = x.gain ∧ (x.test p ch now).1.filtered = x.filtered ∧ (x.test p ch now).1.baseline = x.baseline ∧
    (x.test p ch now).1.delta = x.delta ∧ (x.test p ch now).1.calStep = x.calStep := by
  unfold test
  dsimp only
  split
  · split
    · split <;> exact ⟨rfl, rfl, rfl, rfl, rfl⟩
    · exact ⟨rfl, rfl, rfl, rfl, rfl⟩
  · split
    · split <;> exact ⟨rfl, rfl, rfl, rfl, rfl⟩
    · exact ⟨rfl, rfl, rfl, rfl, rfl⟩
  · exact ⟨rfl, rfl, rfl, rfl, rfl⟩
  · exact ⟨rfl, rfl, rfl, rfl, rfl⟩
  · exact ⟨rfl, rfl, rfl, rfl, rfl⟩

theorem test_idle (ch now : Nat) (h : x.state = .idle) :
    x.test p ch now =
      if (p.threshold ch : Int) ≤ x.delta then
        if p.debounce ≤ x.debounce + 1 then ({ x with state := .active, debounce := 0, onset := some now }, .enter)
        else ({ x with debounce := x.debounce + 1 }, .none)
      else ({ x with debounce := 0 }, .none) := by
  unfold test
  dsimp only
  rw [h]

theorem test_active (ch now : Nat) (h : x.state = .active) :
    x.test p ch now =
      if x.delta < (p.threshold ch : Int) - (p.threshold ch / 4 : Nat) then
        if p.debounce ≤ x.debounce + 1 then (x.released, .leave) else ({ x with debounce := x.debounce + 1 }, .none)
      else ({ x with debounce := 0 }, .none) := by
  unfold test
  dsimp only
  rw [h]

/-- A channel that is neither IDLE nor ACTIVE is not tested. -/
theorem test_other (ch now : Nat) (hidle : x.state ≠ .idle) (hactive : x.state ≠ .active) : x.test p ch now = (x, .none) := by
  unfold test
  dsimp only
  cases h : x.state with
  | idle => exact absurd h hidle
  | active => exact absurd h hactive
  | uncalibrated => rfl
  | calibrating => rfl
  | failed => rfl

theorem test_testedTo (ch now : Nat) (h : x.state = .idle ∨ x.state = .active) :
    x.TestedTo p (p.threshold ch) now (x.test p ch now).1 := by
  rcases h with h | h
  · have hpasses : x.Passes (p.threshold ch) ↔ (p.threshold ch : Int) ≤ x.delta := by
      unfold Passes
      rw [if_pos h]
    rw [x.test_idle p ch now h]
    refine ⟨fun hshort => ?_, fun hpass hwaits => ?_, fun hpass hlong => ?_⟩
    · rw [if_neg (mt hpasses.mpr hshort)]
      exact ⟨rfl, rfl, rfl⟩
    · rw [if_pos (hpasses.mp hpass), if_neg (Nat.not_le.mpr hwaits)]
      exact ⟨rfl, rfl, rfl⟩
    · rw [if_pos (hpasses.mp hpass), if_pos hlong]
      exact ⟨rfl, fun _ => ⟨rfl, rfl⟩, fun hactive => absurd (h.symm.trans hactive) nofun⟩
  · have hpasses : x.Passes (p.threshold ch) ↔ x.delta < (p.threshold ch : Int) - (p.threshold ch / 4 : Nat) := by
      unfold Passes
      rw [if_neg (by rw [h]; exact nofun)]
    rw [x.test_active p ch now h]
    refine ⟨fun hshort => ?_, fun hpass hwaits => ?_, fun hpass hlong => ?_⟩
    · rw [if_neg (mt hpasses.mpr hshort)]
      exact ⟨rfl, rfl, rfl⟩
    · rw [if_pos (hpasses.mp hpass), if_neg (Nat.not_le.mpr hwaits)]
      exact ⟨rfl, rfl, rfl⟩
    · rw [if_pos (hpasses.mp hpass), if_pos hlong]
      exact ⟨rfl, fun hidle => absurd (h.symm.trans hidle) nofun, fun _ => ⟨rfl, rfl⟩⟩

/-- The edge of a test says what became of the state. -/
theorem test_edge (ch now : Nat) :
    ((x.test p ch now).2 = .enter ↔ x.state ≠ .active ∧ (x.test p ch now).1.state = .active) ∧
    ((x.test p ch now).2 = .leave ↔ x.state = .active ∧ (x.test p ch now).1.state ≠ .active) := by
  by_cases hidle : x.state = .idle
  · rw [x.test_idle p ch now hidle]
    split
    · split <;> simp [hidle]
    · simp [hidle]
  · by_cases hactive : x.state = .active
    · rw [x.test_active p ch now hactive]
      split
      · split <;> simp [hactive, released]
      · simp [hactive]
    · rw [x.test_other p ch now hidle hactive]
      simp [hactive]

/-! ### The sample (R88, R90) -/

theorem sampled_live (m : Mode) (r : Nat) (h : x.state = .idle ∨ x.state = .active) : x.sampled p m r = x.filter p m r := by
  unfold sampled
  rcases h with h | h <;> rw [h]

theorem sampled_bit (m : Mode) (r : Nat) (h : x.state = .calibrating) (hstep : x.calStep < 6) : x.sampled p m r = x.tryBit p r := by
  unfold sampled
  rw [h]
  exact if_pos hstep

theorem sampled_final (m : Mode) (r : Nat) (h : x.state = .calibrating) (hstep : 6 ≤ x.calStep) :
    x.sampled p m r = x.finalSample p r := by
  unfold sampled
  rw [h]
  exact if_neg (Nat.not_lt.mpr hstep)

theorem sampled_none (m : Mode) (r : Nat) (h : x.state = .uncalibrated ∨ x.state = .failed) : x.sampled p m r = x := by
  unfold sampled
  rcases h with h | h <;> rw [h]

/-- A sample makes no channel ACTIVE, and takes none out of it. -/
theorem sampled_active_iff (m : Mode) (r : Nat) : (x.sampled p m r).state = .active ↔ x.state = .active := by
  cases h : x.state with
  | idle => simp [x.sampled_live p m r (.inl h), filter, h]
  | active => simp [x.sampled_live p m r (.inr h), filter, h]
  | uncalibrated => simp [x.sampled_none p m r (.inl h), h]
  | failed => simp [x.sampled_none p m r (.inr h), h]
  | calibrating =>
    by_cases hstep : x.calStep < 6
    · simp [x.sampled_bit p m r h hstep, tryBit, h]
    · rw [x.sampled_final p m r h (Nat.le_of_not_lt hstep)]
      unfold finalSample
      split <;> simp

theorem inBand_iff (target : Nat) (count : Int) : inBand target count = true ↔ (count - target).natAbs ≤ target / 8 :=
  decide_eq_true_iff

end Channel

end Sys2Proof.Machine
end

section
/-! PROOFS. What the activity events and the selection's events of a sample round leave of the panel unit and of its fault's count and
flag (R98, R99, steps 5 and 6; R184, R186). -/

namespace Sys2Proof.Machine

/-! ### The panel fault's count and flag (R88, R184, R186) -/

/-- From `r` to `q` the panel fault's count and flag stand. -/
structure ReportUnit.FaultKept (r q : ReportUnit) : Prop where
  length : q.counters.length = r.counters.length
  count : q.counters.getD Counter.panelFault.index 0 = r.counters.getD Counter.panelFault.index 0
  flag : q.flags &&& Flag.panelFault.word = r.flags &&& Flag.panelFault.word

namespace ReportUnit

theorem FaultKept.refl (r : ReportUnit) : r.FaultKept r := ⟨rfl, rfl, rfl⟩

theorem FaultKept.trans {r q v : ReportUnit} (h : r.FaultKept q) (h' : q.FaultKept v) : r.FaultKept v :=
  ⟨h'.length.trans h.length, h'.count.trans h.count, h'.flag.trans h.flag⟩

/-- A flag that shares no bit with another says nothing of it. -/
theorem flags_other (x v w : Word) (hapart : v &&& w = 0) : (x ||| v) &&& w = x &&& w := by
  have hbits (i : Nat) (hi : i < 16) : (v[i] && w[i]) = false := by
    have hbit : (v &&& w)[i] = (0 : Word)[i] := by rw [hapart]
    simpa using hbit
  ext i hi
  simp only [BitVec.getElem_and, BitVec.getElem_or, Bool.and_or_distrib_right, hbits i hi, Bool.or_false]

/-- An input event, placed or lost, is no panel fault. -/
theorem FaultKept.tookInput (r : ReportUnit) (k : InputKind) (d : Option Nat) (p : Product) (fare up : Nat) :
    r.FaultKept (r.tookInput k d p fare up) := by
  unfold ReportUnit.tookInput
  split
  · exact ⟨rfl, rfl, rfl⟩
  · refine ⟨List.length_set .., ?_, ?_⟩
    · simp only [raised, counted, List.getD_eq_getElem?_getD]
      rw [List.getElem?_set_ne (by decide)]
    · exact flags_other r.flags _ _ (by decide)

variable (r : ReportUnit)

theorem faulted_length (n : Nat) : (r.faulted n).counters.length = r.counters.length := by
  induction n generalizing r with
  | zero => rfl
  | succ n ih => exact (ih _).trans (List.length_set ..)

/-- Panel faults are counted up to 65535. -/
theorem faulted_count (n : Nat) (hlen : Counter.panelFault.index < r.counters.length) :
    (r.faulted n).counters.getD Counter.panelFault.index 0 =
      if n = 0 then r.counters.getD Counter.panelFault.index 0 else min 65535 (r.counters.getD Counter.panelFault.index 0 + n) := by
  induction n generalizing r with
  | zero => rfl
  | succ n ih =>
    have hone : ((r.counted .panelFault 1).raised .panelFault).counters.getD Counter.panelFault.index 0 =
        min 65535 (r.counters.getD Counter.panelFault.index 0 + 1) := by
      simp only [raised, counted, List.getD_eq_getElem?_getD, List.getElem?_set_self hlen, Option.getD_some]
    have hmore := ih ((r.counted .panelFault 1).raised .panelFault) (by simpa [raised, counted] using hlen)
    rw [hone] at hmore
    refine hmore.trans ?_
    rw [if_neg (Nat.succ_ne_zero n)]
    split <;> omega

/-- A panel fault raises PANEL_FAULT. -/
theorem faulted_flag (n : Nat) :
    (r.faulted n).flags &&& Flag.panelFault.word =
      if n = 0 then r.flags &&& Flag.panelFault.word else Flag.panelFault.word := by
  have hraised (q : ReportUnit) : (q.raised .panelFault).flags &&& Flag.panelFault.word = Flag.panelFault.word :=
    State.shows_raise { State.reset with rep := q } .panelFault
  induction n generalizing r with
  | zero => rfl
  | succ n ih =>
    refine (ih _).trans ?_
    split
    · exact hraised _
    · rfl

end ReportUnit

namespace State

variable (s : State) (c : Settings)

/-! ### The selection's events (R98, R101 to R109) -/

/-- No mode an activity event can set touches the panel unit. -/
theorem setMode_ceiling_panel : (s.setMode s.act.ceiling).panel = s.panel := by
  unfold setMode
  split
  · rfl
  · rw [modAnn_panel, modPanel_panel, if_neg (ceiling_ne_dormant _), (boardMode_sel _ _).2]
    rfl

theorem activityEvent_panel : s.activityEvent.panel = s.panel := by
  unfold activityEvent
  split
  · exact s.setMode_ceiling_panel
  · rfl

theorem setSel_panel (new : Selection) : (s.setSel new).panel = s.panel := by
  have hsync := ((s.modSel fun _ => new).syncLeave_panel (s.sel.state != new.state))
  unfold setSel
  dsimp only
  repeat' split
  all_goals simp only [activityEvent_panel, fareEvent_sel, markRows_panel, hsync, modSel_panel]

theorem adjustSel_panel : (s.adjustSel c).panel = s.panel := by
  unfold adjustSel
  dsimp only
  split
  · rfl
  · rfl
  · rfl
  all_goals
    split
    · exact s.setSel_panel _
    · split
      · exact s.setSel_panel _
      · split
        · rfl
        · exact s.setSel_panel _

/-- From `s` to `t` the panel unit and its fault's count and flag stand. -/
structure PanelKept (s t : State) : Prop where
  panel : t.panel = s.panel
  fault : s.rep.FaultKept t.rep

theorem PanelKept.refl : s.PanelKept s := ⟨rfl, .refl s.rep⟩

theorem PanelKept.trans {s t u : State} (h : s.PanelKept t) (h' : t.PanelKept u) : s.PanelKept u :=
  ⟨h'.panel.trans h.panel, h.fault.trans h'.fault⟩

theorem panelKept_setSel (new : Selection) : s.PanelKept (s.setSel new) :=
  ⟨s.setSel_panel new, by rw [setSel_rep]; exact .refl _⟩

theorem panelKept_adjustSel : s.PanelKept (s.adjustSel c) :=
  ⟨s.adjustSel_panel c, by rw [adjustSel_rep]; exact .refl _⟩

theorem panelKept_pushInput (k : InputKind) (d : Option Nat) (p : Product) (fare : Nat) : s.PanelKept (s.pushInput k d p fare) := by
  rw [pushInput_eq]
  exact ⟨rfl, .tookInput _ _ _ _ _ _⟩

theorem panelKept_selBrowse (ev : SelEvent) : s.PanelKept (s.selBrowse c ev) := by
  cases ev with
  | swipeFwd => exact s.panelKept_setSel _
  | swipeBack => exact s.panelKept_setSel _
  | back => exact s.panelKept_setSel _
  | ok => exact s.panelKept_setSel _
  | tap => exact s.panelKept_setSel _
  | hold => exact .refl s
  | presence => exact .refl s
  | absence => exact .refl s

theorem panelKept_selChoose (ev : SelEvent) : s.PanelKept (s.selChoose ev) := by
  have hforward : s.PanelKept s.chooseForward := by
    unfold chooseForward
    split
    · exact .refl s
    · exact s.panelKept_setSel _
  have hcursor (m : Option Nat) : s.PanelKept (s.cursorTo m) := by
    cases m with
    | none => exact .refl s
    | some y => exact s.panelKept_setSel _
  cases ev with
  | swipeFwd => exact hcursor _
  | swipeBack => exact hcursor _
  | ok => exact hforward
  | tap => exact hforward
  | back => exact s.panelKept_setSel _
  | hold => exact .refl s
  | presence => exact .refl s
  | absence => exact .refl s

theorem panelKept_selConfirm (ev : SelEvent) : s.PanelKept (s.selConfirm c ev) := by
  have hforward : s.PanelKept (s.confirmForward c) := (s.panelKept_pushInput _ _ _ _).trans (panelKept_setSel _ _)
  cases ev with
  | swipeFwd => exact s.panelKept_setSel _
  | swipeBack => exact s.panelKept_setSel _
  | ok => exact hforward
  | tap => exact hforward
  | back => exact s.panelKept_setSel _
  | hold => exact .refl s
  | presence => exact .refl s
  | absence => exact .refl s

theorem panelKept_selHanded (ev : SelEvent) : s.PanelKept (s.selHanded c ev) := by
  cases ev with
  | back => exact ((s.panelKept_pushInput _ _ _ _).trans (panelKept_setSel _ _)).trans (panelKept_adjustSel _ c)
  | swipeFwd => exact .refl s
  | swipeBack => exact .refl s
  | ok => exact .refl s
  | tap => exact .refl s
  | hold => exact .refl s
  | presence => exact .refl s
  | absence => exact .refl s

/-- No event of the selection machine touches the panel unit, or is a panel fault. -/
theorem panelKept_selEvent (ev : SelEvent) : s.PanelKept (s.selEvent ev) := by
  unfold selEvent
  split
  · exact .refl s
  · split
    · split
      · exact .refl s
      · exact s.panelKept_setSel _
    · exact s.panelKept_selBrowse _ ev
    · exact s.panelKept_selChoose ev
    · exact s.panelKept_selConfirm _ ev
    · exact s.panelKept_selHanded _ ev

theorem panelKept_events (events : List SelEvent) : s.PanelKept (events.foldl selEvent s) := by
  induction events generalizing s with
  | nil => exact .refl s
  | cons ev rest ih => exact (s.panelKept_selEvent ev).trans (ih _)

/-! ### The onsets (R98, R136) -/

theorem activityEvent_act (hcfg : s.cfg = some c) :
    s.activityEvent.act = { s.act with mode := s.act.ceiling, deadline := s.stepAhead s.act.ceiling } := by
  unfold activityEvent
  rw [hcfg]
  exact congrArg (fun a : Activity => { a with deadline := s.stepAhead s.act.ceiling }) (s.setMode_act s.act.ceiling)

theorem stepAhead_ceiling (hcfg : s.cfg = some c) :
    s.stepAhead s.act.ceiling = some (s.clk.upSec + if s.act.supplyLow = true then c.times.dormant else c.times.quiet) := by
  unfold Activity.ceiling stepAhead dormantAhead
  rw [hcfg]
  cases s.act.supplyLow <;> rfl

/-- What the onsets of a round leave: the mode and its deadline alone follow them. -/
structure OnsetsTook (es : List (Nat × Edge)) (t : State) : Prop where
  front : Front s t
  panel : t.panel = s.panel
  sel : t.sel = s.sel
  rep : t.rep = s.rep
  none : (∀ e ∈ es, e.2 ≠ .enter) → t.act = s.act
  some : (∃ e ∈ es, e.2 = .enter) →
    t.act = { s.act with
      mode := s.act.ceiling
      deadline := Option.some (s.clk.upSec + if s.act.supplyLow = true then c.times.dormant else c.times.quiet) }

theorem onsetsTook (hcfg : s.cfg = some c) (es : List (Nat × Edge)) : s.OnsetsTook c es (s.onsets es) := by
  unfold onsets
  induction es generalizing s with
  | nil => exact ⟨.refl s, rfl, rfl, rfl, fun _ => rfl, fun ⟨e, he, _⟩ => nomatch he⟩
  | cons e rest ih =>
    rw [List.foldl_cons]
    by_cases henter : e.2 = .enter
    · rw [if_pos henter]
      have hfront : Front s s.activityEvent := Front.activityEvent (.refl s)
      have hact := s.activityEvent_act c hcfg
      rw [s.stepAhead_ceiling c hcfg] at hact
      obtain ⟨hf, hpanel, hsel, hrep, hnone, hsome⟩ := ih s.activityEvent (hfront.cfg.trans hcfg)
      have hclk : s.activityEvent.clk = s.clk := hfront.clk
      refine ⟨hfront.trans hf, hpanel.trans s.activityEvent_panel, hsel.trans s.activityEvent_sel.1, hrep.trans s.activityEvent_rep,
        fun hno => absurd henter (hno e List.mem_cons_self), fun _ => ?_⟩
      by_cases hmore : ∃ e ∈ rest, e.2 = .enter
      · rw [hsome hmore, hact, hclk]
        rfl
      · exact (hnone fun e he hent => hmore ⟨e, he, hent⟩).trans hact
    · rw [if_neg henter]
      obtain ⟨hf, hpanel, hsel, hrep, hnone, hsome⟩ := ih s hcfg
      refine ⟨hf, hpanel, hsel, hrep, fun hno => hnone fun e he => hno e (List.mem_cons_of_mem _ he), ?_⟩
      rintro ⟨e', he', hent⟩
      obtain rfl | hrest := List.mem_cons.mp he'
      · exact absurd hent henter
      · exact hsome ⟨e', hrest, hent⟩

/-! ### The end of the round (R89, R99) -/

theorem finishCal_panel : (s.finishCal c).panel = { s.panel with calMask := (s.finishCal c).panel.calMask } := by
  unfold finishCal
  split
  · split <;> rfl
  · rfl

theorem finishCal_fault : s.rep.FaultKept (s.finishCal c).rep := by
  unfold finishCal
  split
  · split <;> exact ⟨rfl, rfl, rfl⟩
  · exact .refl _

/-- After a round the panel unit is as its steps 1 to 4 left it, but for the mask of a CALIBRATE that ends. -/
theorem round_panel (hcfg : s.cfg = some c) (counts : List Nat) :
    (s.round c counts).panel = { (s.senseRound c.panel counts).1.panel with calMask := (s.round c counts).panel.calMask } ∧
    (s.senseRound c.panel counts).1.rep.FaultKept (s.round c counts).rep := by
  have hcfg' : (s.senseRound c.panel counts).1.cfg = some c := (Front.senseRound c.panel counts (.refl s)).cfg.trans hcfg
  have honsets := (s.senseRound c.panel counts).1.onsetsTook c hcfg' (s.senseRound c.panel counts).2.1
  have hevents := ((s.senseRound c.panel counts).1.onsets (s.senseRound c.panel counts).2.1).panelKept_events
    (presenceEvents (s.senseRound c.panel counts).2.1 ++ (s.senseRound c.panel counts).2.2 ++
      keyEvents (s.senseRound c.panel counts).2.1 5 .ok ++ keyEvents (s.senseRound c.panel counts).2.1 6 .back)
  unfold round
  dsimp only
  generalize List.foldl selEvent _ _ = w at hevents ⊢
  refine ⟨?_, ?_⟩
  · have hpanel := (w.syncLeave false).finishCal_panel c
    rw [w.syncLeave_panel, hevents.panel, honsets.panel] at hpanel
    exact hpanel
  · have hfault := (w.syncLeave false).finishCal_fault c
    rw [w.syncLeave_rep] at hfault
    exact (honsets.rep ▸ hevents.fault).trans hfault

end State

end Sys2Proof.Machine
end

section
/-! PROOFS. What a round that samples all eight channels makes of one of them (R88, R90, R91, R94, R95). -/

namespace Sys2Proof.Machine

namespace Channel

variable (x z : Channel) (p : PanelParams)

/-! ### The rain reference and the thresholds, after the sample (R91, R94, R95) -/

/-- A sampled channel as the rain reference and the thresholds settle it, the edge of the reference and what it comes to being given. -/
def settled (e : Edge) (wet : Bool) (now ch : Nat) : Channel :=
  if 1 ≤ ch ∧ ch ≤ 6 then (z.rained p e).tested p wet now ch else (z.test p ch now).1

variable (e : Edge) (wet : Bool) (now ch : Nat)

/-- The plate and the rain reference, and all channels while it is dry, take the threshold test alone. -/
theorem settled_dry (h : ¬ (1 ≤ ch ∧ ch ≤ 6) ∨ e = .none ∧ wet = false) : z.settled p e wet now ch = (z.test p ch now).1 := by
  unfold settled
  split
  next htouch =>
    obtain hout | ⟨rfl, rfl⟩ := h
    · exact absurd htouch hout
    · exact congrArg (fun q : Channel => q) (if_neg (by simp))
  next => rfl

/-- While it is wet a touch channel's test is put off. -/
theorem settled_wet (htouch : 1 ≤ ch ∧ ch ≤ 6) : z.settled p e true now ch = { z.rained p e with debounce := 0 } := by
  unfold settled
  rw [if_pos htouch]
  exact if_pos ⟨by omega, rfl⟩

/-- As it ends, a touch channel is tested as the release has it. -/
theorem settled_ends (htouch : 1 ≤ ch ∧ ch ≤ 6) : z.settled p .leave false now ch = ((z.dried p).test p ch now).1 := by
  unfold settled
  rw [if_pos htouch]
  exact congrArg (fun q : Channel => q) (if_neg (by simp))

/-- A channel that is neither IDLE nor ACTIVE keeps all but its debounce counter. -/
theorem settled_inert (hidle : z.state ≠ .idle) (hactive : z.state ≠ .active) :
    ∃ d, z.settled p e wet now ch = { z with debounce := d } := by
  have hrained : ∃ d, z.rained p e = { z with debounce := d } := by
    cases e with
    | none => exact ⟨_, rfl⟩
    | enter => exact ⟨0, if_neg hactive⟩
    | leave => exact ⟨z.debounce, if_neg hidle⟩
  unfold settled
  split
  · obtain ⟨d, hd⟩ := hrained
    rw [hd]
    unfold tested
    split
    · exact ⟨0, rfl⟩
    · exact ⟨d, congrArg Prod.fst (test_other { z with debounce := d } p ch now hidle hactive)⟩
  · rw [test_other _ _ _ _ hidle hactive]
    exact ⟨_, rfl⟩

/-- A channel is fresh: IDLE with its baseline at its filtered count, inside the band. -/
structure Fresh : Prop where
  state : z.state = .idle
  baseline : z.baseline = z.filtered
  delta : z.delta = 0
  debounce : z.debounce = 0
  band : inBand p.target (z.filtered.tdiv 16) = true

/-- With no count below its baseline an IDLE channel only starts its debounce counter anew. -/
theorem test_flat (hthr : 1 ≤ p.threshold ch) (hidle : z.state = .idle) (hdelta : z.delta = 0) :
    (z.test p ch now).1 = { z with debounce := 0 } := by
  rw [z.test_idle p ch now hidle, hdelta, if_neg (by omega)]

/-- A fresh channel stays as it is. -/
theorem settled_fresh (hthr : 1 ≤ p.threshold ch) (h : z.Fresh p) : z.settled p e wet now ch = z := by
  obtain ⟨hstate, hbaseline, hdelta, hdebounce, hband⟩ := h
  have hzero : { z with debounce := 0 } = z := by rw [← hdebounce]
  have hrained : z.rained p e = z := by
    cases e with
    | none => rfl
    | enter => exact (if_neg (by rw [hstate]; exact nofun)).trans hzero
    | leave =>
      change z.dried p = z
      unfold dried
      rw [if_pos hstate, if_pos hband]
      rw [reseeded, ← hdelta]
      exact congrArg (fun b => ({ z with baseline := b } : Channel)) hbaseline.symm
  have htest : (z.test p ch now).1 = z := (z.test_flat p now ch hthr hstate hdelta).trans hzero
  unfold settled
  split
  · rw [hrained]
    unfold tested
    split
    · exact hzero
    · exact htest
  · exact htest

/-! ### IDLE and ACTIVE channels (R91, R92, R94, R95) -/

/-- What becomes of a sampled channel that is IDLE or ACTIVE, the rain reference coming from `old` to `wet`. -/
structure LiveTo (old wet : Bool) (now ch : Nat) (y : Channel) : Prop where
  filtered : y.filtered = z.filtered
  kept : ¬ ((1 ≤ ch ∧ ch ≤ 6) ∧ z.state = .idle ∧ old = true ∧ wet = false) →
    y.gain = z.gain ∧ y.baseline = z.baseline ∧ y.delta = z.delta
  reseeded : (1 ≤ ch ∧ ch ≤ 6) ∧ z.state = .idle ∧ old = true ∧ wet = false →
    y.baseline = z.filtered ∧ y.delta = 0 ∧ y.debounce = 0 ∧
    (if inBand p.target (z.filtered.tdiv 16) = true then y.state = .idle ∧ y.gain = z.gain
     else y.state = .calibrating ∧ y.gain = 0 ∧ y.calStep = 0)
  blocked : (1 ≤ ch ∧ ch ≤ 6) ∧ old = false ∧ wet = true → y.state = .idle ∧ y.debounce = 0
  waits : (1 ≤ ch ∧ ch ≤ 6) ∧ old = true ∧ wet = true → y.state = z.state ∧ y.debounce = 0
  tested : ¬ (1 ≤ ch ∧ ch ≤ 6) ∨ old = false ∧ wet = false → z.TestedTo p (p.threshold ch) now y

/-- The edge of the rain reference from one of its states to the next. -/
def EdgeOf (e : Edge) (old new : Bool) : Prop := (e = .enter ↔ old = false ∧ new = true) ∧ (e = .leave ↔ old = true ∧ new = false)

theorem EdgeOf.cases {e : Edge} {old new : Bool} (h : EdgeOf e old new) :
    (old = new ∧ e = .none) ∨ (old = false ∧ new = true ∧ e = .enter) ∨ (old = true ∧ new = false ∧ e = .leave) := by
  obtain ⟨henter, hleave⟩ := h
  cases old <;> cases new <;> cases e <;> simp at henter hleave ⊢

/-- The threshold test alone. -/
theorem test_liveTo (old : Bool) (hlive : z.state = .idle ∨ z.state = .active)
    (h : ¬ (1 ≤ ch ∧ ch ≤ 6) ∨ old = false ∧ wet = false) : z.LiveTo p old wet now ch (z.test p ch now).1 := by
  obtain ⟨hgain, hfiltered, hbaseline, hdelta, -⟩ := z.test_keeps p ch now
  refine ⟨hfiltered, fun _ => ⟨hgain, hbaseline, hdelta⟩, ?_, ?_, ?_, fun _ => z.test_testedTo p ch now hlive⟩
  · rintro ⟨htouch, -, rfl, -⟩
    exact (h.elim (absurd htouch) fun hdry => nomatch hdry.1)
  · rintro ⟨htouch, -, rfl⟩
    exact (h.elim (absurd htouch) fun hdry => nomatch hdry.2)
  · rintro ⟨htouch, rfl, -⟩
    exact (h.elim (absurd htouch) fun hdry => nomatch hdry.1)

/-- The test put off while it stays wet. -/
theorem waits_liveTo (htouch : 1 ≤ ch ∧ ch ≤ 6) : z.LiveTo p true true now ch { z with debounce := 0 } :=
  ⟨rfl, fun _ => ⟨rfl, rfl, rfl⟩, (fun h => nomatch h.2.2.2), (fun h => nomatch h.2.1), fun _ => ⟨rfl, rfl⟩,
    fun h => h.elim (absurd htouch) fun hdry => nomatch hdry.1⟩

/-- The release as it becomes wet. -/
theorem blocked_liveTo (hlive : z.state = .idle ∨ z.state = .active) (htouch : 1 ≤ ch ∧ ch ≤ 6) :
    z.LiveTo p false true now ch { z.blocked with debounce := 0 } := by
  have hstate : z.blocked.state = .idle := by
    unfold Channel.blocked
    split
    · rfl
    · exact hlive.resolve_right ‹_›
  have hkept : z.blocked.filtered = z.filtered ∧ z.blocked.gain = z.gain ∧ z.blocked.baseline = z.baseline ∧ z.blocked.delta = z.delta := by
    unfold Channel.blocked
    split <;> exact ⟨rfl, rfl, rfl, rfl⟩
  exact ⟨hkept.1, fun _ => hkept.2, (fun h => nomatch h.2.2.1), fun _ => ⟨hstate, rfl⟩, (fun h => nomatch h.2.1),
    fun h => h.elim (absurd htouch) fun hdry => nomatch hdry.2⟩

/-- The release of an IDLE touch channel as it ends: reseeded, or calibrated outside the band, and then not touched. -/
theorem dried_liveTo (hidle : z.state = .idle) (hthr : 1 ≤ p.threshold ch) (htouch : 1 ≤ ch ∧ ch ≤ 6) :
    z.LiveTo p true false now ch ((z.dried p).test p ch now).1 := by
  have hother : ¬ (1 ≤ ch ∧ ch ≤ 6) ∨ true = false ∧ false = false → ¬ True := fun h =>
    h.elim (absurd htouch) fun hdry => nomatch hdry.1
  have hdried : z.dried p = if inBand p.target (z.filtered.tdiv 16) then z.reseeded else z.reseeded.calibrating := if_pos hidle
  refine ⟨?_, fun h => absurd ⟨htouch, hidle, rfl, rfl⟩ h, fun _ => ?_, (fun h => nomatch h.2.2), (fun h => nomatch h.2.2),
    fun h => absurd trivial (hother h)⟩
  · rw [((z.dried p).test_keeps p ch now).2.1, hdried]
    split <;> rfl
  · by_cases hband : inBand p.target (z.filtered.tdiv 16) = true
    · rw [if_pos hband, hdried, if_pos hband, z.reseeded.test_flat p now ch hthr hidle rfl]
      exact ⟨rfl, rfl, rfl, hidle, rfl⟩
    · rw [if_neg hband, hdried, if_neg hband, z.reseeded.calibrating.test_other p ch now nofun nofun]
      exact ⟨rfl, rfl, rfl, rfl, rfl, rfl⟩

/-- An ACTIVE touch channel as it ends: tested as it stands. -/
theorem dried_active_liveTo (hactive : z.state = .active) (htouch : 1 ≤ ch ∧ ch ≤ 6) :
    z.LiveTo p true false now ch ((z.dried p).test p ch now).1 := by
  have hne : z.state ≠ .idle := by rw [hactive]; exact nofun
  have hdried : z.dried p = z := if_neg hne
  obtain ⟨hgain, hfiltered, hbaseline, hdelta, -⟩ := z.test_keeps p ch now
  rw [hdried]
  exact ⟨hfiltered, fun _ => ⟨hgain, hbaseline, hdelta⟩, fun h => absurd h.2.1 hne, (fun h => nomatch h.2.2), (fun h => nomatch h.2.2),
    fun h => h.elim (absurd htouch) fun hdry => nomatch hdry.1⟩

/-- What becomes of an IDLE or ACTIVE channel in the round. -/
theorem settled_liveTo (old : Bool) (hlive : z.state = .idle ∨ z.state = .active) (hthr : 1 ≤ p.threshold ch) (he : EdgeOf e old wet) :
    z.LiveTo p old wet now ch (z.settled p e wet now ch) := by
  by_cases htouch : 1 ≤ ch ∧ ch ≤ 6
  · obtain ⟨rfl, rfl⟩ | ⟨rfl, rfl, rfl⟩ | ⟨rfl, rfl, rfl⟩ := he.cases
    · cases old with
      | false =>
        rw [z.settled_dry p _ _ now ch (.inr ⟨rfl, rfl⟩)]
        exact z.test_liveTo p _ now ch _ hlive (.inr ⟨rfl, rfl⟩)
      | true =>
        rw [z.settled_wet p _ now ch htouch]
        exact z.waits_liveTo p now ch htouch
    · rw [z.settled_wet p _ now ch htouch]
      exact z.blocked_liveTo p now ch hlive htouch
    · rw [z.settled_ends p now ch htouch]
      rcases hlive with h | h
      · exact z.dried_liveTo p now ch h hthr htouch
      · exact z.dried_active_liveTo p now ch h htouch
  · rw [z.settled_dry p e wet now ch (.inl htouch)]
    exact z.test_liveTo p wet now ch old hlive (.inl htouch)

end Channel

end Sys2Proof.Machine
end

section
/-! PROOFS. The edges of a sample round and the events they bring (R91, R98, R99). -/

namespace Sys2Proof.Machine

namespace Channel

variable (x z : Channel) (p : PanelParams) (e : Edge) (wet : Bool) (now ch : Nat)

/-- The samples of a round, then its rain reference and thresholds, on one channel. -/
theorem settled_eq_tested (hch : ch < 7) :
    z.settled p e wet now ch = (if ch = 0 then z else z.rained p e).tested p wet now ch := by
  unfold settled
  by_cases hzero : ch = 0
  · rw [if_neg (by omega), if_pos hzero]
    exact (if_neg (by simp [hzero])).symm
  · rw [if_pos (by omega), if_neg hzero]

/-- A test that is put off, or not, finds the edge that the state then shows. -/
theorem edge_iff :
    (z.edge p wet now ch = .enter ↔ z.state ≠ .active ∧ (z.tested p wet now ch).state = .active) ∧
    (z.edge p wet now ch = .leave ↔ z.state = .active ∧ (z.tested p wet now ch).state ≠ .active) := by
  unfold edge tested
  split
  · simp
  · exact z.test_edge p ch now

/-- Only WET as it begins takes a touch channel out of ACTIVE. -/
theorem rained_active_iff (he : e ≠ .enter) : (z.rained p e).state = .active ↔ z.state = .active := by
  cases e with
  | none => rfl
  | enter => exact absurd rfl he
  | leave =>
    change (z.dried p).state = .active ↔ _
    unfold dried
    split
    next hidle => split <;> simp [hidle, reseeded, calibrating]
    next => rfl

/-- The test of a channel that is put off leaves its state. -/
theorem tested_wet (hch : ch ≠ 0) : z.tested p true now ch = { z with debounce := 0 } := if_pos ⟨hch, rfl⟩

theorem blocked_not_active : z.blocked.state ≠ .active := by
  unfold Channel.blocked
  split
  · exact nofun
  · assumption

/-- A channel enters ACTIVE in a round exactly with an edge of its test. -/
theorem settled_enter_iff {old : Bool} (he : EdgeOf e old wet) (hch : ch < 7) :
    (if ch = 0 then z else z.rained p e).edge p wet now ch = .enter ↔
      z.state ≠ .active ∧ (z.settled p e wet now ch).state = .active := by
  rw [z.settled_eq_tested p e wet now ch hch, (edge_iff _ p wet now ch).1]
  by_cases hzero : ch = 0
  · rw [if_pos hzero]
  · rw [if_neg hzero]
    by_cases henter : e = .enter
    · obtain ⟨-, rfl⟩ := he.1.mp henter
      rw [henter, tested_wet _ _ _ _ hzero]
      change (z.blocked.state ≠ .active ∧ z.blocked.state = .active) ↔ (z.state ≠ .active ∧ z.blocked.state = .active)
      simp [z.blocked_not_active]
    · rw [ne_eq, z.rained_active_iff p e henter]

theorem plate_leave_iff :
    z.edge p wet now 0 = .leave ↔ z.state = .active ∧ (z.settled p e wet now 0).state ≠ .active := by
  rw [z.settled_eq_tested p e wet now 0 (by decide)]
  exact (edge_iff _ p wet now 0).2

end Channel

/-! ### The events of a round's edges (R98) -/

theorem presenceEvents_map (g : Nat → Edge) :
    presenceEvents ([0, 1, 2, 3, 4, 5, 6].map fun ch => (ch, g ch)) =
      (match g 0 with | .enter => [.presence] | .leave => [.absence] | .none => []) := by
  simp only [presenceEvents, List.map_cons, List.map_nil]
  cases g 0 <;> rfl

theorem keyEvents_map (g : Nat → Edge) (ch : Nat) (hch : ch < 7) (ev : SelEvent) :
    keyEvents ([0, 1, 2, 3, 4, 5, 6].map fun ch => (ch, g ch)) ch ev = if g ch = .enter then [ev] else [] := by
  unfold keyEvents
  refine ite_congr_iff ?_ rfl rfl
  rw [List.contains_iff_mem, List.mem_map]
  refine ⟨?_, fun h => ⟨ch, (State.mem_testedChannels ch).mpr hch, by rw [h]⟩⟩
  rintro ⟨k, -, hk⟩
  obtain ⟨rfl, hedge⟩ := Prod.mk.inj hk
  exact hedge

namespace State

variable (s : State) (c : Settings)

/-! ### A round that samples all eight channels (R99) -/

/-- The state after the samples, the rain reference and the thresholds of such a round, with the edges found (R99, steps 1 to 3). -/
def testedRound (p : PanelParams) (counts : List Nat) : State × List (Nat × Edge) :=
  ((s.sampled p counts [0, 1, 2, 3, 4, 5, 6, 7]).testRain p).testChans p [0, 1, 2, 3, 4, 5, 6]

theorem senseRound_eq (p : PanelParams) (counts : List Nat) (hfull : s.fullRound = true) :
    s.senseRound p counts =
      (((s.testedRound p counts).1.slide p).1, (s.testedRound p counts).2, ((s.testedRound p counts).1.slide p).2) :=
  s.senseRound_full p counts hfull

/-- The slider's step leaves the channels and the round's start. -/
theorem slide_panel (p : PanelParams) :
    (s.slide p).1 = { s with panel := (s.slide p).1.panel } ∧
    (s.slide p).1.panel = { s.panel with
      pos := (s.slide p).1.panel.pos, tracker := (s.slide p).1.panel.tracker, touched := (s.slide p).1.panel.touched } := by
  unfold slide
  dsimp only
  split
  · split <;> exact ⟨rfl, rfl⟩
  · split <;> exact ⟨rfl, rfl⟩

/-- With no touch on the slider its gesture tracker is cleared. -/
theorem slide_released (p : PanelParams) (h : s.sliderTouched = false) : (s.slide p).1 = s.clearTracker := by
  unfold slide
  rw [h]
  dsimp only
  split
  next hno => exact absurd hno nofun
  next => split <;> rfl

variable (p : PanelParams) (counts : List Nat)

/-- A channel in such a round, whose tests find a given state of the rain reference. -/
theorem roundChan_eq (wet : Bool) (ch : Nat) (hch : ch < 8) (x : Channel) :
    s.roundChan p counts wet ch x =
      (x.sampled p s.act.mode (clampCount (counts.getD ch 0))).settled p (s.rainEdge p counts) wet s.nowSub ch := by
  unfold roundChan
  by_cases hseven : ch = 7
  · rw [if_pos hseven, Channel.settled, if_neg (by omega), hseven]
  · rw [if_neg hseven, Channel.settled_eq_tested _ p _ wet s.nowSub ch (by omega)]
    rfl

theorem testedRound_tested : s.RoundTested p counts (s.testedRound p counts).1 (s.testedRound p counts).2 := s.roundTested p counts

theorem wet_eq_true_iff : s.wet = true ↔ (s.chan 7).state = .active := by
  rw [← Bool.not_eq_false, s.wet_false_iff, ne_eq, Classical.not_not]

/-- The edge of the rain reference leads from its state before the round to the one after it. -/
theorem rainEdge_edgeOf {counts : List Nat} {u : State} {es : List (Nat × Edge)} (h : s.RoundTested p counts u es) :
    Channel.EdgeOf (s.rainEdge p counts) s.wet u.wet := by
  have hseven := h.chan 7 (by decide)
  rw [roundChan, if_pos rfl] at hseven
  obtain ⟨henter, hleave⟩ := ((s.chan 7).sampled p s.act.mode (clampCount (counts.getD 7 0))).test_edge p 7 s.nowSub
  rw [← hseven, ne_eq, (s.chan 7).sampled_active_iff] at henter
  rw [← hseven, ne_eq, (s.chan 7).sampled_active_iff] at hleave
  unfold Channel.EdgeOf
  rw [s.wet_false_iff, u.wet_false_iff, s.wet_eq_true_iff, u.wet_eq_true_iff]
  exact ⟨henter, hleave⟩

/-- The onset of a channel 0 to 6 in a round, from its record before and after. -/
def Onset (s t : State) (ch : Nat) : Prop := (s.chan ch).state ≠ .active ∧ (t.chan ch).state = .active

/-- The edge of a channel 0 to 6 in such a round. -/
def channelEdge (wet : Bool) (ch : Nat) : Edge := (s.preTest p counts ch (s.chan ch)).edge p wet s.nowSub ch

theorem channelEdge_enter_iff {u : State} {es : List (Nat × Edge)} (h : s.RoundTested p counts u es) (ch : Nat) (hch : ch < 7) :
    s.channelEdge p counts u.wet ch = .enter ↔ s.Onset u ch := by
  have hsettled := Channel.settled_enter_iff ((s.chan ch).sampled p s.act.mode (clampCount (counts.getD ch 0))) p
    (s.rainEdge p counts) u.wet s.nowSub ch (s.rainEdge_edgeOf p h) hch
  rw [ne_eq, Channel.sampled_active_iff, ← s.roundChan_eq p counts u.wet ch (by omega), ← h.chan ch (by omega)] at hsettled
  exact hsettled

theorem channelEdge_leave_iff {u : State} {es : List (Nat × Edge)} (h : s.RoundTested p counts u es) :
    s.channelEdge p counts u.wet 0 = .leave ↔ (s.chan 0).state = .active ∧ (u.chan 0).state ≠ .active := by
  have hleave := Channel.plate_leave_iff ((s.chan 0).sampled p s.act.mode (clampCount (counts.getD 0 0))) p
    (s.rainEdge p counts) u.wet s.nowSub
  rw [Channel.sampled_active_iff, ← s.roundChan_eq p counts u.wet 0 (by decide), ← h.chan 0 (by decide)] at hleave
  exact hleave

end State

end Sys2Proof.Machine
end

section
/-! PROOFS. A due sample round senses the proximity plate (R87, R90, R91, R99). -/

namespace Sys2Proof.Machine

namespace Channel

variable (x : Channel) (p : PanelParams)

/-! ### The filters and the threshold of a live channel (R90, R91) -/

theorem filter_baseline (m : Mode) (r : Nat) :
    (x.filter p m r).baseline =
      if x.state = .idle then
        x.baseline + ((x.filter p m r).filtered - x.baseline) / 2 ^ (if m = .active then p.shiftActive else p.shiftQuiet)
      else x.baseline := by
  cases m <;> rfl

theorem TestedTo.spec {z y : Channel} {p : PanelParams} {thr now : Nat} (h : z.TestedTo p thr now y) (hdelta : y.delta = z.delta) :
    let qual : Prop := if z.state = .idle then (thr : Int) ≤ y.delta else y.delta < (thr : Int) - (thr / 4 : Nat)
    (¬ qual → y.state = z.state ∧ y.debounce = 0 ∧ y.onset = z.onset) ∧
    (qual → z.debounce + 1 < p.debounce → y.state = z.state ∧ y.debounce = z.debounce + 1 ∧ y.onset = z.onset) ∧
    (qual → p.debounce ≤ z.debounce + 1 →
      y.debounce = 0 ∧ (z.state = .idle → y.state = .active ∧ y.onset = some now) ∧
      (z.state = .active → y.state = .idle ∧ y.onset = z.onset)) := by
  rw [hdelta]
  exact ⟨h.short, h.waits, h.changes⟩

end Channel

namespace State

variable (s : State) (c : Settings) (p : PanelParams) (counts : List Nat)

/-! ### A round of the plate alone (R87) -/

/-- What a round that samples the plate alone leaves of the panel unit. -/
structure PlateRound (u : State) : Prop where
  panel : u.panel = { s.panel with
    chans := u.panel.chans, lastRound := some s.nowSub
    roundNo := if s.act.mode = .dormant then s.panel.roundNo + 1 else s.panel.roundNo }
  length : u.panel.chans.length = s.panel.chans.length
  other : ∀ ch, 1 ≤ ch → u.panel.chans[ch]? = s.panel.chans[ch]?
  plate : u.chan 0 = (((s.chan 0).sampled p s.act.mode (clampCount (counts.getD 0 0))).test p 0 s.nowSub).1

theorem plateRound (hfull : s.fullRound = false) : s.PlateRound p counts (s.senseRound p counts).1 := by
  have hsampled : s.sampled p counts [0] =
      { s.noteRound.setChan 0 ((s.chan 0).sampled p s.act.mode (clampCount (counts.getD 0 0))) with
        rep := s.rep.faulted (if (s.chan 0).fails p (clampCount (counts.getD 0 0)) = true then 1 else 0) } :=
    s.noteRound.sampleChan_faulted p 0 (clampCount (counts.getD 0 0))
  have hplate : (s.sampled p counts [0]).chan 0 = (s.chan 0).sampled p s.act.mode (clampCount (counts.getD 0 0)) := by
    rw [hsampled]
    exact s.noteRound.chan_setChan_self 0 (fun x => x.sampled p s.act.mode (clampCount (counts.getD 0 0))) rfl
  have hpanel : (s.sampled p counts [0]).panel = { s.panel with
      chans := (s.sampled p counts [0]).panel.chans, lastRound := some s.nowSub
      roundNo := if s.act.mode = .dormant then s.panel.roundNo + 1 else s.panel.roundNo } := by rw [hsampled]; rfl
  have hlength : (s.sampled p counts [0]).panel.chans.length = s.panel.chans.length := by
    rw [hsampled]
    exact List.length_set ..
  have hother (ch : Nat) (hch : 1 ≤ ch) : (s.sampled p counts [0]).panel.chans[ch]? = s.panel.chans[ch]? := by
    rw [hsampled]
    exact s.noteRound.chans_set_getElem? 0 ch _ (by omega)
  have hnow : (s.sampled p counts [0]).nowSub = s.nowSub := by rw [hsampled]; rfl
  rw [s.senseRound_plate p counts hfull]
  generalize s.sampled p counts [0] = w at hplate hpanel hlength hother hnow ⊢
  have htested (x : Channel) (wet : Bool) (now : Nat) : x.tested p wet now 0 = (x.test p 0 now).1 := if_neg (by simp)
  have hdone : (w.testChans p [0]).1 = w.setChan 0 ((w.chan 0).test p 0 s.nowSub).1 := by
    change (w.testChan p 0).1 = _
    rw [testChan_eq, htested, hnow]
  dsimp only
  rw [hdone]
  refine ⟨?_, (List.length_set ..).trans hlength, fun ch hch => ?_, ?_⟩
  · exact congrArg (fun q : Panel => { q with chans := (w.setChan 0 ((w.chan 0).test p 0 s.nowSub).1).panel.chans }) hpanel
  · exact (w.chans_set_getElem? 0 ch _ (by omega)).trans (hother ch hch)
  · rw [← hplate]
    exact w.chan_setChan_self 0 (fun x => (x.test p 0 s.nowSub).1) rfl

/-! ### A due round (R87, R99) -/

theorem fullRound_iff : s.fullRound = true ↔ s.act.mode ≠ .dormant ∨ s.panel.roundNo % 8 = 0 := by
  simp [fullRound]

theorem roundDue_iff : s.roundDue = true ↔ ∀ u, s.panel.lastRound = some u → u + s.act.mode.period ≤ s.nowSub := by
  unfold roundDue
  cases s.panel.lastRound <;> simp

theorem exec_sampleRound (hcfg : s.cfg = some c) (hready : s.loader.stage.starting = false) :
    exec (.sampleRound counts) s = .next (if s.roundDue then s.round c counts else s) := by
  change execSampleRound counts s = _
  unfold execSampleRound
  rw [hcfg, hready]
  dsimp only
  congr 1
  exact ite_congr_iff (by simp) rfl rfl

/-- The start of a round that is due is noted. -/
theorem round_noted (hcfg : s.cfg = some c) :
    (s.round c counts).panel.lastRound = some s.nowSub ∧
    (s.round c counts).panel.roundNo = (if s.act.mode = .dormant then s.panel.roundNo + 1 else s.panel.roundNo) := by
  rw [(s.round_panel c hcfg counts).1]
  cases hfull : s.fullRound with
  | false =>
    have hround := s.plateRound c.panel counts hfull
    dsimp only
    rw [hround.panel]
    exact ⟨rfl, rfl⟩
  | true =>
    have hround := s.testedRound_tested c.panel counts
    rw [s.senseRound_eq c.panel counts hfull]
    dsimp only
    rw [(slide_panel _ c.panel).2, hround.panel]
    exact ⟨rfl, rfl⟩

theorem round_chans (hcfg : s.cfg = some c) :
    (s.round c counts).panel.chans = (s.senseRound c.panel counts).1.panel.chans := by
  rw [(s.round_panel c hcfg counts).1]

theorem round_chan (hcfg : s.cfg = some c) (ch : Nat) : (s.round c counts).chan ch = (s.senseRound c.panel counts).1.chan ch :=
  chan_congr _ _ ch (by rw [s.round_chans c counts hcfg])

/-- After a round that samples all eight the channels are as its thresholds left them. -/
theorem round_chans_full (hcfg : s.cfg = some c) (hfull : s.fullRound = true) :
    (s.round c counts).panel.chans = (s.testedRound c.panel counts).1.panel.chans := by
  rw [s.round_chans c counts hcfg, s.senseRound_eq c.panel counts hfull]
  dsimp only
  rw [(slide_panel _ c.panel).2]

/-- The plate is sampled and tested in every round. -/
theorem round_plate (hcfg : s.cfg = some c) :
    (s.round c counts).panel.chans.length = s.panel.chans.length ∧
    (s.round c counts).chan 0 = (((s.chan 0).sampled c.panel s.act.mode (clampCount (counts.getD 0 0))).test c.panel 0 s.nowSub).1 := by
  cases hfull : s.fullRound with
  | false =>
    have hround := s.plateRound c.panel counts hfull
    rw [s.round_chans c counts hcfg, s.round_chan c counts hcfg]
    exact ⟨hround.length, hround.plate⟩
  | true =>
    have hround := s.testedRound_tested c.panel counts
    have hchans := s.round_chans_full c counts hcfg hfull
    have hplate : (s.round c counts).chan 0 = (s.testedRound c.panel counts).1.chan 0 := chan_congr _ _ 0 (by rw [hchans])
    refine ⟨(congrArg List.length hchans).trans hround.length, ?_⟩
    rw [hplate, hround.chan 0 (by decide), s.roundChan_eq c.panel counts _ 0 (by decide)]
    exact Channel.settled_dry _ c.panel _ _ s.nowSub 0 (.inl (by decide))

/-- A channel that there is, is found by its number. -/
theorem getElem?_chan {t : State} (hlength : t.panel.chans.length = s.panel.chans.length) (ch : Nat) (x : Channel)
    (hx : s.panel.chans[ch]? = some x) : s.chan ch = x ∧ t.panel.chans[ch]? = some (t.chan ch) := by
  have hch : ch < t.panel.chans.length := hlength ▸ (List.getElem?_eq_some_iff.mp hx).choose
  refine ⟨s.chan_of_getElem? ch x hx, ?_⟩
  rw [t.chan_of_getElem? ch _ (List.getElem?_eq_getElem hch), List.getElem?_eq_getElem hch]

/-- A round of the plate alone leaves the rest of the panel unit. -/
theorem round_others (hcfg : s.cfg = some c) (hdormant : s.act.mode = .dormant) (hno : s.panel.roundNo % 8 ≠ 0) :
    (∀ ch, 1 ≤ ch → (s.round c counts).panel.chans[ch]? = s.panel.chans[ch]?) ∧
    (s.round c counts).panel.pos = s.panel.pos ∧ (s.round c counts).panel.tracker = s.panel.tracker ∧
    (s.round c counts).panel.touched = s.panel.touched := by
  have hfull : s.fullRound = false := by
    rw [← Bool.not_eq_true, s.fullRound_iff]
    exact fun h => h.elim (absurd hdormant) hno
  have hround := s.plateRound c.panel counts hfull
  rw [(s.round_panel c hcfg counts).1]
  refine ⟨hround.other, ?_⟩
  dsimp only
  rw [hround.panel]
  exact ⟨rfl, rfl, rfl⟩

end State

/-- Settles O19: a round that is due notes its start and senses the plate, with all channels or alone. -/
theorem sampleRoundSensesThePlate : Obligations.SampleRoundSensesThePlate := by
  unfold Obligations.SampleRoundSensesThePlate
  intro s c counts hcfg hready
  rw [s.exec_sampleRound c counts hcfg hready]
  refine ⟨fun u hu hearly => ?_, fun hdue => ?_⟩
  · have hnot : ¬ s.roundDue = true := fun hdue => absurd (s.roundDue_iff.mp hdue u hu) (Nat.not_le.mpr hearly)
    rw [if_neg hnot]
  · rw [if_pos (s.roundDue_iff.mpr hdue)]
    obtain ⟨hlast, hno⟩ := s.round_noted c counts hcfg
    obtain ⟨hlength, hplate⟩ := s.round_plate c counts hcfg
    refine ⟨_, rfl, Front.round c counts (.refl s), hlast, hno, fun hdormant hodd => s.round_others c counts hcfg hdormant hodd,
      fun x hx hlive => ?_⟩
    obtain ⟨rfl, hy⟩ := s.getElem?_chan hlength 0 x hx
    rw [(s.chan 0).sampled_live c.panel _ _ hlive] at hplate
    refine ⟨_, hy, ?_⟩
    rw [hplate]
    obtain ⟨hgain, hfiltered, hbaseline, hdelta, -⟩ :=
      ((s.chan 0).filter c.panel s.act.mode (clampCount (counts.getD 0 0))).test_keeps c.panel 0 s.nowSub
    have htested := ((s.chan 0).filter c.panel s.act.mode (clampCount (counts.getD 0 0))).test_testedTo c.panel 0 s.nowSub hlive
    refine ⟨hgain, hfiltered, ?_, ?_, htested.spec hdelta⟩
    · rw [hbaseline, hfiltered]
      exact (s.chan 0).filter_baseline c.panel _ _
    · rw [hbaseline, hfiltered, hdelta]
      rfl

end Sys2Proof.Machine
end

section
/-! PROOFS. The slider position and the gesture tracker (R96, R97). -/

namespace Sys2Proof.Machine

/-- The time elapsed since an uptime in sub-ticks is longer than a limit in milliseconds (R97). -/
def Longer (now start limit : Nat) : Prop := 1024 * limit < 1000 * (now - start)

theorem exceeds_iff (now start limit : Nat) : exceeds (now - start) limit = true ↔ Longer now start limit := by
  unfold exceeds Longer
  rw [decide_eq_true_iff, Nat.mul_comm, Nat.mul_comm (now - start)]

theorem exceeds_eq_false_iff (now start limit : Nat) : exceeds (now - start) limit = false ↔ ¬ Longer now start limit := by
  rw [← exceeds_iff, Bool.not_eq_true]

namespace Tracker

variable (k : Tracker) (p : PanelParams) (pos now : Nat)

/-- The slider has moved far enough, soon enough (R97, step 2). -/
def Swipe : Prop := p.distance ≤ posDiff pos k.startPos ∧ ¬ Longer now k.startAt p.swipe

/-- A touch that has stayed long enough and has not moved (R97, step 4). -/
def Hold : Prop := Longer now k.onsetAt (max p.tap p.swipe) ∧ k.swiped = false ∧ ¬ k.Swipe p pos now ∧ k.held = false

theorem drag_swipe (h : k.Swipe p pos now) :
    k.drag p pos now =
      ({ k with startPos := pos, startAt := now, swiped := true }, [if k.startPos < pos then .swipeFwd else .swipeBack]) := by
  unfold drag
  exact if_pos ⟨h.1, by rw [exceeds_iff]; exact h.2⟩

theorem drag_late (h : ¬ k.Swipe p pos now) (hlate : Longer now k.startAt p.swipe) :
    k.drag p pos now = ({ k with startPos := pos, startAt := now }, []) := by
  unfold drag
  dsimp only
  rw [if_neg (by rw [exceeds_iff]; exact h), if_pos ((exceeds_iff _ _ _).mpr hlate)]

theorem drag_none (h : ¬ k.Swipe p pos now) (hlate : ¬ Longer now k.startAt p.swipe) : k.drag p pos now = (k, []) := by
  unfold drag
  dsimp only
  rw [if_neg (by rw [exceeds_iff]; exact h), if_neg (by rw [exceeds_iff]; exact hlate)]

theorem hold_eq (j : Tracker) :
    (Longer now j.onsetAt (max p.tap p.swipe) ∧ j.swiped = false ∧ j.held = false → j.hold p now = ({ j with held := true }, [.hold])) ∧
    (¬ (Longer now j.onsetAt (max p.tap p.swipe) ∧ j.swiped = false ∧ j.held = false) → j.hold p now = (j, [])) := by
  have hcond : (exceeds (now - j.onsetAt) (max p.tap p.swipe) = true ∧ ¬ j.swiped = true ∧ ¬ j.held = true) ↔
      (Longer now j.onsetAt (max p.tap p.swipe) ∧ j.swiped = false ∧ j.held = false) := by
    rw [exceeds_iff, Bool.not_eq_true, Bool.not_eq_true]
  unfold hold
  exact ⟨fun h => if_pos (hcond.mpr h), fun h => if_neg (mt hcond.mp h)⟩

/-- A drag followed by the test for a hold (R97, steps 2 to 4). -/
def followed : Tracker × List SelEvent :=
  (((k.drag p pos now).1.hold p now).1, (k.drag p pos now).2 ++ ((k.drag p pos now).1.hold p now).2)

/-- A swipe is no hold. -/
theorem followed_swipe (h : k.Swipe p pos now) :
    k.followed p pos now =
      ({ k with startPos := pos, startAt := now, swiped := true }, [if k.startPos < pos then .swipeFwd else .swipeBack]) := by
  unfold followed
  rw [k.drag_swipe p pos now h, (hold_eq p now _).2 (fun hh => Bool.noConfusion (show true = false from hh.2.1))]
  rfl

/-- Without a swipe a hold is told once. -/
theorem followed_still (h : ¬ k.Swipe p pos now) (d : Tracker) (hdrag : k.drag p pos now = (d, [])) (honset : d.onsetAt = k.onsetAt)
    (hswiped : d.swiped = k.swiped) (hheld : d.held = k.held) :
    (k.Hold p pos now → k.followed p pos now = ({ d with held := true }, [.hold])) ∧
    (¬ k.Hold p pos now → k.followed p pos now = (d, [])) := by
  obtain ⟨hyes, hno⟩ := hold_eq p now d
  have hcond : (Longer now d.onsetAt (max p.tap p.swipe) ∧ d.swiped = false ∧ d.held = false) ↔
      (Longer now k.onsetAt (max p.tap p.swipe) ∧ k.swiped = false ∧ k.held = false) := by rw [honset, hswiped, hheld]
  unfold followed
  rw [hdrag]
  refine ⟨fun hhold => ?_, fun hnot => ?_⟩
  · exact congrArg (fun q : Tracker × List SelEvent => (q.1, [] ++ q.2)) (hyes (hcond.mpr ⟨hhold.1, hhold.2.1, hhold.2.2.2⟩))
  · exact congrArg (fun q : Tracker × List SelEvent => (q.1, [] ++ q.2)) (hno fun hd => hnot ⟨(hcond.mp hd).1, (hcond.mp hd).2.1, h, (hcond.mp hd).2.2⟩)

/-- The tracker after a round that goes on touching the slider, and the gesture found (R97, steps 2 to 4). -/
theorem followed_eq (_ : Decidable (k.Swipe p pos now)) (_ : Decidable (k.Swipe p pos now ∨ Longer now k.startAt p.swipe))
    (_ : Decidable (k.Hold p pos now)) :
    k.followed p pos now =
      ({ k with
          startPos := if k.Swipe p pos now ∨ Longer now k.startAt p.swipe then pos else k.startPos
          startAt := if k.Swipe p pos now ∨ Longer now k.startAt p.swipe then now else k.startAt
          swiped := if k.Swipe p pos now then true else k.swiped
          held := if k.Hold p pos now then true else k.held },
       if k.Swipe p pos now then [if k.startPos < pos then .swipeFwd else .swipeBack]
       else if k.Hold p pos now then [.hold] else []) := by
  by_cases hswipe : k.Swipe p pos now
  · have hnohold : ¬ k.Hold p pos now := fun h => h.2.2.1 hswipe
    rw [k.followed_swipe p pos now hswipe]
    simp only [hswipe, hnohold, true_or, if_true, if_false]
  · by_cases hlate : Longer now k.startAt p.swipe
    · obtain ⟨hyes, hno⟩ := k.followed_still p pos now hswipe { k with startPos := pos, startAt := now }
        (k.drag_late p pos now hswipe hlate) rfl rfl rfl
      by_cases hhold : k.Hold p pos now
      · rw [hyes hhold]
        simp only [hswipe, hlate, hhold, or_true, if_true, if_false]
      · rw [hno hhold]
        simp only [hswipe, hlate, hhold, or_true, if_true, if_false]
    · obtain ⟨hyes, hno⟩ := k.followed_still p pos now hswipe k (k.drag_none p pos now hswipe hlate) rfl rfl rfl
      by_cases hhold : k.Hold p pos now
      · rw [hyes hhold]
        simp only [hswipe, hlate, hhold, or_self, if_true, if_false]
      · rw [hno hhold]
        simp only [hswipe, hlate, hhold, or_self, if_false]

/-- The gesture of a round that goes on touching the slider. -/
theorem followed_events :
    (k.Swipe p pos now → k.startPos < pos → (k.followed p pos now).2 = [.swipeFwd]) ∧
    (k.Swipe p pos now → pos ≤ k.startPos → (k.followed p pos now).2 = [.swipeBack]) ∧
    (k.Hold p pos now → (k.followed p pos now).2 = [.hold]) ∧
    (¬ k.Swipe p pos now → ¬ k.Hold p pos now → (k.followed p pos now).2 = []) := by
  classical
  rw [k.followed_eq p pos now inferInstance inferInstance inferInstance]
  refine ⟨fun hswipe hup => ?_, fun hswipe hdown => ?_, fun hhold => ?_, fun hno hnohold => ?_⟩
  · exact (if_pos hswipe).trans (congrArg (fun ev => [ev]) (if_pos hup))
  · exact (if_pos hswipe).trans (congrArg (fun ev => [ev]) (if_neg (Nat.not_lt.mpr hdown)))
  · exact (if_neg hhold.2.2.1).trans (if_pos hhold)
  · exact (if_neg hno).trans (if_neg hnohold)

/-- A tap is a short touch that has hardly moved (R97, step 5). -/
theorem release_eq :
    (¬ Longer now k.onsetAt p.tap → k.swiped = false → 2 * posDiff pos k.onsetPos < p.distance → k.release p pos now = [.tap]) ∧
    (Longer now k.onsetAt p.tap ∨ k.swiped = true ∨ p.distance ≤ 2 * posDiff pos k.onsetPos → k.release p pos now = []) := by
  have hcond : (¬ exceeds (now - k.onsetAt) p.tap = true ∧ ¬ k.swiped = true ∧ 2 * posDiff pos k.onsetPos < p.distance) ↔
      (¬ Longer now k.onsetAt p.tap ∧ k.swiped = false ∧ 2 * posDiff pos k.onsetPos < p.distance) := by
    rw [exceeds_iff, Bool.not_eq_true]
  unfold release
  refine ⟨fun hshort hswiped hnear => if_pos (hcond.mpr ⟨hshort, hswiped, hnear⟩), fun h => if_neg (mt hcond.mp ?_)⟩
  rintro ⟨hshort, hswiped, hnear⟩
  obtain hlong | hmoved | hfar := h
  · exact hshort hlong
  · exact Bool.noConfusion (hswiped.symm.trans hmoved)
  · exact absurd hnear (Nat.not_lt.mpr hfar)

end Tracker

namespace State

variable (s : State) (p : PanelParams)

/-! ### The slider (R96) -/

theorem sliderTouched_iff :
    s.sliderTouched = true ↔ ∃ ch x, 1 ≤ ch ∧ ch ≤ 4 ∧ s.panel.chans[ch]? = some x ∧ x.state = .active := by
  have hactive (ch : Nat) : s.panel.chanActive ch = true ↔ ∃ x, s.panel.chans[ch]? = some x ∧ x.state = .active := by
    unfold Panel.chanActive
    cases s.panel.chans[ch]? <;> simp
  unfold sliderTouched
  rw [List.any_eq_true]
  refine ⟨fun ⟨ch, hmem, htouch⟩ => ?_, fun ⟨ch, x, hlow, hhigh, hx, hstate⟩ => ?_⟩
  · obtain ⟨x, hx, hstate⟩ := (hactive ch).mp htouch
    simp only [List.mem_cons, List.not_mem_nil, or_false] at hmem
    exact ⟨ch, x, by omega, by omega, hx, hstate⟩
  · refine ⟨ch, ?_, (hactive ch).mpr ⟨x, hx, hstate⟩⟩
    simp only [List.mem_cons, List.not_mem_nil, or_false]
    omega

theorem sliderDelta_eq (ch : Nat) :
    s.sliderDelta ch =
      match s.panel.chans[ch]? with
      | some x => if x.state = .idle ∨ x.state = .active then x.delta.toNat else 0
      | none => 0 := by
  unfold sliderDelta chan
  rw [List.getD_eq_getElem?_getD]
  cases s.panel.chans[ch]? <;> rfl

/-- The slider position of a round (R96). -/
def roundPos : Nat := sliderPos (s.sliderDelta 1) (s.sliderDelta 2) (s.sliderDelta 3) (s.sliderDelta 4) s.panel.pos

/-! ### The gesture tracker (R97) -/

/-- A touch of the slider begins. -/
theorem slide_onset (htouch : s.sliderTouched = true) (hnew : s.panel.touched = false) :
    s.slide p =
      (s.modPanel fun q => { q with
        pos := s.roundPos, touched := true
        tracker := some { onsetPos := s.roundPos, onsetAt := s.nowSub, startPos := s.roundPos, startAt := s.nowSub, swiped := false, held := false } },
       []) := by
  unfold slide
  rw [if_pos htouch, hnew]
  rfl

/-- A touch of the slider goes on. -/
theorem slide_follow (htouch : s.sliderTouched = true) (hold : s.panel.touched = true) (k : Tracker) (hk : s.panel.tracker = some k) :
    s.slide p =
      (s.modPanel fun q => { q with pos := s.roundPos, tracker := some (k.followed p s.roundPos s.nowSub).1 },
       (k.followed p s.roundPos s.nowSub).2) := by
  unfold slide
  rw [if_pos htouch, hold, hk]
  rfl

/-- The slider is left. -/
theorem slide_leave (htouch : s.sliderTouched = false) :
    s.slide p =
      (s.clearTracker,
       match s.panel.tracker with
       | some k => if s.panel.touched then k.release p s.panel.pos s.nowSub else []
       | none => []) := by
  unfold slide
  dsimp only
  rw [if_neg (by rw [htouch]; exact nofun)]
  cases s.panel.tracker <;> rfl

end State

end Sys2Proof.Machine
end

section
/-! PROOFS. A round that samples all eight channels (R87 to R99). -/

namespace Sys2Proof.Machine

namespace Channel

variable (x : Channel) (p : PanelParams) (e : Edge) (wet : Bool) (now ch : Nat) (m : Mode) (r : Nat)

/-! ### What a round makes of a sampled channel (R88) -/

/-- A gain bit tried is the channel's whole round, but for its debounce counter. -/
theorem sampled_settled_bit (h : x.state = .calibrating) (hstep : x.calStep < 6) :
    ∃ d, (x.sampled p m r).settled p e wet now ch = { x.tryBit p r with debounce := d } := by
  rw [x.sampled_bit p m r h hstep]
  refine settled_inert _ p e wet now ch ?_ ?_
  · change x.state ≠ _
    rw [h]
    exact nofun
  · change x.state ≠ _
    rw [h]
    exact nofun

/-- A calibration that ends inside the band leaves a fresh channel. -/
theorem finalSample_fresh (hband : inBand p.target r = true) : (x.finalSample p r).Fresh p := by
  unfold finalSample
  rw [if_pos hband]
  refine ⟨rfl, rfl, rfl, rfl, ?_⟩
  rw [Int.mul_tdiv_cancel_left _ (by decide)]
  exact hband

theorem sampled_settled_done (h : x.state = .calibrating) (hstep : 6 ≤ x.calStep) (hthr : 1 ≤ p.threshold ch)
    (hband : inBand p.target r = true) : (x.sampled p m r).settled p e wet now ch = x.finalSample p r := by
  rw [x.sampled_final p m r h hstep]
  exact settled_fresh _ p e wet now ch hthr (x.finalSample_fresh p r hband)

/-- A calibration that ends outside the band leaves a failed channel. -/
theorem sampled_settled_failed (h : x.state = .calibrating) (hstep : 6 ≤ x.calStep) (hband : ¬ inBand p.target r = true) :
    ((x.sampled p m r).settled p e wet now ch).state = .failed ∧ ((x.sampled p m r).settled p e wet now ch).gain = x.gain := by
  have hfinal : x.finalSample p r = { x with state := .failed, debounce := 0 } := if_neg hband
  rw [x.sampled_final p m r h hstep, hfinal]
  obtain ⟨d, hd⟩ := settled_inert { x with state := .failed, debounce := 0 } p e wet now ch nofun nofun
  rw [hd]
  exact ⟨rfl, rfl⟩

theorem sampled_settled_none (h : x.state = .uncalibrated ∨ x.state = .failed) :
    ((x.sampled p m r).settled p e wet now ch).state = x.state := by
  rw [x.sampled_none p m r h]
  obtain ⟨d, hd⟩ := x.settled_inert p e wet now ch (by rcases h with h | h <;> rw [h] <;> exact nofun)
    (by rcases h with h | h <;> rw [h] <;> exact nofun)
  rw [hd]

end Channel

namespace State

variable (s : State) (c : Settings) (counts : List Nat)

/-! ### The slider as WET begins (R94) -/

/-- Of the touch channels, WET as it begins leaves none ACTIVE, so the slider is left. -/
theorem testedRound_untouched (p : PanelParams) (hdry : s.wet = false) (hwet : (s.testedRound p counts).1.wet = true) :
    (s.testedRound p counts).1.sliderTouched = false := by
  have hround := s.testedRound_tested p counts
  have henter : s.rainEdge p counts = .enter := (s.rainEdge_edgeOf p hround).1.mpr ⟨hdry, hwet⟩
  rw [← Bool.not_eq_true, sliderTouched_iff]
  rintro ⟨ch, x, hlow, hhigh, hx, hactive⟩
  rw [← chan_of_getElem? _ ch x hx, hround.chan ch (by omega), s.roundChan_eq p counts _ ch (by omega), hwet, henter,
    Channel.settled_wet _ p _ s.nowSub ch (by omega)] at hactive
  exact Channel.blocked_not_active _ hactive

theorem round_wetBegins (hcfg : s.cfg = some c) (hfull : s.fullRound = true) (hdry : s.wet = false)
    (hwet : (s.testedRound c.panel counts).1.wet = true) :
    (s.round c counts).panel.tracker = none ∧ (s.round c counts).panel.touched = false := by
  rw [(s.round_panel c hcfg counts).1, s.senseRound_eq c.panel counts hfull,
    slide_released _ c.panel (s.testedRound_untouched counts c.panel hdry hwet)]
  exact ⟨rfl, rfl⟩

/-! ### The calibrations that fail (R88) -/

/-- The calibrations that a round ends as failed. -/
def failing (p : PanelParams) : List Nat :=
  [0, 1, 2, 3, 4, 5, 6, 7].filter fun ch => (s.chan ch).fails p (clampCount (counts.getD ch 0))

theorem round_faults (hcfg : s.cfg = some c) (hfull : s.fullRound = true) :
    (s.rep.faulted (s.failing counts c.panel).length).FaultKept (s.round c counts).rep := by
  have hkept := (s.round_panel c hcfg counts).2
  rw [s.senseRound_eq c.panel counts hfull] at hkept
  dsimp only at hkept
  rw [(slide_panel _ c.panel).1, (s.testedRound_tested c.panel counts).state] at hkept
  exact hkept

theorem failing_eq (p : PanelParams) :
    s.failing counts p = (List.range 8).filter fun ch =>
      match s.panel.chans[ch]? with
      | some x => x.state == .calibrating && decide (6 ≤ x.calStep) &&
          decide (p.target / 8 < (((min (counts.getD ch 0) 4095 : Nat) : Int) - p.target).natAbs)
      | none => false := by
  refine List.filter_congr fun ch _ => ?_
  unfold chan
  rw [List.getD_eq_getElem?_getD]
  cases s.panel.chans[ch]? with
  | none => rfl
  | some x =>
    have hout (a b : Nat) : (!decide (a ≤ b)) = decide (b < a) := by
      rw [← decide_not]
      exact decide_eq_decide.mpr Nat.not_le
    exact congrArg (fun b => (x.state == .calibrating && decide (6 ≤ x.calStep)) && b) (hout _ _)

/-! ### The events (R98, R99) -/

/-- The state as the onsets of a round leave it, before its events (R99, step 5). -/
def onsetRound (p : PanelParams) : State := ((s.testedRound p counts).1.slide p).1.onsets (s.testedRound p counts).2

/-- What the onsets of a round leave, from what was before it. -/
theorem onsetRound_spec (hcfg : s.cfg = some c) :
    Front s (s.testedRound c.panel counts).1 ∧ Front s (s.onsetRound counts c.panel) ∧
    (s.onsetRound counts c.panel).panel = ((s.testedRound c.panel counts).1.slide c.panel).1.panel ∧
    (s.onsetRound counts c.panel).sel = s.sel ∧
    ((∃ ch, ch ≤ 6 ∧ s.Onset (s.testedRound c.panel counts).1 ch) →
      (s.onsetRound counts c.panel).act.mode = (if s.act.supplyLow = true then .quiet else .active) ∧
      (s.onsetRound counts c.panel).act.deadline =
        some (s.clk.upSec + if s.act.supplyLow = true then c.times.dormant else c.times.quiet)) ∧
    ((∀ ch, ch ≤ 6 → ¬ s.Onset (s.testedRound c.panel counts).1 ch) → (s.onsetRound counts c.panel).act = s.act) := by
  have hround := s.testedRound_tested c.panel counts
  have hfront : Front s (s.testedRound c.panel counts).1 :=
    ((Front.foldl (fun _ ch h => h.sampleChan c.panel ch _) (Front.noteRound (.refl s))).testRain c.panel).testChans c.panel _
  have hslid : Front s ((s.testedRound c.panel counts).1.slide c.panel).1 := hfront.slide c.panel
  have hslide := (slide_panel (s.testedRound c.panel counts).1 c.panel).1
  have hsel : ((s.testedRound c.panel counts).1.slide c.panel).1.sel = s.sel := by rw [hslide, hround.state]
  have hact : ((s.testedRound c.panel counts).1.slide c.panel).1.act = s.act := by rw [hslide, hround.state]
  have htook := onsetsTook ((s.testedRound c.panel counts).1.slide c.panel).1 c (hslid.cfg.trans hcfg) (s.testedRound c.panel counts).2
  have hedge (ch : Nat) (hch : ch ≤ 6) := s.channelEdge_enter_iff c.panel counts hround ch (by omega)
  refine ⟨hfront, hslid.trans htook.front, htook.panel, htook.sel.trans hsel, ?_, fun hno => ?_⟩
  · rintro ⟨ch, hch, honset⟩
    have hmem : (ch, Edge.enter) ∈ (s.testedRound c.panel counts).2 := by
      rw [hround.edges]
      exact List.mem_map.mpr ⟨ch, (mem_testedChannels ch).mpr (by omega), Prod.ext rfl ((hedge ch hch).mpr honset)⟩
    have hbegun := htook.some ⟨_, hmem, rfl⟩
    rw [hact, hslid.clk] at hbegun
    unfold onsetRound
    rw [hbegun]
    exact ⟨rfl, rfl⟩
  · refine (htook.none fun e he hent => ?_).trans hact
    rw [hround.edges] at he
    obtain ⟨ch, hch, rfl⟩ := List.mem_map.mp he
    have hlow := (mem_testedChannels ch).mp hch
    exact hno ch (by omega) ((hedge ch (by omega)).mp hent)

/-- The events of a round, from the edges found (R98). -/
theorem round_events (p : PanelParams) :
    (s.Onset (s.testedRound p counts).1 0 → presenceEvents (s.testedRound p counts).2 = [.presence]) ∧
    ((s.chan 0).state = .active → ((s.testedRound p counts).1.chan 0).state ≠ .active →
      presenceEvents (s.testedRound p counts).2 = [.absence]) ∧
    (¬ s.Onset (s.testedRound p counts).1 0 →
      ((s.chan 0).state = .active → ((s.testedRound p counts).1.chan 0).state = .active) →
      presenceEvents (s.testedRound p counts).2 = []) ∧
    ∀ ch ev, ch ≤ 6 →
      (s.Onset (s.testedRound p counts).1 ch → keyEvents (s.testedRound p counts).2 ch ev = [ev]) ∧
      (¬ s.Onset (s.testedRound p counts).1 ch → keyEvents (s.testedRound p counts).2 ch ev = []) := by
  have hround := s.testedRound_tested p counts
  have hpresence := presenceEvents_map (s.channelEdge p counts (s.testedRound p counts).1.wet)
  have hkey := keyEvents_map (s.channelEdge p counts (s.testedRound p counts).1.wet)
  have hes : (s.testedRound p counts).2 =
    [0, 1, 2, 3, 4, 5, 6].map fun ch => (ch, s.channelEdge p counts (s.testedRound p counts).1.wet ch) := hround.edges
  rw [← hes] at hpresence hkey
  have henter (ch : Nat) (hch : ch ≤ 6) := s.channelEdge_enter_iff p counts hround ch (by omega)
  have hleave := s.channelEdge_leave_iff p counts hround
  rw [hpresence]
  refine ⟨fun honset => ?_, fun hwas hends => ?_, fun hno hstays => ?_, fun ch ev hch => ⟨fun honset => ?_, fun hno => ?_⟩⟩
  · rw [(henter 0 (by decide)).mpr honset]
  · rw [hleave.mpr ⟨hwas, hends⟩]
  · have hnone : s.channelEdge p counts (s.testedRound p counts).1.wet 0 = .none := by
      cases hedge : s.channelEdge p counts (s.testedRound p counts).1.wet 0 with
      | none => rfl
      | enter => exact absurd ((henter 0 (by decide)).mp hedge) hno
      | leave => exact absurd (hstays (hleave.mp hedge).1) (hleave.mp hedge).2
    rw [hnone]
  · exact (hkey ch (by omega) ev).trans (if_pos ((henter ch hch).mpr honset))
  · exact (hkey ch (by omega) ev).trans (if_neg (mt (henter ch hch).mp hno))

theorem round_eq (hfull : s.fullRound = true) :
    s.round c counts =
      (((presenceEvents (s.testedRound c.panel counts).2 ++ ((s.testedRound c.panel counts).1.slide c.panel).2 ++
        keyEvents (s.testedRound c.panel counts).2 5 .ok ++ keyEvents (s.testedRound c.panel counts).2 6 .back).foldl selEvent
          (s.onsetRound counts c.panel)).syncLeave false).finishCal c := by
  unfold round onsetRound
  rw [s.senseRound_eq c.panel counts hfull]

/-- The panel unit before the slider's step of a round (R99, steps 1 to 3). -/
theorem testedRound_panel (hcfg : s.cfg = some c) (hfull : s.fullRound = true) :
    (s.testedRound c.panel counts).1.panel = { s.panel with
      chans := (s.round c counts).panel.chans, lastRound := (s.round c counts).panel.lastRound
      roundNo := (s.round c counts).panel.roundNo
      tracker := if s.wet = false ∧ (s.testedRound c.panel counts).1.wet = true then none else s.panel.tracker
      touched := if s.wet = false ∧ (s.testedRound c.panel counts).1.wet = true then false else s.panel.touched } := by
  have hround := s.testedRound_tested c.panel counts
  have hedge := (s.rainEdge_edgeOf c.panel hround).1
  obtain ⟨hlast, hno⟩ := s.round_noted c counts hcfg
  have hpanel := hround.panel
  rw [ite_congr_iff hedge rfl rfl, ite_congr_iff hedge rfl rfl] at hpanel
  rw [s.round_chans_full c counts hcfg hfull, hlast, hno]
  exact hpanel

end State

/-- Settles O20, with the tested round of a state, its channels, edges and events, and the slider's step. -/
theorem sampleRoundFiltersAndCalibrates : Obligations.SampleRoundFiltersAndCalibrates := by
  unfold Obligations.SampleRoundFiltersAndCalibrates
  refine ⟨fun s c counts hcfg hready hdue hall hprox htouch hwetthr => ?_, fun s p => ?_⟩
  · have hfull := s.fullRound_iff.mpr hall
    have hround := s.testedRound_tested c.panel counts
    have hchans := s.round_chans_full c counts hcfg hfull
    have hchan (ch : Nat) : (s.round c counts).chan ch = (s.testedRound c.panel counts).1.chan ch := State.chan_congr _ _ ch (by rw [hchans])
    have hwet : (s.round c counts).wet = (s.testedRound c.panel counts).1.wet := State.wet_eq_of_chan (hchan 7)
    have hedge := s.rainEdge_edgeOf c.panel hround
    have hthr (ch : Nat) : 1 ≤ c.panel.threshold ch := by
      unfold PanelParams.threshold
      split
      · exact hprox
      · split
        · exact hwetthr
        · exact htouch
    rw [s.exec_sampleRound c counts hcfg hready, if_pos (s.roundDue_iff.mpr hdue)]
    refine ⟨_, rfl, Front.round c counts (.refl s), fun ch x hch hx => ?_, ?_, ?_, ?_⟩
    · obtain ⟨rfl, hy⟩ := s.getElem?_chan ((congrArg List.length hchans).trans hround.length) ch x hx
      refine ⟨_, hy, ?_⟩
      rw [hchan ch, hround.chan ch hch, s.roundChan_eq c.panel counts _ ch hch, hwet]
      intro r f touch
      refine ⟨fun hlive => ?_, fun hcal hstep => ?_, fun hcal hstep => ⟨?_, fun hband => ?_, fun hband => ?_⟩, fun hnone => ?_⟩
      · have hto := Channel.settled_liveTo ((s.chan ch).filter c.panel s.act.mode r) c.panel (s.rainEdge c.panel counts)
          (s.testedRound c.panel counts).1.wet s.nowSub ch s.wet hlive (hthr ch) hedge
        rw [(s.chan ch).sampled_live c.panel _ _ hlive]
        refine ⟨hto.filtered, fun hno => ?_, fun hres => ?_, hto.blocked, hto.waits, fun hdry => (hto.tested hdry).spec (hto.kept ?_).2.2⟩
        · obtain ⟨hgain, hbaseline, hdelta⟩ := hto.kept hno
          refine ⟨hgain, hbaseline.trans ((s.chan ch).filter_baseline c.panel _ _), ?_⟩
          exact hdelta.trans (congrArg (fun b => (b - f).tdiv 16) hbaseline.symm)
        · obtain ⟨hbaseline, hdelta, hdebounce, hband⟩ := hto.reseeded hres
          refine ⟨hbaseline, hdelta, hdebounce, ?_⟩
          rw [ite_congr_iff (Channel.inBand_iff _ _) rfl rfl] at hband
          exact hband
        · rintro ⟨hin, -, hwas, -⟩
          exact hdry.elim (absurd hin) fun h => Bool.noConfusion (h.1.symm.trans hwas)
      · obtain ⟨d, hd⟩ := (s.chan ch).sampled_settled_bit c.panel (s.rainEdge c.panel counts)
          (s.testedRound c.panel counts).1.wet s.nowSub ch s.act.mode r hcal hstep
        exact hd ▸ ⟨hcal, rfl, rfl⟩
      · by_cases hband : inBand c.panel.target r = true
        · refine (congrArg Channel.gain ((s.chan ch).sampled_settled_done c.panel _ _ _ ch s.act.mode r hcal hstep (hthr ch) hband)).trans ?_
          unfold Channel.finalSample
          rw [if_pos hband]
        · exact ((s.chan ch).sampled_settled_failed c.panel _ _ _ ch s.act.mode r hcal hstep hband).2
      · have hin := (Channel.inBand_iff c.panel.target r).mpr hband
        have hdone := (s.chan ch).sampled_settled_done c.panel (s.rainEdge c.panel counts)
          (s.testedRound c.panel counts).1.wet s.nowSub ch s.act.mode r hcal hstep (hthr ch) hin
        rw [Channel.finalSample, if_pos hin] at hdone
        exact hdone ▸ ⟨rfl, rfl, rfl, rfl, rfl⟩
      · exact ((s.chan ch).sampled_settled_failed c.panel _ _ _ ch s.act.mode r hcal hstep
          (mt (Channel.inBand_iff c.panel.target r).mp hband)).1
      · exact (s.chan ch).sampled_settled_none c.panel _ _ _ ch s.act.mode r hnone
    · rw [hwet]
      exact fun hdry hbegins => s.round_wetBegins c counts hcfg hfull hdry hbegins
    · intro failing
      have hfailing : failing = (s.failing counts c.panel).length := congrArg List.length (s.failing_eq counts c.panel).symm
      have hfaults := s.round_faults c counts hcfg hfull
      rw [hfaults.count, hfaults.flag, hfailing, ReportUnit.faulted_flag]
      exact ⟨fun hlen => ReportUnit.faulted_count _ _ hlen, rfl⟩
    · intro onset
      have honset (ch : Nat) : onset ch ↔ s.Onset (s.testedRound c.panel counts).1 ch := by
        unfold State.Onset
        rw [← hchan ch]
        rfl
      obtain ⟨hu, hv, hvpanel, hvsel, hsome, hnone⟩ := s.onsetRound_spec c counts hcfg
      obtain ⟨hpresent, habsent, hneither, hkeys⟩ := s.round_events counts c.panel
      have hstays (ch : Nat) : (s.round c counts).panel.chans.getD ch Channel.initial = (s.testedRound c.panel counts).1.chan ch := hchan ch
      refine ⟨(s.testedRound c.panel counts).1, s.onsetRound counts c.panel, hu, hv, ?_, hvpanel, hvsel, ?_, ?_,
        presenceEvents (s.testedRound c.panel counts).2, keyEvents (s.testedRound c.panel counts).2 5 .ok,
        keyEvents (s.testedRound c.panel counts).2 6 .back, ?_, ?_, ?_, ?_, ?_, ?_, ?_, s.round_eq c counts hfull⟩
      · rw [hwet]
        exact s.testedRound_panel c counts hcfg hfull
      · rintro ⟨ch, hch, h⟩
        exact hsome ⟨ch, hch, (honset ch).mp h⟩
      · exact fun h => hnone fun ch hch => mt (honset ch).mpr (h ch hch)
      · rw [honset]
        exact hpresent
      · rw [hstays]
        exact habsent
      · rw [honset, hstays]
        exact hneither
      · rw [honset]
        exact (hkeys 5 .ok (by decide)).1
      · rw [honset]
        exact (hkeys 5 .ok (by decide)).2
      · rw [honset]
        exact (hkeys 6 .back (by decide)).1
      · rw [honset]
        exact (hkeys 6 .back (by decide)).2
  intro now inTouch part sum pos longer apart
  have hin : inTouch ↔ s.sliderTouched = true := s.sliderTouched_iff.symm
  have hpos : pos = s.roundPos := by
    unfold State.roundPos
    rw [s.sliderDelta_eq 1, s.sliderDelta_eq 2, s.sliderDelta_eq 3, s.sliderDelta_eq 4]
    rfl
  rw [hpos]
  refine ⟨fun htouch hnew => s.slide_onset p (hin.mp htouch) hnew, fun k htouch hold hk => ?_, fun hnone => ?_⟩
  · intro swipe hold'
    rw [s.slide_follow p (hin.mp htouch) hold k hk]
    refine ⟨?_, k.followed_events p s.roundPos s.nowSub⟩
    exact congrArg
      (fun q : Tracker × List SelEvent => { s with panel := { s.panel with pos := s.roundPos, tracker := some q.1 } })
      (k.followed_eq p s.roundPos s.nowSub _ _ _)
  · have hleft : s.sliderTouched = false := by rw [← Bool.not_eq_true, ← hin]; exact hnone
    rw [s.slide_leave p hleft]
    refine ⟨rfl, fun k hwas hk hshort hswiped hnear => ?_, fun k hk hlong => ?_, fun hno => ?_⟩
    · rw [hk, hwas]
      exact (k.release_eq p s.panel.pos s.nowSub).1 hshort hswiped hnear
    · rw [hk]
      have hempty := (k.release_eq p s.panel.pos s.nowSub).2 hlong
      dsimp only
      split
      · exact hempty
      · rfl
    · cases hk : s.panel.tracker with
      | none => rfl
      | some k => exact if_neg (by rw [hno.resolve_right (by rw [hk]; exact nofun)]; exact nofun)

end Sys2Proof.Machine
end

section
/-! PROOFS. What a change of the selection leaves of the composer (R101, R111, R123, R125). -/

namespace Sys2Proof.Machine

/-- From `x` to `y` a screen's cells, the entries of its rows, its strip and its scroll offset stand. -/
structure TextScreen.ShowKept (x y : TextScreen) : Prop where
  cells : y.cells = x.cells
  entries : y.entries = x.entries
  strip : y.strip = x.strip
  offset : y.offset = x.offset

theorem TextScreen.ShowKept.refl (x : TextScreen) : x.ShowKept x := ⟨rfl, rfl, rfl, rfl⟩

theorem TextScreen.ShowKept.trans {x y z : TextScreen} (h : x.ShowKept y) (h' : y.ShowKept z) : x.ShowKept z :=
  ⟨h'.cells.trans h.cells, h'.entries.trans h.entries, h'.strip.trans h.strip, h'.offset.trans h.offset⟩

/-- From `b` to `d` the composer shows the same on both screens, and nothing of its notices, its work and its count has changed. -/
structure Board.ShowKept (b d : Board) : Prop where
  text : ∀ scr, (b.text scr).ShowKept (d.text scr)
  lineNotice : d.lineNotice = b.lineNotice
  ownNotice : d.ownNotice = b.ownNotice
  build : d.build = b.build
  render : d.render = b.render
  lastN : d.lastN = b.lastN

namespace Board

theorem ShowKept.refl (b : Board) : b.ShowKept b := ⟨fun _ => .refl _, rfl, rfl, rfl, rfl, rfl⟩

theorem ShowKept.trans {b d v : Board} (h : b.ShowKept d) (h' : d.ShowKept v) : b.ShowKept v :=
  ⟨fun scr => (h.text scr).trans (h'.text scr), h'.lineNotice.trans h.lineNotice, h'.ownNotice.trans h.ownNotice,
    h'.build.trans h.build, h'.render.trans h.render, h'.lastN.trans h.lastN⟩

/-- A change of one screen's text side that shows the same. -/
theorem ShowKept.modText (b : Board) (scr : Screen) (f : TextScreen → TextScreen) (hf : ∀ x : TextScreen, x.ShowKept (f x)) :
    b.ShowKept (b.modText scr f) := by
  cases scr
  · exact ⟨fun scr => match scr with | .a => hf _ | .b => .refl _, rfl, rfl, rfl, rfl, rfl⟩
  · exact ⟨fun scr => match scr with | .a => .refl _ | .b => hf _, rfl, rfl, rfl, rfl, rfl⟩

end Board

theorem TextScreen.showKept_startScroll (x : TextScreen) (now period : Nat) : x.ShowKept (x.startScroll now period) := by
  unfold TextScreen.startScroll
  split <;> exact ⟨rfl, rfl, rfl, rfl⟩

namespace State

variable (s : State)

theorem showKept_markRows (scr : Screen) (rows : List Nat) : s.board.ShowKept (s.markRows scr rows).board := by
  unfold markRows
  split
  · exact .modText s.board scr (·.mark rows) fun _ => ⟨rfl, rfl, rfl, rfl⟩
  · exact .refl _

/-- A change to a mode other than DORMANT shows the same. -/
theorem showKept_boardMode (old new : Mode) (hnew : new ≠ .dormant) : s.board.ShowKept (s.boardMode old new).board := by
  unfold boardMode
  split
  next => exact absurd rfl hnew
  all_goals
    split
    · exact ⟨fun scr => match scr with
        | .a => TextScreen.showKept_startScroll _ _ _
        | .b => TextScreen.showKept_startScroll _ _ _, rfl, rfl, rfl, rfl, rfl⟩
    · exact .refl _

theorem showKept_activityEvent : s.board.ShowKept s.activityEvent.board := by
  unfold activityEvent
  split
  · unfold setMode
    split
    · exact .refl _
    · exact showKept_boardMode (s.modAct fun a => { a with mode := s.act.ceiling }) s.act.mode s.act.ceiling (ceiling_ne_dormant _)
  · exact .refl _

theorem showKept_fareEvent : s.board.ShowKept s.fareEvent.board := s.showKept_markRows _ _

theorem showKept_setSel (new : Selection) : s.board.ShowKept (s.setSel new).board := by
  have hsync : ((s.modSel fun _ => new).syncLeave (s.sel.state != new.state)).board = s.board := by
    rw [syncLeave_eq]
    rfl
  unfold setSel
  dsimp only
  generalize (s.modSel fun _ => new).syncLeave (s.sel.state != new.state) = t at hsync ⊢
  rw [← hsync]
  have hmarked := t.showKept_markRows .a [1, 2, 3, 4]
  have hfare : t.board.ShowKept (if s.sel.cursor = new.cursor ∧ s.sel.product = new.product then t.markRows .a [1, 2, 3, 4]
      else (t.markRows .a [1, 2, 3, 4]).fareEvent).board := by
    split
    · exact hmarked
    · exact hmarked.trans (showKept_fareEvent _)
  generalize (if s.sel.cursor = new.cursor ∧ s.sel.product = new.product then t.markRows .a [1, 2, 3, 4]
      else (t.markRows .a [1, 2, 3, 4]).fareEvent) = u at hfare ⊢
  split
  · exact .refl _
  · split
    · exact hfare
    · exact hfare.trans u.showKept_activityEvent

/-! ### The count of the departures shown (R113) -/

theorem handCount_same (n : Nat) (h : s.board.lastN = n) : s.handCount n = s := if_pos h

/-- Another count cuts the page to the new last one, and shows the same. -/
theorem handCount_new (n : Nat) (h : s.board.lastN ≠ n) :
    ({ s.board with lastN := n } : Board).ShowKept (s.handCount n).board ∧
    (s.handCount n).sel.page = min s.sel.page ((n + 2) / 3 - 1) := by
  have hform : s.handCount n =
      if lastPage n < s.sel.page then (s.modBoard fun b => { b with lastN := n }).setSel { s.sel with page := lastPage n }
      else s.modBoard fun b => { b with lastN := n } := if_neg h
  have hpage : lastPage n = (n + 2) / 3 - 1 := rfl
  rw [hform, hpage]
  split
  next hcut =>
    refine ⟨showKept_setSel (s.modBoard fun b => { b with lastN := n }) _, ?_⟩
    rw [setSel_sel_eq]
    exact (Nat.min_eq_right (Nat.le_of_lt hcut)).symm
  next hstays => exact ⟨.refl _, (Nat.min_eq_left (Nat.not_lt.mp hstays)).symm⟩

end State

end Sys2Proof.Machine
end

section
/-! PROOFS. The texts of a row build (R112 to R122). -/

namespace Sys2Proof.Machine

/-! ### Clock, countdown and calling list (R53, R114, R117, R122) -/

theorem serviceText_eq (hour t m : Nat) (hm : m = (t + 3600 * hour) % 86400 / 60) :
    serviceText hour t = [48 + m / 600, 48 + m / 60 % 10, 58, 48 + m % 60 / 10, 48 + m % 10] := by
  have hday : (t + 3600 * hour) % 86400 < 86400 := Nat.mod_lt _ (by decide)
  unfold serviceText civilOf clockText
  generalize (t + 3600 * hour) % 86400 = d at hm hday
  subst hm
  have hours : d / 3600 / 10 % 10 = d / 60 / 600 := by omega
  have units : d / 3600 % 10 = d / 60 / 60 % 10 := by omega
  have tens : d % 3600 / 60 / 10 % 10 = d / 60 % 60 / 10 := by omega
  have minutes : d % 3600 / 60 % 10 = d / 60 % 10 := by omega
  simp only [digits, List.nil_append, List.cons_append, hours, units, tens, minutes]

theorem minutesToGo_eq (exp : Nat) (now : Int) : minutesToGo exp now = (((exp : Int) - now).toNat + 59) / 60 := by
  unfold minutesToGo ceilDiv
  split
  · rfl
  · omega

theorem countdownText_eq (n : Nat) : countdownText n ++ [32] = [if n < 10 then 32 else 48 + n / 10 % 10, 48 + n % 10, 32] := by
  unfold countdownText
  split
  next h => rw [Nat.mod_eq_of_lt h]; rfl
  next => rfl

theorem callingNames_eq (c : Settings) (l : List Nat) :
    callingNames c l = (l.map fun code => namePiece c code true).intersperse (.text [44, 32]) := by
  induction l with
  | nil => rfl
  | cons x xs ih =>
    cases xs with
    | nil => rfl
    | cons y ys =>
      unfold callingNames
      rw [ih]
      rfl

theorem callingPieces_eq (c : Settings) (e : Entry) :
    callingPieces c e =
      if e.calling = [] then []
      else TextName.callingAt.piece true :: .text [32] ::
        (e.calling.map fun code => namePiece c code true).intersperse (.text [44, 32]) := by
  unfold callingPieces
  rw [callingNames_eq]
  exact ite_congr_iff List.isEmpty_iff rfl rfl

/-! ### A departure row (R114, R116 to R118) -/

theorem statusPieces_eq (b : Battery) (c : Settings) (e : Entry) (togo : Nat)
    (htogo : togo = (((e.exp : Int) - e.now b).toNat + 59) / 60) :
    statusPieces b c e =
      (if b.clock = .unset then [.text (List.replicate 9 32)]
       else if e.phase = .cancelled then [TextName.cancelled.piece false]
       else if e.timeliness = .stale then [TextName.delayed.piece false]
       else if e.phase = .due then [TextName.due.piece false]
       else if e.timeliness = .late then [TextName.expected.piece false, .text (32 :: serviceText b.hour e.exp)]
       else if e.phase = .waiting ∧ togo ≤ c.scr.countdown then
         [.text [if togo < 10 then 32 else 48 + togo / 10 % 10, 48 + togo % 10, 32], TextName.minutes.piece false]
       else if e.timeliness = .onTime then [TextName.onTime.piece false]
       else [.text (List.replicate 9 32)]) := by
  unfold statusPieces
  dsimp only
  rw [minutesToGo_eq, ← htogo, countdownText_eq]

/-- A departure row flashes while its train is due and not stale, and is in the alert colour while it is cancelled or stale (R118). -/
theorem paint_eq (e : Entry) (k : Colours) (row : Nat) :
    e.paint k row =
      (if e.phase = .cancelled ∨ e.timeliness = .stale then .steady k.alert (k.row row).2
       else if e.phase = .due then .flashing (k.row row).1 k.alert (k.row row).2 else .steady (k.row row).1 (k.row row).2) := by
  unfold Entry.paint Entry.flashes
  split
  next => rfl
  next hother =>
    have hfresh : (e.timeliness != .stale) = true := bne_iff_ne.mpr fun h => hother (.inr h)
    rw [hfresh, Bool.and_true]
    exact ite_congr_iff beq_iff_eq rfl rfl

/-! ### The departures a screen shows (R113) -/

theorem today_eq (e : Entry) (b : Battery) : e.today b = (e.relation b == .current || e.relation b == .previous) := by
  unfold Entry.today
  cases e.relation b <;> rfl

namespace State

variable (s : State) (c : Settings) (scr : Screen)

/-- The departures a screen shows, from the first of its page. -/
def view : List Entry :=
  (s.table.filter fun e =>
    (e.relation s.bat == .current || e.relation s.bat == .previous) && e.phase != .departed && (c.filter scr).passes e.dir).drop
      (if scr = .a then 3 * s.sel.page else 0)

theorem rowEntry_eq (row : Nat) (hrow : 1 ≤ row) : s.rowEntry c scr row = (s.view c scr)[row - 1]? := by
  have hshown : s.shownOn c scr = s.table.filter fun e =>
      (e.relation s.bat == .current || e.relation s.bat == .previous) && e.phase != .departed && (c.filter scr).passes e.dir := by
    unfold shownOn Entry.shownOn
    simp only [today_eq]
  have hpage : 3 * s.pageOf scr = if scr = .a then 3 * s.sel.page else 0 := by cases scr <;> rfl
  unfold rowEntry view
  rw [hshown, List.getElem?_drop, hpage, Nat.add_sub_assoc hrow]

/-! ### The builds (R118 to R120, R123) -/

/-- A build of a row with nothing in it yet. -/
def plainBuild (row : Nat) : Build :=
  { screen := scr, row := row, pieces := [], trimAll := false, entry := none, got := []
    paint := .steady ((c.colours scr).rows.getD row (0, 0)).1 ((c.colours scr).rows.getD row (0, 0)).2 }

theorem newBuild_header :
    s.newBuild c scr 0 =
      { plainBuild c scr 0 with pieces := [.fetch (Config.loadWord + 203) 26 false, .text (32 :: headerClock s.bat)] } := rfl

theorem newBuild_notice :
    s.newBuild c scr 4 = { plainBuild c scr 4 with pieces := (s.noticePieces c scr).1, trimAll := (s.noticePieces c scr).2 } := rfl

theorem newBuild_departure (row : Nat) (hlow : 1 ≤ row) (hhigh : row ≤ 3) :
    s.newBuild c scr row =
      match (s.view c scr)[row - 1]? with
      | some e => { plainBuild c scr row with
          pieces := departurePieces s.bat c e, paint := e.paint (c.colours scr) row, entry := some e.who }
      | none => plainBuild c scr row := by
  rw [← s.rowEntry_eq c scr row hlow]
  unfold newBuild
  dsimp only
  rw [if_neg (by omega), if_neg (by omega)]
  cases s.rowEntry c scr row <;> rfl

/-! ### Row 4 (R119, R120, R122) -/

theorem noticePieces_selection (ps : List Piece) (h : s.selectionPieces c = some ps) : s.noticePieces c .a = (ps, true) := by
  unfold noticePieces
  rw [if_pos rfl, h]

theorem noticePieces_none (h : (if scr = .a then s.selectionPieces c else none) = none) :
    s.noticePieces c scr =
      (match s.board.lineNotice, s.board.ownNotice, (s.view c scr).head? with
       | some n, _, _ => [.text n.text]
       | none, some n, _ => [.text n.text]
       | none, none, some e => callingPieces c e
       | none, none, none => [], false) := by
  unfold noticePieces
  rw [h, s.rowEntry_eq c scr 1 (Nat.le_refl 1), List.head?_eq_getElem?]
  cases s.board.lineNotice with
  | some n => rfl
  | none =>
    cases s.board.ownNotice with
    | some n => rfl
    | none => cases (s.view c scr)[0]? <;> rfl

theorem selectionPieces_choose (h : s.sel.state = .choose) :
    s.selectionPieces c = some
      (match s.sel.cursor with
       | none => [TextName.noTrains.piece false]
       | some code => [TextName.to.piece true, .text [32], namePiece c code false]) := by
  unfold selectionPieces
  rw [h]
  cases s.sel.cursor <;> rfl

theorem selectionPieces_confirm (h : s.sel.state = .confirm) :
    s.selectionPieces c = some
      (match s.sel.cursor.bind fun code => s.shownFare c code s.sel.product with
       | none => [s.sel.product.textName.piece true]
       | some fare => [s.sel.product.textName.piece true, .text (32 :: c.money.write fare)]) := by
  unfold selectionPieces
  rw [h]
  cases s.sel.cursor with
  | none => rfl
  | some code =>
    dsimp only [Option.bind_some]
    cases s.shownFare c code s.sel.product <;> rfl

theorem selectionPieces_other (hchoose : s.sel.state ≠ .choose) (hconfirm : s.sel.state ≠ .confirm) : s.selectionPieces c = none := by
  unfold selectionPieces
  cases h : s.sel.state with
  | choose => exact absurd h hchoose
  | confirm => exact absurd h hconfirm
  | idle => rfl
  | browse => rfl
  | handed => rfl

end State

end Sys2Proof.Machine
end

section
/-! PROOFS. The part cycles of a row build and of a cell render (R123, R126, R182). -/

namespace Sys2Proof.Machine

/-! ### The frame word of a line (R126) -/

/-- A word put together from eight pixels, left to right. -/
theorem foldl_pixels (v : Nat → Nat) :
    (List.range 8).foldl (fun n j => 4 * n + v j) 0 = ((List.range 8).map fun j => v j * 4 ^ (7 - j)).sum := by
  simp only [List.range_succ, List.range_zero, List.nil_append, List.cons_append, List.foldl_cons, List.foldl_nil, List.map_cons,
    List.map_nil, List.sum_cons, List.sum_nil]
  omega

theorem getLsbD_hiByte (w : Word) (i : Nat) (hi : i < 8) : (hiByte w).getLsbD i = w.getLsbD (8 + i) := by
  simp [hiByte, hi]

theorem getLsbD_loByte (w : Word) (i : Nat) (hi : i < 8) : (loByte w).getLsbD i = w.getLsbD i := by
  simp [loByte, hi]

theorem getLsbD_glyphLine (glyphs : List Word) (first l i : Nat) (hi : i < 8) :
    (glyphLine glyphs first l).getLsbD i = (glyphs.getD (first + l / 2) 0).getLsbD ((if l % 2 = 0 then 8 else 0) + i) := by
  unfold glyphLine
  dsimp only
  split
  · exact getLsbD_hiByte _ i hi
  · rw [Nat.zero_add]
    exact getLsbD_loByte _ i hi

theorem Render.pixel_eq (r : Render) (l j k : Nat) (hk : k = j + r.cell.shift) :
    r.pixel l j =
      (r.glyphs.getD ((if k < 8 then 0 else 8) + l / 2) 0).getLsbD ((if l % 2 = 0 then 8 else 0) + ((if k < 8 then 7 else 15) - k)) := by
  subst hk
  unfold Render.pixel
  dsimp only
  split
  · exact getLsbD_glyphLine _ _ _ _ (by omega)
  · exact getLsbD_glyphLine _ _ _ _ (by omega)

namespace State

variable (s : State) (c : Settings)

/-! ### The turn of a build or a render (R123, R182) -/

/-- The access of a build or a render that a part cycle takes. -/
theorem paintWants_of_turn (x : Access) (h : s.takesCycle .composer x) (hturn : s.noticeFirst = false) : s.paintWants = some x := by
  have hwants : s.composerWants = some x := h.2.2.2.1
  unfold composerWants at hwants
  rw [hturn] at hwants
  exact hwants

/-- Such a part cycle brings the composer's word. -/
theorem exec_partCycle_paint (x : Access) (h : s.takesCycle .composer x) (hturn : s.noticeFirst = false) :
    ∃ n, exec (.partCycle none) s = .next
      ((((({ s.landed x with free := n } : State).paintServed (s.fetched x)).setHold 0).settleLoad)) := by
  have hserved : ∃ n, (s.landed x).composerServed (s.fetched x) = ({ s.landed x with free := n } : State).paintServed (s.fetched x) := by
    have hlanded : (s.landed x).noticeFirst = false := by cases x <;> exact hturn
    have hpaint : (s.landed x).composerServed (s.fetched x) =
        (if (s.landed x).noticeWants.isSome && (s.landed x).paintWants.isSome then (s.landed x).drawn else s.landed x).paintServed
          (s.fetched x) := by
      unfold composerServed
      rw [hlanded]
    rw [hpaint]
    split
    · exact ⟨(s.landed x).free + 1, rfl⟩
    · exact ⟨(s.landed x).free, rfl⟩
  obtain ⟨n, hn⟩ := hserved
  refine ⟨n, ?_⟩
  rw [exec_partCycle_turn s .composer x h, ← hn]
  rfl

/-! ### A build (R118, R123, R124) -/

theorem paintServed_build (b : Build) (w : Word) (hbuild : s.board.build = some b) :
    s.paintServed w = s.goOnBuild { b with got := b.got ++ [w] } := by
  unfold paintServed
  rw [hbuild]

/-- A build that needs a further word waits for it. -/
theorem goOnBuild_more (b : Build) (h : b.got.length ≠ b.addrs.length) :
    s.goOnBuild b = { s with board := { s.board with build := some b } } := if_neg h

/-- A build that has its words completes: its screen takes the row. -/
theorem goOnBuild_last (b : Build) (h : b.got.length = b.addrs.length) (hcfg : s.cfg = some c) :
    ∃ y, (s.board.text b.screen).Took y b s.act.mode s.clk.upSec s.nowSub c.scr.scrollPeriod ∧
      s.goOnBuild b = { s with board := { s.board.modText b.screen (fun _ => y) with build := none } } := by
  have hperiod : s.scrollPeriod = c.scr.scrollPeriod := by
    unfold scrollPeriod
    rw [hcfg]
  refine ⟨_, TextScreen.took_complete (s.board.text b.screen) b s.act.mode s.clk.upSec s.nowSub c.scr.scrollPeriod, ?_⟩
  rw [← hperiod]
  refine Eq.trans (if_pos h) ?_
  unfold completeBuild
  cases b.screen <;> rfl

/-- The access a build waits for. -/
theorem paintWants_build (b : Build) (x : Access) (hcfg : s.cfg = some c) (hbuild : s.board.build = some b)
    (hwants : s.paintWants = some x) : ∃ a, x = .read a ∧ b.addrs[b.got.length]? = some a := by
  unfold paintWants at hwants
  rw [hcfg, hbuild] at hwants
  obtain ⟨a, ha, rfl⟩ := Option.map_eq_some_iff.mp hwants
  exact ⟨a, rfl, ha⟩

/-! ### A render (R126) -/

theorem paintWants_render (r : Render) (hcfg : s.cfg = some c) (hbuild : s.board.build = none) (hrender : s.board.render = some r) :
    s.paintWants = some (r.access c) := by
  unfold paintWants
  rw [hcfg, hbuild, hrender]

theorem paintServed_render (r : Render) (w : Word) (hbuild : s.board.build = none) (hrender : s.board.render = some r) :
    s.paintServed w = { s with board := { s.board with render := r.after w } } := by
  unfold paintServed
  rw [hbuild, hrender]
  rfl

end State

namespace Render

variable (r : Render) (c : Settings)

/-- While glyph words are to be fetched: the character's first, then the next one's. -/
theorem access_glyph (h : r.glyphs.length < r.need) :
    r.access c = .read (c.glyph + 8 * ((if r.glyphs.length < 8 then r.cell.char.getD 32 else r.cell.next) - 32) + r.glyphs.length % 8) := by
  refine (if_pos h).trans (congrArg Access.read ?_)
  have hneed : r.need ≤ 16 := by
    unfold need
    split <;> decide
  unfold glyphAddr
  split <;> omega

theorem after_glyph (w : Word) (h : r.glyphs.length < r.need) : r.after w = some { r with glyphs := r.glyphs ++ [w] } := if_pos h

/-- Then the frame words are written. -/
theorem access_frame (h : r.need ≤ r.glyphs.length) :
    r.access c = .write (c.win.cellWord r.screen r.index r.written) (r.word r.written) := if_neg (Nat.not_lt.mpr h)

theorem after_frame (w : Word) (h : r.need ≤ r.glyphs.length) :
    r.after w = if r.written < 15 then some { r with written := r.written + 1 } else none := if_neg (Nat.not_lt.mpr h)

theorem word_eq (l : Nat) :
    r.word l = BitVec.ofNat 16 ((List.range 8).map fun j => (if r.pixel l j = true then r.cell.fg else r.cell.bg) * 4 ^ (7 - j)).sum :=
  congrArg (BitVec.ofNat 16) (foldl_pixels fun j => if r.pixel l j = true then r.cell.fg else r.cell.bg)

end Render

namespace State

variable (s : State) (c : Settings)

/-! ### What the part cycles come to (R123, R126) -/

/-- A part cycle that brings a build a word, not its last. -/
theorem exec_partCycle_buildMore (b : Build) (a : Nat) (h : s.takesCycle .composer (.read a)) (hturn : s.noticeFirst = false)
    (hb : s.board.build = some b) (g : Build) (hg : g = { b with got := b.got ++ [s.peek a] })
    (hmore : b.got.length + 1 < b.addrs.length) :
    ∃ n, exec (.partCycle none) s = .next
      ({ s with free := n, board := { s.board with build := some g }, path := { s.path with hold := 0 } } : State).settleLoad := by
  obtain ⟨n, hexec⟩ := s.exec_partCycle_paint (.read a) h hturn
  refine ⟨n, ?_⟩
  have hlen : g.got.length = b.got.length + 1 := by rw [hg]; exact List.length_append
  have haddrs : g.addrs.length = b.addrs.length := by rw [hg]; rfl
  have hserved : ({ s with free := n } : State).paintServed (s.peek a) = { s with free := n, board := { s.board with build := some g } } := by
    rw [paintServed_build { s with free := n } b _ hb, ← hg, goOnBuild_more _ g (by omega)]
  rw [hexec]
  change Host.Outcome.next ((({ s with free := n } : State).paintServed (s.peek a)).setHold 0).settleLoad = _
  rw [hserved]
  rfl

/-- A part cycle that brings a build its last word. -/
theorem exec_partCycle_buildLast (b : Build) (a : Nat) (hcfg : s.cfg = some c) (h : s.takesCycle .composer (.read a))
    (hturn : s.noticeFirst = false) (hb : s.board.build = some b) (g : Build) (hg : g = { b with got := b.got ++ [s.peek a] })
    (hlast : b.addrs.length = b.got.length + 1) :
    ∃ n y, (s.board.text b.screen).Took y g s.act.mode s.clk.upSec s.nowSub c.scr.scrollPeriod ∧
      exec (.partCycle none) s = .next
        ({ s with
          free := n, board := { s.board.modText b.screen (fun _ => y) with build := none }
          path := { s.path with hold := 0 } } : State).settleLoad := by
  obtain ⟨n, hexec⟩ := s.exec_partCycle_paint (.read a) h hturn
  have hlen : g.got.length = b.got.length + 1 := by rw [hg]; exact List.length_append
  have haddrs : g.addrs.length = b.addrs.length := by rw [hg]; rfl
  have hscreen : g.screen = b.screen := by rw [hg]
  obtain ⟨y, htook, hy⟩ := goOnBuild_last { s with free := n } c g (by omega) hcfg
  rw [hscreen] at htook hy
  refine ⟨n, y, htook, ?_⟩
  have hserved : ({ s with free := n } : State).paintServed (s.peek a) =
      { s with free := n, board := { s.board.modText b.screen (fun _ => y) with build := none } } := by
    rw [paintServed_build { s with free := n } b _ hb, ← hg, hy]
  rw [hexec]
  change Host.Outcome.next ((({ s with free := n } : State).paintServed (s.peek a)).setHold 0).settleLoad = _
  rw [hserved]
  rfl

/-- A part cycle that brings a render a glyph word. -/
theorem exec_partCycle_glyph (r : Render) (a : Nat) (h : s.takesCycle .composer (.read a)) (hturn : s.noticeFirst = false)
    (hnone : s.board.build = none) (hr : s.board.render = some r) (hglyph : r.glyphs.length < r.need) :
    ∃ n, exec (.partCycle none) s = .next
      ({ s with
        free := n, board := { s.board with render := some { r with glyphs := r.glyphs ++ [s.peek a] } }
        path := { s.path with hold := 0 } } : State).settleLoad := by
  obtain ⟨n, hexec⟩ := s.exec_partCycle_paint (.read a) h hturn
  refine ⟨n, ?_⟩
  have hserved : ({ s with free := n } : State).paintServed (s.peek a) =
      { s with free := n, board := { s.board with render := some { r with glyphs := r.glyphs ++ [s.peek a] } } } := by
    rw [paintServed_render { s with free := n } r _ hnone hr, r.after_glyph _ hglyph]
  rw [hexec]
  change Host.Outcome.next ((({ s with free := n } : State).paintServed (s.peek a)).setHold 0).settleLoad = _
  rw [hserved]
  rfl

/-- A part cycle that writes a frame word of a render. -/
theorem exec_partCycle_frame (r : Render) (a : Nat) (v : Word) (h : s.takesCycle .composer (.write a v)) (hturn : s.noticeFirst = false)
    (hnone : s.board.build = none) (hr : s.board.render = some r) (hframe : r.need ≤ r.glyphs.length) :
    ∃ n, exec (.partCycle none) s = .next
      ({ s with
        free := n, mem := Memory.writeLanes s.mem a v .both
        board := { s.board with render := if r.written < 15 then some { r with written := r.written + 1 } else none }
        path := { s.path with hold := 0 } } : State).settleLoad := by
  obtain ⟨n, hexec⟩ := s.exec_partCycle_paint (.write a v) h hturn
  refine ⟨n, ?_⟩
  have hserved : ({ s with free := n, mem := Memory.writeLanes s.mem a v .both } : State).paintServed 0 =
      { s with
        free := n, mem := Memory.writeLanes s.mem a v .both
        board := { s.board with render := if r.written < 15 then some { r with written := r.written + 1 } else none } } := by
    rw [paintServed_render { s with free := n, mem := Memory.writeLanes s.mem a v .both } r _ hnone hr, r.after_frame _ hframe]
  rw [hexec]
  change Host.Outcome.next
    ((({ s with free := n, mem := Memory.writeLanes s.mem a v .both } : State).paintServed 0).setHold 0).settleLoad = _
  rw [hserved]
  rfl

end State

end Sys2Proof.Machine
end

section
/-! PROOFS. The start of a row build (R113, R123). -/

namespace Sys2Proof.Machine

namespace Board

theorem text_modText_self (b : Board) (scr : Screen) (f : TextScreen → TextScreen) : (b.modText scr f).text scr = f (b.text scr) := by
  cases scr <;> rfl

theorem text_modText_other (b : Board) {scr other : Screen} (f : TextScreen → TextScreen) (h : other ≠ scr) :
    (b.modText scr f).text other = b.text other := by
  cases scr with
  | a =>
    cases other with
    | a => exact absurd rfl h
    | b => rfl
  | b =>
    cases other with
    | a => rfl
    | b => exact absurd rfl h

theorem modText_rest (b : Board) (scr : Screen) (f : TextScreen → TextScreen) :
    (b.modText scr f).lineNotice = b.lineNotice ∧ (b.modText scr f).ownNotice = b.ownNotice ∧ (b.modText scr f).build = b.build ∧
    (b.modText scr f).render = b.render ∧ (b.modText scr f).lastN = b.lastN := by
  cases scr <;> exact ⟨rfl, rfl, rfl, rfl, rfl⟩

end Board

namespace State

variable (s : State) (c : Settings) (scr : Screen) (row : Nat)

/-! ### The count of the departures shown (R113) -/

/-- The count is a departure row's of screen A, and another one. -/
def Recounts : Prop := scr = .a ∧ (row = 1 ∨ row = 2 ∨ row = 3) ∧ (s.shownOn c .a).length ≠ s.board.lastN

theorem countShown_same (h : ¬ s.Recounts c scr row) : s.countShown c scr row = s := by
  unfold countShown
  split
  next hrow =>
    refine s.handCount_same _ ?_
    exact Classical.byContradiction fun hother => h ⟨hrow.1, by omega, Ne.symm hother⟩
  next => rfl

theorem countShown_new (h : s.Recounts c scr row) :
    ({ s.board with lastN := (s.shownOn c .a).length } : Board).ShowKept (s.countShown c scr row).board ∧
    (s.countShown c scr row).sel.page = min s.sel.page (((s.shownOn c .a).length + 2) / 3 - 1) := by
  obtain ⟨hscr, hrow, hother⟩ := h
  have hform : s.countShown c scr row = s.handCount (s.shownOn c .a).length := if_pos ⟨hscr, by omega, by omega⟩
  rw [hform]
  exact s.handCount_new _ (Ne.symm hother)

/-- The count shows the same, but for the number it hands on. -/
theorem countShown_showKept :
    ({ s.board with lastN := (s.countShown c scr row).board.lastN } : Board).ShowKept (s.countShown c scr row).board := by
  by_cases h : s.Recounts c scr row
  · have hkept := (s.countShown_new c scr row h).1
    have hcount : (s.countShown c scr row).board.lastN = (s.shownOn c .a).length := hkept.lastN
    rw [hcount]
    exact hkept
  · rw [s.countShown_same c scr row h]
    exact .refl _

/-! ### The start (R123) -/

/-- The next row's mark is taken. -/
def rowTaken : State := s.modBoard fun d => d.modText scr fun t => { t with marks := t.marks.set row false }

/-- The row's build as it begins: its mark taken, and the departures counted. -/
def rowBegun : State := (s.rowTaken scr row).countShown c scr row

theorem startBuild_eq : s.startBuild c scr row = (s.rowBegun c scr row).goOnBuild (s.newBuild c scr row) := rfl

theorem rowTaken_recounts : (s.rowTaken scr row).Recounts c scr row ↔ s.Recounts c scr row := by
  unfold Recounts rowTaken
  rw [modBoard_board, (s.board.modText_rest scr _).2.2.2.2]
  rfl

theorem rowTaken_text :
    ((s.rowTaken scr row).board.text scr) = { s.board.text scr with marks := (s.board.text scr).marks.set row false } ∧
    ∀ other, other ≠ scr → (s.rowTaken scr row).board.text other = s.board.text other :=
  ⟨s.board.text_modText_self scr _, fun _ h => s.board.text_modText_other _ h⟩

/-- What the beginning of a build leaves of the composer. -/
theorem rowBegun_spec :
    (s.board.text scr).ShowKept ((s.rowBegun c scr row).board.text scr) ∧
    (s.rowBegun c scr row).board.lineNotice = s.board.lineNotice ∧ (s.rowBegun c scr row).board.ownNotice = s.board.ownNotice ∧
    (s.rowBegun c scr row).board.build = s.board.build ∧ (s.rowBegun c scr row).board.render = s.board.render := by
  obtain ⟨htext, hline, hown, hbuild, hrender, -⟩ := (s.rowTaken scr row).countShown_showKept c scr row
  obtain ⟨rline, rown, rbuild, rrender, -⟩ :=
    s.board.modText_rest scr fun t => { t with marks := t.marks.set row false }
  have hself : (s.board.text scr).ShowKept ((s.rowTaken scr row).board.text scr) := by
    rw [(s.rowTaken_text scr row).1]
    exact ⟨rfl, rfl, rfl, rfl⟩
  exact ⟨hself.trans (htext scr), hline.trans rline, hown.trans rown, hbuild.trans rbuild, hrender.trans rrender⟩

theorem rowBegun_same (h : ¬ s.Recounts c scr row) : s.rowBegun c scr row = s.rowTaken scr row :=
  (s.rowTaken scr row).countShown_same c scr row (mt (s.rowTaken_recounts c scr row).mp h)

theorem rowBegun_new (h : s.Recounts c scr row) :
    (s.rowBegun c scr row).board.lastN = (s.shownOn c .a).length ∧
    (s.rowBegun c scr row).sel.page = min s.sel.page (((s.shownOn c .a).length + 2) / 3 - 1) := by
  obtain ⟨hkept, hpage⟩ := (s.rowTaken scr row).countShown_new c scr row ((s.rowTaken_recounts c scr row).mpr h)
  exact ⟨hkept.lastN, hpage⟩

theorem rowBegun_front : Front s (s.rowBegun c scr row) := .countShown c scr row (.modBoard _ (.refl s))

theorem newBuild_head : (s.newBuild c scr row).screen = scr ∧ (s.newBuild c scr row).row = row ∧ (s.newBuild c scr row).got = [] := by
  unfold newBuild
  dsimp only
  split
  · exact ⟨rfl, rfl, rfl⟩
  · split
    · exact ⟨rfl, rfl, rfl⟩
    · split <;> exact ⟨rfl, rfl, rfl⟩

/-- A build that needs no word is complete at once. -/
theorem startBuild_done (hcfg : s.cfg = some c) (h : (s.newBuild c scr row).addrs = []) :
    ∃ y, ((s.rowBegun c scr row).board.text scr).Took y (s.newBuild c scr row) (s.rowBegun c scr row).act.mode s.clk.upSec s.nowSub
        c.scr.scrollPeriod ∧
      s.startBuild c scr row = { s.rowBegun c scr row with
        board := { (s.rowBegun c scr row).board.modText scr (fun _ => y) with build := none } } := by
  have hfront := s.rowBegun_front c scr row
  obtain ⟨hscr, -, hgot⟩ := s.newBuild_head c scr row
  obtain ⟨y, htook, hy⟩ := (s.rowBegun c scr row).goOnBuild_last c (s.newBuild c scr row) (by rw [hgot, h]; rfl) (hfront.cfg.trans hcfg)
  rw [hscr] at htook hy
  have hnow : (s.rowBegun c scr row).nowSub = s.nowSub := by
    unfold nowSub
    rw [hfront.clk]
  rw [hnow, hfront.clk] at htook
  exact ⟨y, htook, hy⟩

/-- Any other waits for its first word. -/
theorem startBuild_waits (h : (s.newBuild c scr row).addrs ≠ []) :
    s.startBuild c scr row = { s.rowBegun c scr row with
      board := { (s.rowBegun c scr row).board with build := some (s.newBuild c scr row) } } := by
  refine (s.rowBegun c scr row).goOnBuild_more (s.newBuild c scr row) ?_
  rw [(s.newBuild_head c scr row).2.2]
  exact fun hlen => h (List.length_eq_zero_iff.mp hlen.symm)

/-- What a build changes as it starts, beyond its beginning: the build itself, and the screen's row when it is complete at once. -/
theorem startBuild_spec (hcfg : s.cfg = some c) :
    (s.startBuild c scr row).sel = (s.rowBegun c scr row).sel ∧ (s.startBuild c scr row).act = (s.rowBegun c scr row).act ∧
    (s.startBuild c scr row).board.render = (s.rowBegun c scr row).board.render ∧
    (s.startBuild c scr row).board.lineNotice = (s.rowBegun c scr row).board.lineNotice ∧
    (s.startBuild c scr row).board.ownNotice = (s.rowBegun c scr row).board.ownNotice ∧
    (s.startBuild c scr row).board.lastN = (s.rowBegun c scr row).board.lastN ∧
    ((s.startBuild c scr row).board.text scr).marks = ((s.rowBegun c scr row).board.text scr).marks ∧
    (∀ other, other ≠ scr → (s.startBuild c scr row).board.text other = (s.rowBegun c scr row).board.text other) ∧
    (s.startBuild c scr row).board.build = (if (s.newBuild c scr row).addrs = [] then none else some (s.newBuild c scr row)) := by
  by_cases hdone : (s.newBuild c scr row).addrs = []
  · obtain ⟨y, htook, hy⟩ := s.startBuild_done c scr row hcfg hdone
    obtain ⟨hline, hown, -, hrender, hlast⟩ := (s.rowBegun c scr row).board.modText_rest scr fun _ => y
    have hself : ((s.startBuild c scr row).board.text scr) = y := by
      rw [hy]
      exact (s.rowBegun c scr row).board.text_modText_self scr fun _ => y
    rw [hself, htook.marks, if_pos hdone, hy]
    exact ⟨rfl, rfl, hrender, hline, hown, hlast, rfl, fun _ hne => Board.text_modText_other _ _ hne, rfl⟩
  · rw [s.startBuild_waits c scr row hdone, if_neg hdone]
    exact ⟨rfl, rfl, rfl, rfl, rfl, rfl, rfl, fun _ _ => rfl, rfl⟩

/-- The row as a build that needs no word has it. -/
theorem startBuild_took (hcfg : s.cfg = some c) (h : (s.newBuild c scr row).addrs = []) :
    ((s.rowBegun c scr row).board.text scr).Took ((s.startBuild c scr row).board.text scr) (s.newBuild c scr row)
      (s.startBuild c scr row).act.mode s.clk.upSec s.nowSub c.scr.scrollPeriod := by
  obtain ⟨y, htook, hy⟩ := s.startBuild_done c scr row hcfg h
  have hself : ((s.startBuild c scr row).board.text scr) = y := by
    rw [hy]
    exact (s.rowBegun c scr row).board.text_modText_self scr fun _ => y
  rw [hself, hy]
  exact htook

end State

end Sys2Proof.Machine
end

section
/-! PROOFS. Row builds and cell renders (R111 to R127). -/

namespace Sys2Proof.Machine

/-- Settles O24, with the part cycles of a build and of a render, the texts, and the start of both. -/
theorem rowBuildAndCellRender : Obligations.RowBuildAndCellRender := by
  unfold Obligations.RowBuildAndCellRender
  refine ⟨fun s c x hcfg h hturn => ?_, fun b ps t a len trim got => ?_, fun s c hcfg hbuild hrender => ⟨?_, ?_, ?_⟩⟩
  · have hwants := s.paintWants_of_turn x h hturn
    refine ⟨fun b hb => ?_, fun r hnone hr => ?_⟩
    · obtain ⟨a, rfl, ha⟩ := s.paintWants_build c b x hcfg hb hwants
      exact ⟨⟨a, rfl, ha⟩, s.exec_partCycle_buildMore b a h hturn hb _ rfl, s.exec_partCycle_buildLast c b a hcfg h hturn hb _ rfl⟩
    · rw [s.paintWants_render c r hcfg hnone hr] at hwants
      obtain rfl := Option.some.inj hwants
      intro count need
      refine ⟨fun hglyph => ?_, fun hframe => ?_⟩
      · intro a
        have haccess : r.access c = .read a := r.access_glyph c hglyph
        exact ⟨haccess, s.exec_partCycle_glyph r a (haccess ▸ h) hturn hnone hr hglyph⟩
      · intro l place a lit v
        have hplace : c.win.cellWord r.screen r.index r.written = a := by
          have hframes : c.win.frame r.screen = place := by cases hscr : r.screen <;> simp only [place, hscr] <;> rfl
          unfold Windows.cellWord
          rw [hframes]
        have hword : r.word r.written = v := by
          have hpixels : ∀ j, r.pixel r.written j = lit j := fun j => r.pixel_eq r.written j _ rfl
          rw [r.word_eq]
          simp only [hpixels]
          rfl
        have haccess : r.access c = .write a v := by rw [r.access_frame c hframe, hplace, hword]
        exact ⟨haccess, s.exec_partCycle_frame r a v (haccess ▸ h) hturn hnone hr hframe⟩
  · refine ⟨rfl, rfl, rfl, ?_, ?_⟩
    · intro field
      have hfield : field = wordChars got len := (wordChars_eq got len).symm
      rw [hfield]
      rfl
    · refine congrArg (fun f : Piece → List Nat => b.pieces.flatMap f) (funext fun p => ?_)
      cases p <;> rfl
  · intro scr row hready hnext
    obtain ⟨hsel, hact, hren, hline, hown, hlast, hmarks, hothers, hnew⟩ := s.startBuild_spec c scr row hcfg
    obtain ⟨hkept, rline, rown, rbuild, rrender⟩ := s.rowBegun_spec c scr row
    have hexec : exec .rowBuild s = .next (s.startBuild c scr row) := by
      change execRowBuild s = _
      unfold execRowBuild
      rw [hcfg, hbuild, hrender, hnext]
      dsimp only
      rw [hready]
      rfl
    refine ⟨_, hexec, Front.startBuild c scr row (.refl s), hren.trans (rrender.trans hrender), hline.trans rline, hown.trans rown,
      hnew, fun hdone => ?_, fun hsame => ?_, fun hscr hrow hother => ?_, fun hheader => ?_⟩
    · refine ⟨(s.rowBegun c scr row).board.text scr, hkept.cells, hkept.entries, hkept.strip, hkept.offset, fun hrow => ?_,
        s.startBuild_took c scr row hcfg hdone⟩
      have hno : ¬ s.Recounts c scr row := fun h => by
        obtain ⟨-, hrows, -⟩ := h
        omega
      rw [s.rowBegun_same c scr row hno, (s.rowTaken_text scr row).1]
    · have hno : ¬ s.Recounts c scr row := by
        rintro ⟨hscr, hrows, hother⟩
        obtain rfl | hzero | hfour | hequal := hsame
        · exact nomatch hscr
        · omega
        · omega
        · exact hother hequal
      have hbegun := s.rowBegun_same c scr row hno
      rw [hmarks, hsel, hlast, hbegun]
      refine ⟨congrArg TextScreen.marks (s.rowTaken_text scr row).1, rfl, (s.board.modText_rest scr _).2.2.2.2, fun other hne => ?_⟩
      rw [hothers other hne, hbegun, (s.rowTaken_text scr row).2 other hne]
    · obtain ⟨hcount, hpage⟩ := s.rowBegun_new c scr row ⟨hscr, hrow, hother⟩
      rw [hlast, hsel]
      exact ⟨hcount, hpage⟩
    · subst hheader
      have hno : ¬ s.Recounts c scr 0 := fun h => by
        obtain ⟨-, hrows, -⟩ := h
        omega
      rw [s.startBuild_waits c scr 0 (by rw [s.newBuild_header]; exact nofun), s.rowBegun_same c scr 0 hno, s.newBuild_header]
      rfl
  · intro scr row hlow hhigh field name clock view pair b
    obtain ⟨hscr, hrow, hgot⟩ := s.newBuild_head c scr row
    have hclock (t : Nat) : serviceText s.bat.hour t = clock t := serviceText_eq _ t _ rfl
    refine ⟨hscr, hrow, hgot, fun hthree hnone => ?_, fun e hthree he => ?_, fun hfour => ?_⟩
    · have hb : b = State.plainBuild c scr row := by
        have hdeparture := s.newBuild_departure c scr row hlow hthree
        have hview : (s.view c scr)[row - 1]? = none := hnone
        rw [hview] at hdeparture
        exact hdeparture
      rw [hb]
      exact ⟨rfl, rfl, rfl⟩
    · intro togo
      have hb : b = { State.plainBuild c scr row with
          pieces := departurePieces s.bat c e, paint := e.paint (c.colours scr) row, entry := some e.who } := by
        have hdeparture := s.newBuild_departure c scr row hlow hthree
        have hview : (s.view c scr)[row - 1]? = some e := he
        rw [hview] at hdeparture
        exact hdeparture
      rw [hb]
      refine ⟨rfl, paint_eq e _ row, ?_⟩
      change departurePieces s.bat c e = _
      unfold departurePieces
      rw [statusPieces_eq s.bat c e togo rfl, hclock, hclock]
      rfl
    · subst hfour
      have hb := s.newBuild_notice c scr
      refine ⟨congrArg Build.entry hb, congrArg Build.paint hb, ?_⟩
      have hpieces : b.pieces = (s.noticePieces c scr).1 := congrArg Build.pieces hb
      have htrim : b.trimAll = (s.noticePieces c scr).2 := congrArg Build.trimAll hb
      intro product money
      rw [hpieces, htrim]
      refine ⟨fun ha hchoose => ?_, fun ha hconfirm => ?_, fun hother => ?_⟩
      · subst ha
        rw [s.noticePieces_selection c _ (s.selectionPieces_choose c hchoose)]
        exact ⟨rfl, rfl⟩
      · subst ha
        rw [s.noticePieces_selection c _ (s.selectionPieces_confirm c hconfirm)]
        have hproduct : s.sel.product.textName.piece true = product := by
          cases hkind : s.sel.product <;> simp only [product, hkind] <;> rfl
        rw [hproduct]
        refine ⟨rfl, ?_⟩
        dsimp only
        cases s.sel.cursor.bind fun code => s.shownFare c code s.sel.product <;> rfl
      · rw [s.noticePieces_none c scr ?_]
        · refine ⟨rfl, ?_⟩
          have hview : s.view c scr = view := rfl
          rw [hview]
          dsimp only
          cases s.board.lineNotice with
          | some n => rfl
          | none =>
            cases s.board.ownNotice with
            | some n => rfl
            | none =>
              cases view.head? with
              | none => rfl
              | some e => exact callingPieces_eq c e
        · split
          next ha => exact s.selectionPieces_other c (hother.resolve_left (by rw [ha]; exact nofun)).1 (hother.resolve_left (by rw [ha]; exact nofun)).2
          next => rfl
  · intro scr i hmarks hcell
    have hexec : exec .cellRender s = .next (s.modBoard fun b => b.startRender scr i) := by
      change execCellRender s = _
      unfold execCellRender
      rw [hcfg, hbuild, hrender, hmarks, hcell]
    rw [hexec]
    rfl

end Sys2Proof.Machine
end
